-- ==== Sys2Proof/Word.lean ====
section
/-!
DEFINITION. The word types of the model: what the spec treats as bits is a bit vector (R6); numbers of resources are
bounded naturals (R4).
-/

namespace Sys2Proof

abbrev Byte := BitVec 8

/-- A register, and a word of the CSR space (R6). -/
abbrev Word := BitVec 32

/-- A value held in a _LO and _HI pair of registers (R6). -/
abbrev Word64 := BitVec 64

/-- The 64 bytes of a line; byte k is bits 8k+7 to 8k. -/
abbrev Line := BitVec 512

/-- Byte enables of a line: bit k enables byte k. -/
abbrev Mask := BitVec 64

/-! ### Numbers of resources (R4) -/

abbrev Port := Fin 64
abbrev Tile := Fin 8
abbrev Bay := Fin 32
abbrev Inst := Fin 1024
abbrev FoldId := Fin 512
abbrev Edge := BitVec 12

end Sys2Proof
end

