-- ==== Sys2Proof/Types.lean ====
section
/-!
DEFINITION. The plain data that commands carry and the state holds: the internal message of R163 to R165, the
principals and requests of the Foern interface (R440 to R445), and the fault kinds' domain types (R489).
-/

namespace Sys2Proof

/-- The eight internal classes (R163), in their code order. -/
inductive Cls where
  | req | rwd | snp | rsp | drs | ion | iop | ioc
  deriving DecidableEq, Repr

/-- The class code of R163. -/
def Cls.code : Cls → Nat
  | .req => 0 | .rwd => 1 | .snp => 2 | .rsp => 3 | .drs => 4 | .ion => 5 | .iop => 6 | .ioc => 7

/-- The state a host holds a line in, as a completion grants it or a response states it (R273). -/
inductive Hold where
  | i | s | e | f
  deriving DecidableEq, Repr

/-- Completion status of a CXL.io completion. -/
inductive CplStatus where
  | sc | ur | ca | crs
  deriving DecidableEq, Repr

/-- What a message asks or answers. Requests to windows are the kinds of R274, snoops and the forwarding extension those
of R266 and R274, CXL.io TLPs those of R399; `other` is a standard opcode the switch carries without acting on it. -/
inductive Op where
  -- REQ
  | rdS | rdA | rdI | invA | cln
  | otherReq (opcode : BitVec 8) (expectsData : Bool)
  -- RWD
  | wrI | wrS | wrA | fwdData
  | otherRwd (opcode : BitVec 8)
  -- SNP
  | biInv | biData | fwdSnp
  | otherSnp (opcode : BitVec 8)
  -- RSP
  | cmp (h : Hold) | biRsp (h : Hold) | fwdNack | biConflict | biConflictAck
  | otherRsp (opcode : BitVec 8)
  -- DRS
  | data (h : Hold) | fData
  | otherDrs (opcode : BitVec 8)
  -- ION
  | mRd | mRdLk | ioRd | ioWr | cfgRd | cfgWr | atomic
  -- IOP
  | mWr | msg (code : BitVec 8) | msgD (code : BitVec 8) | intx (pin : Fin 4) (set : Bool) | errMsg (sev : Fin 3) | unlock
  -- IOC
  | cpl (st : CplStatus) | cplD (st : CplStatus)
  deriving DecidableEq, Repr

/-- The class of a message by what it is (R163, R399). -/
def Op.cls : Op → Cls
  | .rdS | .rdA | .rdI | .invA | .cln | .otherReq _ _ => .req
  | .wrI | .wrS | .wrA | .fwdData | .otherRwd _ => .rwd
  | .biInv | .biData | .fwdSnp | .otherSnp _ => .snp
  | .cmp _ | .biRsp _ | .fwdNack | .biConflict | .biConflictAck | .otherRsp _ => .rsp
  | .data _ | .fData | .otherDrs _ => .drs
  | .mRd | .mRdLk | .ioRd | .ioWr | .cfgRd | .cfgWr | .atomic => .ion
  | .mWr | .msg _ | .msgD _ | .intx _ _ | .errMsg _ | .unlock => .iop
  | .cpl _ | .cplD _ => .ioc

/-- Policer colour (R164). -/
inductive Colour where
  | green | yellow | red
  deriving DecidableEq, Repr

/-- An internal message: the common header of R164 and the class body of R165. `dst` is the multicast group when
`mcast` is set. `pay` is the payload of a CXL.io TLP; `selIde` marks a selective IDE TLP (R94). -/
structure Msg where
  op     : Op
  dst    : BitVec 12 := 0
  src    : BitVec 12 := 0
  sseq   : BitVec 32 := 0
  inst   : Option (Fin 1024) := none
  poison : Bool := false
  mcast  : Bool := false
  ldId   : BitVec 4 := 0
  colour : Colour := .green
  hops   : BitVec 5 := 0
  tag    : BitVec 16 := 0
  gen    : BitVec 16 := 0
  gseq   : BitVec 32 := 0
  addr   : BitVec 64 := 0
  be     : BitVec 64 := 0xFFFFFFFFFFFFFFFF
  line   : BitVec 512 := 0
  pay    : List (BitVec 8) := []
  selIde : Bool := false
  deriving DecidableEq, Repr

/-- The class of a message. -/
def Msg.cls (m : Msg) : Cls := m.op.cls

/-- The size in bytes of R165. -/
def Msg.bytes (m : Msg) : Nat :=
  match m.cls with
  | .req | .snp => 40
  | .rwd => 104
  | .rsp => 32
  | .drs => 96
  | .ion | .iop | .ioc => 64 + m.pay.length

/-- The 64-byte blocks a message occupies (R180). -/
def Msg.blocks (m : Msg) : Nat := (m.bytes + 63) / 64

/-- The 256-byte cells a message occupies (R180). -/
def Msg.cells (m : Msg) : Nat := (m.blocks + 3) / 4

/-- The charge of a message in bytes: 64 per unit of its cost (R229). -/
def Msg.charge (m : Msg) : Nat := 64 * m.blocks

/-- A configuration register that the spec gives contents to: a word of the header, or the slot status, of a vPPB (R172), of
the Port Identity DVSEC (R107), of the forwarding extension DVSEC (R264), and the capacity that the window device reports
(R260). -/
inductive CfgReg where
  /-- command register: bit 1 enables the memory windows -/
  | vppbCmd (v : Fin 32)
  /-- secondary bus number in [15:8], subordinate in [23:16] -/
  | vppbBus (v : Fin 32)
  /-- memory base in [15:4] and limit in [31:20], in MiB -/
  | vppbMem (v : Fin 32)
  /-- prefetchable memory base and limit, and their upper words -/
  | vppbPref (v : Fin 32) | vppbPrefBase (v : Fin 32) | vppbPrefLimit (v : Fin 32)
  /-- slot status: presence detect changed [3], presence [6], data link state changed [8] -/
  | vppbSlot (v : Fin 32)
  | portIdentity (word : Fin 6)
  | fwdExt (word : Fin 7)
  | dpaSize (word : Fin 2)
  deriving DecidableEq, Repr

/-- What the standard's decode of a message finds (R167, orders 2 to 5). The standard's BAR, HDM and cache ID decode lies
outside the spec; its result comes with the slot (log entry 8).
DESIGN CHOICE, unsafe: log entry 8. -/
inductive Decode where
  /-- already carries DST_EDGE: arrived on an interlink, or a response (orders 1 and 6) -/
  | edge
  /-- order 2: the window device's decoder range, with the decoded DPA -/
  | windowDev (dpa : BitVec 46)
  /-- order 2: BAR 2 of the window device, at this offset (R404) -/
  | bar2 (offset : BitVec 26)
  /-- order 3: one of the C64's own functions; `fn` numbers it -/
  | ownFn (fn : BitVec 8)
  /-- order 3: a register that the spec gives contents to -/
  | cfgReg (r : CfgReg)
  /-- order 3: a write that turns the window device's standard back-invalidation enable on or off (R263) -/
  | biEnable (on : Bool)
  /-- order 4: the host's hierarchy. A CXL.io memory or configuration request goes by the windows and bus numbers that the
  host programmed; any other message to the target of vPPB `v`, which the HDM decoders name -/
  | vppb (v : Fin 32)
  /-- order 5: upstream from a target, by LD_ID; `far` is the edge ID of a host port of another C64 that owns the logical
  device -/
  | upstream (far : Option (BitVec 12))
  /-- order 5: a CXL.cache message upstream, to the host port's edge ID that its cache ID names -/
  | cacheId (host : BitVec 12)
  /-- no match -/
  | none
  deriving DecidableEq, Repr

/-- Principals (R442). -/
inductive Principal where
  | factory | fm | monitor | host (p : Fin 64) | tenant (i : Fin 1024)
  deriving DecidableEq, Repr

/-- Detail codes of R444. -/
inductive Detail where
  | ok | resourceConflict | busyBackground | poolExhausted | wrongMode | stateMismatch | invalidParam
  | notQuiesced | privilege | factoryOnly | timeout
  deriving DecidableEq, Repr

/-- Standard return codes that R444 and R445 name. -/
inductive RetCode where
  | success | backgroundStarted | busy | invalidInput | invalidPayloadLength | retryRequired | unsupported | aborted
  deriving DecidableEq, Repr

/-- The transport a Foern request came by (R436, R440). -/
inductive Transport where
  | switchMbox (m : Fin 4)
  | hostMbox (p : Fin 64)
  | tenantMbox (i : Fin 1024)
  | bmcMctp (eid : BitVec 8)
  | vdmMctp (eid : BitVec 8)
  deriving DecidableEq, Repr

/-- A Foern or standard request as it reaches the firmware: its transport and its bytes, the 8-byte Foern header of
R443 first for a Foern opcode. -/
structure FoernReq where
  via : Transport
  raw : List (BitVec 8)
  deriving DecidableEq, Repr

/-- The DOE protocols of R92; any other is not supported. -/
inductive DoeProto where
  | discovery | cma | securedCma | cdat | other
  deriving DecidableEq, Repr

/-- What happens at a DOE mailbox (R92, R93): the partner puts a request object of `len` bytes into it; the C64 answers the
object it holds, and `ide` tells that this completes an SPDM session that establishes link IDE, `cert` that it was a
SET_CERTIFICATE of certificate slot 1 to 7 (R460), less 1, with its chain; or, on a target port, the C64
as requester completes such a session, with IDE_KM. -/
inductive DoeAct where
  | request (proto : DoeProto)
  | answer (ide : Bool) (cert : Option (Fin 7 × List (BitVec 8)) := none)
  | session
  deriving DecidableEq, Repr

/-- The error pattern of an RS(72,64) codeword: its 72 bytes, byte j at bits 8j + 7 to 8j; a bit that is 1 has flipped (R3). -/
abbrev CwErr := BitVec 576

/-- What lies over a cell when it is read (R184): nothing, an error pattern of a codeword of the cell, or one of the link memory. -/
inductive CellErr where
  | none
  | cell (e : CwErr)
  | link (e : CwErr)
  deriving DecidableEq, Repr

/-- What wakes Butre on an ACLK edge (R533). -/
inductive WakeEv where
  | perst | bmc | bayPrsnt (b : Fin 32) | bayAlert (b : Fin 32) | bayFault (b : Fin 32) | timer (n : Fin 4) | wakePin
  | gpio (n : Fin 16)
  deriving DecidableEq, Repr

/-- How a transfer on a bay bus ends (R580): the data read, no acknowledgement, or a clock line held low. -/
inductive BusResult where
  | data (bytes : List (BitVec 8)) | nack | hang
  deriving DecidableEq, Repr

/-- An MCTP control message (R438): Set Endpoint ID, the four that the C64 answers with what it is, or another. -/
inductive MctpCtl where
  | setEid (e : BitVec 8) | getEid | getUuid | getVersions | getTypes | other
  deriving DecidableEq, Repr

/-- The MCTP message types that the C64 supports (R438). -/
inductive MctpType where
  | control | fmApi | cci
  deriving DecidableEq, Repr

/-- The C64's answer to a control message; what a UUID and the version entries hold is the standard's. -/
inductive MctpAns where
  | eid (e : BitVec 8) | uuid | versions | types (l : List MctpType)
  deriving DecidableEq, Repr

/-- The payload of an MCTP packet that the C64 receives (R438): an MCTP control message; or a packet of a CXL message, with its start and end of message flags, packet sequence and message
tag. -/
inductive MctpPkt where
  | control (c : MctpCtl)
  | packet (som eom : Bool) (seq : Fin 4) (tag : Fin 8) (bytes : List (BitVec 8))
  deriving DecidableEq, Repr

/-- What the standard Transfer FW command asks for (R433, R439): a start with the slot it names, if it names one. -/
inductive FwAct where
  | start (slot : Option (Fin 2)) (total : Nat) | data (offset n : Nat) | finish | cancel
  deriving DecidableEq, Repr

/-- What the standard Physical Port Control command asks for, as PRT_CTL does (R110, R439). -/
inductive PortAct where
  | retrain | hotReset | disable (on : Bool)
  deriving DecidableEq, Repr

/-- A register that a host or the FM writes: a CSR address through BAR 2, or a word of the Port Identity DVSEC (R107) or of
the forwarding extension DVSEC (R264) of a host port. -/
inductive RegAddr where
  | csr (a : BitVec 28) | portIdentity (p : Fin 64) (word : Fin 3) | fwdExt (p : Fin 64) (word : Fin 4)
  deriving DecidableEq, Repr

/-- A Caravan burst header (R472). `cont`: a continuation; `off`: the byte offset of the segment. -/
structure BurstHead where
  stream : BitVec 8
  cont   : Bool
  kind   : BitVec 8
  version : BitVec 8
  seq    : BitVec 32
  off    : BitVec 32
  total  : BitVec 32
  node   : BitVec 16
  ftc    : BitVec 64
  crc    : BitVec 32
  deriving DecidableEq, Repr

/-- Fault domain types, in their code order (R499). -/
inductive DomType where
  | device | port | tile | cell | sliceWays | instance_ | fold | bay
  deriving DecidableEq, Repr

/-- A slot of an interlink flit (R126): its header fields, and the message whose bytes it carries, from byte 56 × `part` on. -/
structure IlSlot where
  vc     : BitVec 3
  pos    : BitVec 2
  colour : BitVec 2
  len    : BitVec 6
  icls   : BitVec 3
  part   : BitVec 4
  m      : Msg
  deriving DecidableEq, Repr

/-- The PARAM body (R149). -/
structure IlParam where
  node    : BitVec 16
  serial  : BitVec 64
  session : BitVec 16
  resume  : Bool
  quads   : BitVec 4
  rxExp   : BitVec 12
  pools   : List (BitVec 16)
  freed   : List (BitVec 16)
  deriving DecidableEq, Repr

/-- CTRL bodies (R149); `unknown` is a subtype or version outside the table. -/
inductive IlCtrl where
  | param (p : IlParam)
  | paramAck (session : BitVec 16) (resume : Bool)
  | retrainReq (width : BitVec 3) (reason : BitVec 8)
  | retrainAck (width : BitVec 3)
  | timeReq (id : BitVec 16) (t1 : BitVec 64)
  | timeRsp (id : BitVec 16) (t2 t3 : BitVec 64)
  | linkDown (why : BitVec 8)
  | unknown (subtype version : BitVec 8)
  deriving DecidableEq, Repr

/-- What the slot area of a flit holds (R124). -/
inductive IlBody where
  | data (slots : List IlSlot)
  | replay (slots : List IlSlot)
  | idle (credits : List (BitVec 16))
  | ctrl (c : IlCtrl)
  deriving DecidableEq, Repr

/-- The header fields of a flit (R123). -/
structure IlHdr where
  seq     : BitVec 12
  ack     : BitVec 12
  nak     : Option (BitVec 12)
  gbn     : Bool
  crVc    : BitVec 3
  crCount : BitVec 16
  deriving DecidableEq, Repr

/-- An interlink flit: the header of R123 and its body. -/
structure IlFlit where
  hdr  : IlHdr
  body : IlBody
  deriving DecidableEq, Repr

/-- A flit as it arrives: with the CRC-64 that it carries and the symbols that FEC corrected in it (R125, R133, R162). -/
structure IlArrival where
  flit : IlFlit
  crc  : BitVec 64
  sym  : Nat
  deriving DecidableEq, Repr

end Sys2Proof
end

