-- ==== Sys2Proof/Syntax.lean ====
section
/-!
DEFINITION. The commands of the block: one constructor per row of `spec/opcode_table.json`, with the operands its rule
names. A Foern command carries its request as it reaches the firmware; an event carries what arrived.
-/

namespace Sys2Proof

/-- DESIGN CHOICE, safe: log entry 7. DESIGN CHOICE, safe: log entry 66. -/
inductive Instr where
/-- VAUX comes up: cold reset of everything, Butre starts on ACLK, and the C64 is in Standby. (R40) -/
  | vauxPowerOn (pwrok sysRst perst testEn xtalByp : Bool)
/-- VAUX falls below its power-on reset threshold: Butre resets and every VR_EN falls; VAUX returning is a cold reset.
  (R532) -/
  | vauxBrownout
/-- The ingress link layer releases a slot header to the core, which decodes it, routes it, resolves its egress queue
  and raises its crossbar request (stages 1 to 4). (R22) -/
  | ingressSlot (p : Port) (flit : Nat) (dec : Decode) (m : Msg) (more : Fin 16) (ecrc : Bool)
/-- Each CCLK, every crossbar output grants one request, class 7 first and then by its rotating pointer. (R31) -/
  | crossbarArbitration
/-- A slot commits on the first edge on which it holds both a passing CRC verdict and its crossbar grant, and then
  traverses. (R25) -/
  | slotCommit (id : Nat) (verdict : Bool)
/-- A failing flit CRC verdict undoes the speculation of every slot of the flit within 3 CCLK. `fec`: the flit failed FEC
  correction; `rx`: a framing or symbol error came with it (R116). (R26) -/
  | flitCrcFail (p : Port) (flit : Nat) (fec rx : Bool)
/-- No edge of a reference clock for 1 us: FK_REFCLK_LOSS at L3 for the core PLL's reference clock, or at L2 with a
  tile fence otherwise. (R21) -/
  | refclkLoss (t : Tile)
/-- Command that requests a mode transition; it is held until the transition completes or fails. (R40) -/
  | setMode (r : FoernReq)
/-- Once the firmware is ready, self-test is done, configuration is applied and the configured tiles have left Off,
  the C64 enters Service or Degraded. (R40) -/
  | bringUpComplete (failed : BitVec 8)
/-- SYS_RESET# is asserted: warm reset and a new entry to Bring-up under R38. (R40) -/
  | sysResetAssert
/-- SYS_RESET# is deasserted: Bring-up proceeds from step 1 of the boot. (R40) -/
  | sysResetDeassert (straps : BitVec 7)
/-- PERST_IN# is asserted: warm reset and a new entry to Bring-up. (R40) -/
  | perstInAssert
/-- PERST_IN# is deasserted: Bring-up proceeds, or a wake starts from Standby. (R40) -/
  | perstInDeassert (straps : BitVec 7)
/-- TEST_EN falls in Factory Test: warm reset, test state cleared, and entry to Bring-up. (R40) -/
  | testEnDeassert
/-- SYS_PWROK deasserts: Butre drops the rails without saving the keep set and records the loss. (R40) -/
  | sysPwrokFall
/-- SYS_PWROK rises: a pending wake starts its sequence from this edge. (R524) -/
  | sysPwrokRise
/-- The Quiesce drain completes: the held SET_MODE is answered, or Standby entry continues. (R37) -/
  | quiesceDrainComplete
/-- tQUIESCE expires before the drain completes: SET_MODE answers TIMEOUT and the C64 stays in Quiesce. (R43) -/
  | quiesceTimeout
/-- The dead-agent walks of the Standby flush end: every entry is checked for state U, and the poisoned write-throughs
  are issued. (R41) -/
  | standbyWalksEnd
/-- Every poison write-through completes or times out: unfinished marks go to the keep set, MODE_REQ is set, OK is
  answered and the processor executes WFI. (R41) -/
  | standbyPoisonWritesDone
/-- On the first ACLK edge after MODE_REQ is set, Butre samples the FTC and the AOC into the cellar. (R61) -/
  | entryPairSample
/-- The management processor executes WFI, and the save engine copies the keep set into the cellar. (R527) -/
  | mpWfi
/-- tENTRY expires without WFI: Butre continues, sets NO_WFI and keeps FK_MODE_TRANSITION_FAIL as a pending record.
  (R527) -/
  | standbyEntryTimeout
/-- The keep set save completes: the fabric-die reset is asserted and channel disabling begins. (R527) -/
  | keepSetSaveDone
/-- tSEQ after the previous step, Butre disables the next rail channel in decreasing order; after the last it enters
  Standby and arms the wake sources. (R523) -/
  | railDisableStep
/-- Every tSYNC, the C64 measures its FTC offset against its source and slews or steps the FTC. (R57) -/
  | disciplineUpdate (ptm : Option (BitVec 64))
/-- No crystal edge for three RC cycles: ACLK switches to the RC oscillator, RC_NOW and RC_SEEN are set, and
  FK_AOC_SOURCE is raised. (R64) -/
  | crystalStop
/-- The crystal has run stably for 32,768 cycles, and ACLK switches to it. (R64) -/
  | crystalStable
/-- A GPIO holding claim 0x0101 outputs one edge per FTC second. (R74) -/
  | ftcPulseOutput (n : Fin 16)
/-- An edge on a GPIO holding claim 0x0102 captures the FTC. (R74) -/
  | ftcCaptureInput (n : Fin 16)
/-- A write to GLB_CLAIM_GPIOn claims or releases the GPIO, or is refused. (R612) -/
  | glbClaimGpioWrite (n : Fin 16) (v : BitVec 32)
/-- A write to GLB_TIME_CTL changes the FTC source from the next discipline update and restarts tSYNC. (R608) -/
  | glbTimeCtlWrite (v : BitVec 32)
/-- A write to GLB_NODE sets the node ID and FN_EDGE in Bring-up or Quiesce, or is ignored and sets MODE_WRITE. (R605)
  -/
  | glbNodeWrite (v : BitVec 32)
/-- A standard port completes training; a degraded result logs FK_LINK_DEGRADE, and UNIT_TIME is recomputed. (R98) -/
  | linkTrainingComplete (p : Port) (equalised width : Fin 8) (flits : BitVec 3) (reversed ide : Bool) (partnerRate : Fin 8)
/-- After link-up the partner identity is obtained, written and confirmed; it ends the layover window or flushes on a
  mismatch. (R106) -/
  | partnerIdentityRead (p : Port) (ident : Option (BitVec 64))
/-- The host sets VALID in the Port Identity DVSEC, and the C64 takes IDENT as the partner identity. (R107) -/
  | portIdentityValidWrite (p : Port)
/-- At each L0p INTERVAL the C64 evaluates utilisation and requests a narrower or full width. (R99) -/
  | l0pInterval (p : Port) (utilTx utilRx : Fin 128) (class7Held : Bool) (granted : Option Bool)
/-- The partner requests an L0p width, which the C64 grants or refuses. (R99) -/
  | l0pPartnerRequest (p : Port) (width : Fin 8)
/-- Writing 1 to PRT_CTL.RETRAIN retrains the link, or is ignored under R101. (R110) -/
  | prtCtlRetrain (p : Port)
/-- Writing 1 to PRT_CTL.HOT_RESET sends a hot reset on a target port. (R110) -/
  | prtCtlHotReset (p : Port)
/-- Setting or clearing PRT_CTL.LINK_DISABLE disables the link with reason 0x6, or lets the port train. (R110) -/
  | prtCtlLinkDisable (p : Port) (on : Bool)
/-- A standard port goes down: the reason is recorded, FK_LINK_DOWN is logged and the layover window starts. (R102) -/
  | linkDownDeclare (p : Port) (reason : Fin 16) (unacked : Nat)
/-- With FAST_DOWN, no signal on every lane throughout tLOS: FK_PHY_LOSS is logged and the port goes down with reason
  0x3. (R102) -/
  | phyLoss (p : Port) (unacked : Nat)
/-- A host port receives a hot reset: the port is down with a window of 0, the virtual bridges reset, and its
  instances reset. (R104) -/
  | hotResetReceived (p : Port)
/-- IDE integrity fails: FK_IDE_INTEGRITY is logged, the port goes down with reason 0x7, and both key sets are
  discarded. (R95) -/
  | ideIntegrityFail (p : Port) (unacked : Nat)
/-- IDE keys are refreshed from the next key set without loss of traffic. (R93) -/
  | ideKeyRefresh (p : Port) (done : Bool)
/-- A DOE mailbox accepts one request object and answers it. (R92) -/
  | doeRequest (p : Port) (mgmt : Bool) (act : DoeAct) (len : Nat)
/-- Command that applies the selected port configuration images. (R456) -/
  | portConfig (r : FoernReq)
/-- Command that returns port status and clears the selected error bits. (R455) -/
  | portStatus (r : FoernReq)
/-- Command that starts a retrain of a port at a named width or rate. (R457) -/
  | linkRetrain (r : FoernReq)
/-- Command that writes PRT_LAYOVER.WINDOW_US. (R457) -/
  | setLayover (r : FoernReq)
/-- An interlink sender emits its next flit: REPLAY first, then CTRL or new DATA, or IDLE, with ACK, NAK and credit
  fields. (R131) -/
  | ilFlitSend (p : Port)
/-- An interlink DATA or REPLAY flit passes its CRC, and is released, held, discarded as a duplicate, or starts
  go-back-N; ACK and credits are applied. (R133) -/
  | ilFlitReceive (p : Port) (f : IlArrival)
/-- An interlink flit fails its CRC and is discarded, and its early-released slots are undone. (R134) -/
  | ilFlitCrcFail (p : Port) (flit : Nat)
/-- An RS codeword cannot be corrected: its flits are treated as failing their CRC, FK_FLIT_UNCORR is logged, and
  UNCORR_LIM may start a retrain. (R122) -/
  | ilCodewordUncorrectable (p : Port) (flits : List Nat) (inMs : Nat)
/-- An IDLE flit delivers all six credit counts and its ACK, and may reveal missing sequences. (R150) -/
  | ilIdleReceive (p : Port) (h : IlHdr) (c0 c1 c2 c3 c4 c5 : BitVec 16)
/-- A PARAM body is received: leader, peer and pool checks are made, and PARAM_ACK sending begins. (R141) -/
  | ilParamReceive (p : Port) (h : IlHdr) (b : IlParam)
/-- PARAM_ACK is received: the port enters ACTIVE and resumes the session or starts a new one. (R142) -/
  | ilParamAckReceive (p : Port) (h : IlHdr) (session : BitVec 16) (resume : Bool)
/-- A RETRAIN_REQ is received and answered with RETRAIN_ACK, resolved under leader rules, or ignored in PAUSE. (R145)
  -/
  | ilRetrainReqReceive (p : Port) (h : IlHdr) (width : BitVec 3) (reason : BitVec 8)
/-- RETRAIN_ACK is received: both ends finish the flit in progress and enter PAUSE. (R144) -/
  | ilRetrainAckReceive (p : Port) (h : IlHdr) (width : BitVec 3)
/-- The partner's TIME_REQ is answered with TIME_RSP carrying t2 and t3. (R148) -/
  | ilTimeReqReceive (p : Port) (h : IlHdr) (id : BitVec 16) (t1 : BitVec 64)
/-- TIME_RSP is received, and the FTC offset is computed from t1 to t4. (R148) -/
  | ilTimeRspReceive (p : Port) (h : IlHdr) (id : BitVec 16) (t2 t3 : BitVec 64)
/-- The partner sends LINK_DOWN, and the port goes down with reason 0xA. (R146) -/
  | ilLinkDownReceive (p : Port) (h : IlHdr) (why : BitVec 8)
/-- A named missing flit has not arrived within tIL_NAK and is named again. (R134) -/
  | ilNakTimeout (p : Port) (seq : BitVec 12)
/-- Unacknowledged flits with no ACK advance for tIL_STALL: replay exhaustion and a retrain with reason 0x3. (R137) -/
  | ilStallTimeout (p : Port)
/-- An enabled interlink port leaves DOWN for DETECT 1 us after entry. (R139) -/
  | ilDownExit (p : Port)
/-- At least one quad shows signal, and the port enters TRAIN. (R139) -/
  | ilSignalDetect (p : Port) (lanes : BitVec 16)
/-- The quads in use are equalised at both ends; the width is chosen and the port enters LOCK. (R140) -/
  | ilEqualised (p : Port) (quads : BitVec 4) (reversed : Bool)
/-- Codeword lock and deskew are achieved, and the port enters PARAM. (R139) -/
  | ilCodewordLock (p : Port)
/-- tIL_TRAIN expires in TRAIN or LOCK, and the port returns to DETECT. (R139) -/
  | ilTrainTimeout (p : Port)
/-- tIL_PARAM expires in PARAM, and the port returns to DETECT. (R141) -/
  | ilParamTimeout (p : Port)
/-- Every 1 us in PARAM, the PARAM or PARAM_ACK body is sent again. (R141) -/
  | ilParamResend (p : Port)
/-- Every 1 us, the requesting end sends RETRAIN_REQ again until it is acknowledged. (R144) -/
  | ilRetrainReqResend (p : Port)
/-- tIL_RETRAIN expires before lock: a new attempt starts, or after three failed attempts the port goes DOWN with
  reason 0x9. (R144) -/
  | ilRetrainAttemptTimeout (p : Port)
/-- A message is admitted to the egress buffer once its class floor allows; multicast copies, layover hold limits and
  generation checks apply. (R181) -/
  | messageAdmit (k : Nat) (ports : List Port) (links : List (List Nat))
/-- A header-early I/O reservation is released after tIO_HOLD, and the TLP reverts to store-and-forward. (R179) -/
  | ioHoldTimeout (id : Nat)
/-- Each CCLK an egress port's scheduler selects up to two messages: class 7, then side buffers, then by virtual time.
  (R222) -/
  | schedulerSelect (p : Port) (link : List Nat) (room : Fin 3) (e0 e1 : CellErr)
/-- A straggler waits longer than STRAG_AGE, and FK_MCAST_STRAGGLER_AGE is logged once. (R191) -/
  | stragglerAgeExpiry (id : Nat)
/-- A port's layover window expires; its traffic is flushed with cause 0x1 as a port reset. (R198) -/
  | layoverExpiry (p : Port)
/-- Command that writes route entries into all eight copies on one edge. (R171) -/
  | routeWrite (r : FoernReq)
/-- Command that binds a vPPB to a target edge ID, run in the background. (R173) -/
  | bind (r : FoernReq)
/-- The internal path of a binding completes, and the hot-plug events are raised on the vPPB. (R173) -/
  | bindComplete (p : Port)
/-- Command that unbinds a vPPB in wait, managed or surprise mode. (R174) -/
  | unbind (r : FoernReq)
/-- A pending unbind completes once the host disables the link or turns slot power off. (R174) -/
  | unbindComplete (p : Port) (power : Bool)
/-- Command that configures a multicast group on one edge. (R192) -/
  | mcastGroupSet (r : FoernReq)
/-- Command that returns route entries. (R215) -/
  | routeRead (r : FoernReq)
/-- Command that returns a multicast entry. (R215) -/
  | mcastGroupRead (r : FoernReq)
/-- Command that sets a tile's auxiliary partition size and floors. (R186) -/
  | auxPartitionSet (r : FoernReq)
/-- Command that returns the 32 vPPB entries of a host port. (R215) -/
  | bindStatus (r : FoernReq)
/-- When auxiliary cells are freed, waiting functions are served in the order stragglers, Blend staging, telemetry.
  (R76) -/
  | auxWaiterServe (t : Tile)
/-- On each refill edge, shaper and policer buckets are refilled and capped, and red hold-queue heads are re-metered.
  (R229) -/
  | refillTick
/-- A hold-queue head that passes its test, or whose quota now allows it, is released, one per edge. (R235) -/
  | holdQueueRelease (i : Inst)
/-- The FTC enters a new gate entry, and service classes open or close. (R239) -/
  | gateWindowChange (p : Port) (overrun : Nat)
/-- A pending gate list takes over at BASE + k x CYCLE, and the fit check of R242 is made. (R241) -/
  | gateListTakeover (p : Port)
/-- Every PERIOD each enabled queue is sampled into its histograms, and optionally into a Caravan record. (R244) -/
  | histSample
/-- Setting or clearing SCH_HIST_CFG.FREEZE stops or resumes histogram updates. (R245) -/
  | schHistFreeze (on : Bool)
/-- Writing 1 to SCH_HIST_CFG.CLEAR zeroes every histogram bin on one edge. (R245) -/
  | schHistClear
/-- Command that writes word 0 of queue table entries. (R253) -/
  | queueConfig (r : FoernReq)
/-- Command that sets a queue's shaper rate and burst from the next refill. (R231) -/
  | shaperSet (r : FoernReq)
/-- Command that configures a policer entry from the next refill. (R237) -/
  | policerSet (r : FoernReq)
/-- Command that accepts a pending gate list, or turns the gate off. (R241) -/
  | gateListSet (r : FoernReq)
/-- Command that sets the histogram period and optionally clears the histograms. (R253) -/
  | latencySampleCfg (r : FoernReq)
/-- Command that sets a port's class map and transit policer binding. (R254) -/
  | classMapSet (r : FoernReq)
/-- Command that returns run-time words of queue entries. (R253) -/
  | queueStatus (r : FoernReq)
/-- Command that sets the refill interval and recomputes the rates at the next refill. (R254) -/
  | schedCtlSet (r : FoernReq)
/-- Command that returns a queue's histogram bins. (R253) -/
  | histRead (r : FoernReq)
/-- Each CCLK a slice's tollgate absorbs responses and accepts one operation from lane W, P or Q, stamping and running
  it or parking it. (R279) -/
  | tollgateEdge (t : Tile)
/-- A held back-invalidate or forward response is released to the tollgate once the holder's earlier RWD and CLN for
  the line are accepted. (R297) -/
  | biResponseRelease (p : Port) (line : BitVec 46)
/-- BIConflictAck is sent once the host's earlier requests for the line have completed and been handed off. (R301) -/
  | biConflictAck (p : Port) (line : BitVec 46)
/-- A back-invalidate or forward is unanswered within BI_TIMEOUT, and the host is declared dead with cause 0x3. (R320)
  -/
  | biTimeoutExpiry (p : Port) (line : BitVec 46)
/-- Every slice finishes its dead-agent walk; the DEAD bit clears and the port may train again. (R323) -/
  | deadAgentWalkEnd (p : Port)
/-- Writing 1 to ENABLE of the Forwarding DVSEC activates the extension, or sets OPC_ERR. (R265) -/
  | fwdDvsecEnable (p : Port) (ok : Bool)
/-- On an idle tollgate edge a queued hint is accepted, or dropped, and the target read is issued. (R312) -/
  | prefetchHintAccept (t : Tile)
/-- A prefetch read returns into the prefetch buffer, or sets a poison mark on error. (R313) -/
  | prefetchReadReturn (t : Tile) (id : Fin 4096) (data : Line) (poison : Bool)
/-- A buffered prefetch line is dropped tPF_LIFE after its arrival. (R314) -/
  | prefetchLineExpiry (t : Tile) (line : BitVec 46)
/-- Every tSCRUB a slice scrubs the next set row, correcting the row or retiring ways on an uncorrectable codeword; a
  look-up that finds errors does the same to its row. (R315) -/
  | scrubRowRead (t : Tile) (look : Option (BitVec 18)) (errs : List CwErr)
/-- A target read or write runs past tTGT: poisoned data for a read, or a poison mark and a reclaim record for a
  write. (R319) -/
  | targetTimeout (t : Tile) (write : Bool) (id : Fin 4096)
/-- The quota search finds an entry of the instance to evict, and the waiting request continues. (R369) -/
  | dirQuotaVictimFound (t : Tile) (id : Fin 4096)
/-- Command that creates a Coherent Shared Window. (R295) -/
  | windowCreate (r : FoernReq)
/-- Command that starts the destruction of a window in the background. (R295) -/
  | windowDestroy (r : FoernReq)
/-- All target accesses of the window have ended; its marks and prefetch lines are cleared and VALID is cleared.
  (R295) -/
  | windowDestroyComplete (w : Fin 256)
/-- Command that walks the directory and back-invalidates a host's holdings. (R295) -/
  | dirFlushHost (r : FoernReq)
/-- The flush walk ends, and the count of lines invalidated is reported. (R295) -/
  | dirFlushWalkEnd (host : Option Port) (window : Option (Fin 256))
/-- Command that declares a host dead with cause 0x4. (R320) -/
  | agentDeclareDead (r : FoernReq)
/-- Command that enables or disables prefetch and sets its depth for a window. (R295) -/
  | prefetchCfg (r : FoernReq)
/-- Command that sets or revokes a host port's grant. (R295) -/
  | windowGrant (r : FoernReq)
/-- The back-invalidation of a revoked grant's lines completes. (R295) -/
  | windowGrantRevokeComplete (p : Port) (g : Fin 32)
/-- Command that returns a window's entry words and entry count. (R294) -/
  | windowStatus (r : FoernReq)
/-- Command that returns the 16 entries of a directory set. (R294) -/
  | dirSetRead (r : FoernReq)
/-- Command that streams directory set rows onto Caravan in the background. (R294) -/
  | dirDump (r : FoernReq)
/-- The directory dump finishes. (R294) -/
  | dirDumpComplete
/-- Command that clears the poison marks of a range of window lines in the background. (R333) -/
  | dirMarkClear (r : FoernReq)
/-- The mark clearing finishes and reports the number of marks cleared. (R333) -/
  | dirMarkClearComplete (w : Fin 256)
/-- A request to a fold window is accepted as a contribution, staged, held, or answered as a violation. (R341) -/
  | foldRequest (t : Tile) (unc : Bool)
/-- A staged line that has become next is combined into the accumulator. (R342) -/
  | blendStagedDrain (t : Tile) (unc : Bool)
/-- The last result write of a fold completes, and the fold enters DONE. (R349) -/
  | foldResultWriteComplete (f : FoldId)
/-- On the edge after DONE, an auto-rearm fold reopens with the next epoch and accepts its held writes. (R351) -/
  | foldRearm (f : FoldId)
/-- tFOLD expires before WRITING, and the fold is abandoned with cause 0x1. (R352) -/
  | foldTimeout (f : FoldId)
/-- Command that opens a fold and allocates its cells. (R362) -/
  | foldOpen (r : FoernReq)
/-- Command that closes or aborts a fold and frees it. (R362) -/
  | foldClose (r : FoernReq)
/-- Command that returns a fold's status words. (R361) -/
  | foldStatus (r : FoernReq)
/-- Command that creates an instance, takes its quotas and assigns its VF. (R370) -/
  | instanceCreate (r : FoernReq)
/-- Command that resets an instance under its size class. (R375) -/
  | instanceReset (r : FoernReq)
/-- A Function Level Reset of an instance's VF resets the instance. (R374) -/
  | vfFlr (i : Inst)
/-- tSQUASH expires during a reset or freeze, and the outstanding requests are squashed. (R375) -/
  | squashTimeout (i : Inst)
/-- No request of the old generation remains: the generation is raised, the reset is reported, and the held requests
  are released. (R375) -/
  | instanceResetDrained (i : Inst)
/-- Command that starts freezing an instance and its directory walk. (R380) -/
  | instanceFreeze (r : FoernReq)
/-- The walks and back-invalidates finish, and the instance enters FROZEN, or FREE for a destroy. (R380) -/
  | instanceFreezeComplete (i : Inst)
/-- A held request of a frozen instance waits tFROZEN and is answered as a squash. (R381) -/
  | frozenWaitTimeout (i : Inst)
/-- Command that saves the instance blob by Caravan or in mailbox chunks. (R382) -/
  | instanceSave (r : FoernReq)
/-- The hold queue has emptied; the instance enters SAVING and the blob is sent. (R382) -/
  | instanceSaveStart (i : Inst)
/-- The last blob byte is sent, and the instance returns to FROZEN. (R382) -/
  | instanceBlobSent (i : Inst)
/-- Command that creates a FROZEN instance from a blob. (R384) -/
  | instanceRestore (r : FoernReq)
/-- Command that returns a FROZEN instance to ACTIVE and releases its held requests. (R385) -/
  | instanceThaw (r : FoernReq)
/-- Command that freezes an instance if needed and frees it. (R386) -/
  | instanceDestroy (r : FoernReq)
/-- Command that returns the instance entry words. (R396) -/
  | instanceStatus (r : FoernReq)
/-- Command that replaces a frozen instance's translation table and recomputes its class. (R397) -/
  | instanceXlateSet (r : FoernReq)
/-- Command that sets the device quota pool sizes. (R397) -/
  | instancePoolSet (r : FoernReq)
/-- An event is delivered once its source's DONE reaches its stamp: INTx, hot-plug, error message or event record.
  (R406) -/
  | eventDeliver (p : Port)
/-- The device lock token is granted to the oldest waiting MRdLk. (R410) -/
  | lockGrant
/-- At level 2 the MRdLk is forwarded once the target's queues hold no ION or IOP of another source. (R412) -/
  | lockForward
/-- The holder's Unlock is forwarded, the token is freed, and waiting traffic is released. (R412) -/
  | unlockReceive (p : Port)
/-- tLOCK expires: the C64 sends Unlock itself, frees the token and logs FK_BRG_LOCK_TIMEOUT. (R413) -/
  | lockTimeout
/-- A tracked ION has no completion within tIO_CPL and is answered with Completer Abort. (R415) -/
  | ioCplTimeout (p : Port) (src : Edge) (tag : BitVec 16)
/-- Command that writes BRG_CTL. (R426) -/
  | bridgeCfg (r : FoernReq)
/-- Command that returns BRG_LOCK and the grant time. (R425) -/
  | lockStatus (r : FoernReq)
/-- Command that sets a multicast aperture entry. (R426) -/
  | mcastApertureSet (r : FoernReq)
/-- Command that forces the lock token free with cause 0x3. (R426) -/
  | lockRelease (r : FoernReq)
/-- The firmware takes its configuration, arms the watchdog and reaches ready; the Bring-up checks run. (R429) -/
  | fwBootReady
/-- The firmware does not reach ready within tFW_BOOT; the ROM falls back to the other slot or to ROM recovery. (R430)
  -/
  | fwBootTimeout (badHeader : Bool)
/-- The watchdog expires, FK_FW_WATCHDOG is logged, and the C64 enters Bring-up. (R431) -/
  | fwWatchdogExpiry
/-- The new firmware is not ready within tFW_ACT; the ROM restarts the previous slot. (R434) -/
  | fwActivateTimeout
/-- A requester rings a mailbox doorbell, and the matching MGT bit is set for the firmware. (R615) -/
  | mailboxDoorbell (v : Transport)
/-- An MCTP packet is assembled into a message, or dropped, with deduplication of repeats. (R438) -/
  | mctpPacketReceive (v : Transport) (k : MctpPkt)
/-- A kept background result is dropped after tBG_KEEP. (R447) -/
  | bgResultExpiry
/-- Command that returns the device identity and firmware versions. (R453) -/
  | getIdentity (r : FoernReq)
/-- Command that returns the mode and transition status. (R453) -/
  | getMode (r : FoernReq)
/-- Command that selects the next boot slot, or restarts from it in Quiesce. (R434) -/
  | activateFirmware (r : FoernReq)
/-- Command that starts, feeds, ends or cancels a firmware image transfer. (R433) -/
  | fwTransfer (r : FoernReq)
/-- The background erase of the transfer slot completes. (R433) -/
  | fwEraseComplete
/-- The background verification of a transferred image completes, and the slot becomes valid or stays invalid. (R433)
  -/
  | fwVerifyComplete (version : BitVec 32) (svn : Fin 256) (check : Fin 3)
/-- An open transfer that receives nothing for 60 s is cancelled. (R433) -/
  | fwTransferIdleTimeout
/-- Command that returns, and releases, a background operation's status. (R454) -/
  | bgStatus (r : FoernReq)
/-- Command that reads a committed or shadow parameter. (R454) -/
  | paramRead (r : FoernReq)
/-- Command that stages a parameter value into the shadow. (R454) -/
  | paramWrite (r : FoernReq)
/-- Command that writes the shadow into the other parameter bank in the background. (R449) -/
  | paramCommit (r : FoernReq)
/-- The bank write completes with the generation raised by 1. (R449) -/
  | paramCommitComplete
/-- Command that lists the known parameter IDs. (R450) -/
  | paramList (r : FoernReq)
/-- Command that reads CSR words. (R459) -/
  | regRead (r : FoernReq)
/-- Command that writes CSR words in increasing address order. (R459) -/
  | regWrite (r : FoernReq)
/-- Command that presents a signed factory token and enters Factory Test. (R460) -/
  | factoryToken (r : FoernReq) (signed : Bool)
/-- Command that injects a fault by record, codeword, wire or link method. (R514) -/
  | factoryInject (r : FoernReq)
/-- Command that writes certificate slot 0 in Factory Test. (R460) -/
  | certWrite (r : FoernReq)
/-- FM API Identify command. (R439) -/
  | identify (r : FoernReq)
/-- FM API Background Operation Status command. (R439) -/
  | backgroundOperationStatus (r : FoernReq)
/-- FM API Get Response Message Limit command. (R439) -/
  | getResponseMessageLimit (r : FoernReq)
/-- FM API Set Response Message Limit command. (R439) -/
  | setResponseMessageLimit (r : FoernReq) (limit : Fin 256)
/-- Standard Get Supported Logs command. (R439) -/
  | getSupportedLogs (r : FoernReq)
/-- Standard Get Log command, returning the command effects log. (R439) -/
  | getLog (r : FoernReq)
/-- Standard Get Event Records command. (R439) -/
  | getEventRecords (r : FoernReq)
/-- Standard Clear Event Records command. (R439) -/
  | clearEventRecords (r : FoernReq) (n : Nat)
/-- FM API Get Event Interrupt Policy command. (R439) -/
  | getEventInterruptPolicy (r : FoernReq)
/-- FM API Set Event Interrupt Policy command. (R439) -/
  | setEventInterruptPolicy (r : FoernReq) (policy : BitVec 32)
/-- FM API Get FW Info command. (R439) -/
  | getFwInfo (r : FoernReq)
/-- FM API Transfer FW command, acting as FW_TRANSFER. (R439) -/
  | transferFw (r : FoernReq) (act : FwAct)
/-- FM API Activate FW command, acting as ACTIVATE_FIRMWARE. (R439) -/
  | activateFw (r : FoernReq) (slot : Fin 2) (now : Bool)
/-- FM API Get Timestamp command, returning the FTC. (R439) -/
  | getTimestamp (r : FoernReq)
/-- FM API Identify Switch Device command. (R439) -/
  | identifySwitchDevice (r : FoernReq)
/-- FM API Get Physical Port State command. (R439) -/
  | getPhysicalPortState (r : FoernReq)
/-- FM API Physical Port Control command, acting as PRT_CTL. (R439) -/
  | physicalPortControl (r : FoernReq) (p : Port) (act : PortAct)
/-- FM API Send PPB CXL.io Configuration Request command. (R439) -/
  | sendPpbCxlioConfigRequest (r : FoernReq)
/-- FM API Get Virtual CXL Switch Info command. (R439) -/
  | getVirtualCxlSwitchInfo (r : FoernReq)
/-- FM API Bind vPPB command, acting as BIND. (R439) -/
  | bindVppb (r : FoernReq) (host : Port) (v : Fin 32) (edge : BitVec 12) (ld : Option (BitVec 4))
/-- FM API Unbind vPPB command, acting as UNBIND. (R439) -/
  | unbindVppb (r : FoernReq) (host : Port) (v : Fin 32) (mode : Fin 3)
/-- FM API Tunnel Management Command to a multi-logical device. (R439) -/
  | tunnelManagementCommand (r : FoernReq)
/-- FM API Get LD Info command. (R439) -/
  | getLdInfo (r : FoernReq)
/-- FM API Get LD Allocations command. (R439) -/
  | getLdAllocations (r : FoernReq)
/-- Standard Identify Memory Device command on the window device mailbox. (R436) -/
  | identifyMemoryDevice (r : FoernReq)
/-- A standard opcode that is not supported is answered as Unsupported. (R436) -/
  | unsupportedStandardOpcode (r : FoernReq)
/-- A HEAD block opens, continues or supersedes an input burst, or is dropped as invalid. (R478) -/
  | caravanHeadReceive (h : BitVec 256) (free : Fin 129)
/-- A DATA block adds bytes to the open burst; a complete burst is checked by CRC-32 and handled by its stream. (R480)
  -/
  | caravanDataReceive (b : List (BitVec 8)) (free : Fin 129)
/-- A block with a bad CRC is dropped, and four in a row lose lock. (R469) -/
  | caravanBadBlock (lost : Bool)
/-- The first block after an ALIGN sequence is received, and the whole receive buffer is returned as credit. (R471) -/
  | caravanAlignEnd
/-- A transition of the credit pair returns one output credit. (R470) -/
  | caravanCreditTransition
/-- The output sends its next block by stream priority, or IDLE. (R475) -/
  | caravanBlockSend (paused : Bool)
/-- tCAR_FLUSH after its first record, an open output burst is closed. (R475) -/
  | caravanFlushTimeout (stream : Fin 3)
/-- An output burst is not sent within tABANDON and is abandoned, with its records requeued or dropped. (R476) -/
  | caravanOutputAbandon
/-- No credit arrives for tCAR_RESYNC; an ALIGN sequence is started and TX_RESYNC is set. (R471) -/
  | caravanResyncTimeout
/-- Writing 1 to CAR_CTL.RESYNC starts an output ALIGN sequence. (R485) -/
  | carCtlResync
/-- tSTALL expires on the open input burst, which is marked stalled. (R479) -/
  | caravanStallTimeout
/-- tABANDON expires on the open input burst, which is discarded. (R479) -/
  | caravanAbandonTimeout
/-- Command that writes CAR_CFG and may request a resync. (R482) -/
  | caravanConfig (r : FoernReq)
/-- Command that returns Caravan status and clears error bits. (R486) -/
  | caravanStatus (r : FoernReq)
/-- Command that starts a firmware transfer and arms stream 0x81. (R487) -/
  | caravanFwReceive (r : FoernReq)
/-- No HEAD of stream 0x81 arrives within 60 s, and the transfer is cancelled. (R487) -/
  | fwReceiveTimeout
/-- The collector accepts a fault or event record, stamps and logs it, escalates it, and starts or defers its level's
  action. (R492) -/
  | faultRecordAccept
/-- A C32-compatibility window ends without acknowledgement, and the level's action starts. (R510) -/
  | compatWindowExpiry (seq : BitVec 40)
/-- A dual-rail pair shows equal levels on two consecutive samples, and FK_WIRE is logged with cause 0x1. (R497) -/
  | wirePairSample (pair : Fin 135) (t c : Bool)
/-- A pair signal or a coded record lacks its counterpart within tWIRE, and FK_WIRE is logged. (R497) -/
  | wireTimeout (pair : Fin 135)
/-- The collector starts and accepts Butre's pending records first. (R493) -/
  | collectorStart
/-- Command that returns fault records by sequence. (R519) -/
  | faultRead (r : FoernReq)
/-- Command that acknowledges records, cancelling or applying compatibility actions and releasing some fences. (R504)
  -/
  | faultAck (r : FoernReq)
/-- Command that sets a kind's policy entry. (R519) -/
  | faultPolicySet (r : FoernReq)
/-- Command that selects the native or C32-compatible reaction and tCOMPAT. (R519) -/
  | reactionModeSet (r : FoernReq)
/-- Command that releases a port, instance or bay fence. (R505) -/
  | fenceRelease (r : FoernReq)
/-- Command that re-initialises a fenced tile in the background. (R502) -/
  | tileReinit (r : FoernReq)
/-- The tile's self-test and re-initialisation end, releasing its fence or leaving it fenced. (R502) -/
  | tileReinitComplete (t : Tile) (ok : Bool)
/-- Command that returns fault and fence status. (R518) -/
  | faultStatus (r : FoernReq)
/-- An enabled wake source fires in Standby; Butre latches it and starts the wake sequence. (R533) -/
  | wakeSource (evs : List WakeEv)
/-- A channel's VR_PG rises during a wake, and the next enable is scheduled tSEQ later. (R523) -/
  | vrPgRise (ch : Fin 6)
/-- tSEQ after a power-good, Butre raises the next VR_EN, or after the last channel releases the fabric-die reset.
  (R523) -/
  | railEnableStep (straps : BitVec 7)
/-- A VR_PG has not risen within tWAKE_VR, and the wake attempt fails. (R525) -/
  | wakeVrTimeout
/-- The core PLL locks, and the save engine restores the keep set. (R524) -/
  | corePllLock
/-- The PLL has not locked within tWAKE_PLL, and the attempt fails. (R525) -/
  | wakePllTimeout
/-- The keep set restore completes, or the image fails its check under R530. (R524) -/
  | keepSetRestoreDone (imgBad ctlBad : Bool)
/-- On the next ACLK edge Butre loads the FTC, clears MODE_REQ, sets STATE on and releases the processor. (R524) -/
  | wakeFinish
/-- tRETRY after a failed attempt the next attempt starts; after the fourth failure the C64 enters Standby-Held.
  (R525) -/
  | wakeRetry
/-- An enabled channel's VR_PG falls: the wake fails, or the rails drop as for a SYS_PWROK loss. (R531) -/
  | vrPgFall (ch : Fin 6)
/-- tRETRY after a rail loss with RAIL_RESTART set, a wake starts. (R531) -/
  | railRestart
/-- A monitored supply crosses WARN or SHED, logging FK_SUPPLY_SAG and applying shed stages. (R536) -/
  | supplyThresholdCross (m : Fin 7) (shed below : Bool)
/-- A temperature reading crosses WARN, SHED or TRIP, with event records, shedding or a rail drop. (R536) -/
  | thermalThresholdCross (sensor : Fin 9) (temp : BitVec 12) (thr : Fin 3) (rising : Bool)
/-- The condition has stayed clear throughout tSHED_HOLD, and one shed stage is restored. (R537) -/
  | shedRestore
/-- An idle tile enters Nap after NAP_IDLE. (R534) -/
  | tileNapEntry (t : Tile)
/-- A napping tile enters Retain after RETAIN_IDLE. (R534) -/
  | tileRetainEntry (t : Tile)
/-- A tile that qualifies enters Off. (R534) -/
  | tileOffEntry (t : Tile)
/-- A demand starts waking a sleeping tile. (R535) -/
  | tileDemandWake (t : Tile)
/-- A tile finishes waking, or fails from Off with FK_TILE_WAKE and a fence. (R535) -/
  | tileWakeComplete (t : Tile) (ok : Bool)
/-- A general event timer reaches 0; a Butre wake timer starts a wake and is disabled. (R533) -/
  | eventTimerExpiry (n : Fin 16)
/-- Command that returns power and tile state registers. (R543) -/
  | powerStatus (r : FoernReq)
/-- Command that returns wake records and optionally clears them. (R543) -/
  | wakeRecord (r : FoernReq)
/-- Command that writes rail, wake, sag, thermal and AVS configuration. (R544) -/
  | powerCfg (r : FoernReq)
/-- Command that claims and starts, or stops and releases, a Butre wake timer. (R544) -/
  | powerTimerSet (r : FoernReq)
/-- Command that writes TIL_PWR_CTL. (R544) -/
  | tilePowerSet (r : FoernReq)
/-- Writing 1 to PWR_WAKE_RESULT.CLEAR clears bits [8:0]. (R541) -/
  | wakeResultClear
/-- PRSNT# has been low throughout tDEB: presence is confirmed, an event record is issued, and AUTO_ON sets ON_REQ.
  (R562) -/
  | presenceConfirm (b : Bay)
/-- PRSNT# is high on two edges: the bay turns off, enters OFF, and its port goes down. (R565) -/
  | presenceLoss (b : Bay)
/-- A filtered ALERT# change updates BAY_ALERT_ALL and issues an event record. (R564) -/
  | alertChange (b : Bay) (low : Bool)
/-- A waiting bay with a good feed takes a free precharge slot and enters PRECHARGE. (R552) -/
  | prechargeSlotGrant
/-- VOUT reaches 90 % of the feed; the bay enters RAMP and arms the fault timer and fast trip. (R551) -/
  | prechargeDone (b : Bay)
/-- VOUT does not reach 90 % within tPRE; FK_BAY_PRECHARGE_FAIL is logged and the bay trips. (R551) -/
  | prechargeTimeout (b : Bay) (isns vout : Fin 1024)
/-- The gate does not reach VFEED + 4 V within tGR; FK_BAY_GATE_STUCK is logged and the bay trips. (R553) -/
  | gateRampTimeout (b : Bay) (isns vout : Fin 1024)
/-- The gate-to-source voltage reaches 9 V; precharge turns off and QUALIFY starts, or a feed switch returns to ON.
  (R553) -/
  | gateFullOn (b : Bay)
/-- tPGQ completes unbroken; PG rises and the bay enters ON. (R553) -/
  | pgqComplete (b : Bay)
/-- tPVPERL after PG rises, PERST# rises. (R554) -/
  | perstRelease (b : Bay)
/-- The sense voltage crosses ILIM, starting or stopping the fault timer and breaking or restarting tPGQ. (R555) -/
  | senseLimitCross (b : Bay) (above : Bool)
/-- tFLT expires; FK_BAY_OVERCURRENT is logged and the bay trips or locks out. (R555) -/
  | faultTimerExpiry (b : Bay) (isns vout : Fin 1024)
/-- The sense voltage reaches twice ILIM; the gates are pulled down, FK_BAY_SHORT is logged and the bay trips. (R555)
  -/
  | fastTrip (b : Bay) (isns vout : Fin 1024)
/-- VOUT is below 85 % of a good feed on two edges; FK_BAY_UV is logged and the bay trips. (R555) -/
  | bayUndervoltage (b : Bay) (isns vout : Fin 1024)
/-- tBAY_RETRY in TRIP elapses; RETRIES rises and the bay restarts at PRECHARGE or WAIT. (R557) -/
  | retryTimerExpiry (b : Bay)
/-- A bay has stayed in ON for 60 s, and RETRIES returns to 0. (R557) -/
  | onStableReset (b : Bay)
/-- A feed stays in range throughout tSTABLE and becomes good; waiting bays may start or revert. (R558) -/
  | feedGood (feedB : Bool) (v : Fin 1024)
/-- A feed is lost; FK_BAY_FEED_LOSS is logged and affected bays switch feed or wait. (R558) -/
  | feedLoss (feedB : Bool) (v : Fin 1024)
/-- At the end of tBBM, a feed switch drives the new gate directly or restarts at PRECHARGE by the 80 % test. (R561)
  -/
  | bbmComplete (b : Bay) (above : Bool)
/-- tPDOWN into a managed power-off, PG drops and every gate turns off. (R567) -/
  | powerOffGates (b : Bay)
/-- The gates fall below VOUT + 1 V, and the bay enters OFF. (R567) -/
  | powerOffDone (b : Bay)
/-- tSTABLE after the power-off of a power cycle, the bay powers on again. (R580) -/
  | bayCycleRestart (b : Bay)
/-- After tPVPERL, a PERST# pulse ends and PERST# is released. (R580) -/
  | perstPulseEnd (b : Bay)
/-- Command that writes BAY_CFG and BAY_LIM. (R580) -/
  | bayConfig (r : FoernReq)
/-- Command that powers a bay on, off or through a cycle, pulses PERST#, and sets PWRDIS and LED. (R580) -/
  | bayPower (r : FoernReq)
/-- Command that returns bay registers and clears error bits. (R579) -/
  | bayStatus (r : FoernReq)
/-- Command that writes BAY_FEED_CFG and BAY_BUS_CFG. (R579) -/
  | bayFeedSet (r : FoernReq)
/-- Command that runs an SMBus or I3C transfer to a bay device through its bus switch. (R580) -/
  | bayBusXfer (r : FoernReq) (res : BusResult)
/-- A bay bus clock line is held low for 25 ms; the transaction ends with TIMEOUT and the switch is written 0x00.
  (R572) -/
  | bayBusTimeout (m : Fin 4)
/-- Command that copies every counter and capture register into its shadow on one edge. (R588) -/
  | counterSnapshot (r : FoernReq)
/-- Writing 1 to CNT_CTL.SNAP takes a snapshot. (R588) -/
  | cntCtlSnap
/-- Command that returns shadow or live counter values. (R594) -/
  | counterRead (r : FoernReq)
/-- Command that clears live OVF bits. (R594) -/
  | counterClearSticky (r : FoernReq)
/-- A write to a register without a row of its own sets its fields by access type; a BAR 2 write with a byte enable
  clear is discarded. (R9) -/
  | csrWrite (a : RegAddr) (ws : List (BitVec 32)) (whole : Bool)
/-- A read of an RC field returns its value and clears it. (R9) -/
  | rcRegisterRead (a : BitVec 28)
/-- A lost reference clock starts toggling again and is shown present in GLB_CLK_STATUS.REF_PRESENT; it releases no
  fence but becomes selectable under R19 at the next Bring-up. (R21) -/
  | refclkReturn (t : Tile)
/-- The Caravan receiver becomes locked once 4 consecutive blocks at one of the 32 edge phases have a good CRC, and
  sets CAR_STATUS.RX_LOCK. (R469) -/
  | caravanRxLock
/-- The BMC bus owner assigns the C64 a dynamic address, or resets it with RSTDAA, and the BMC bus switches between
  I3C Basic target and SMBus target operation, with MGT_XPORT.BMC_I3C following. (R437) -/
  | i3cDynamicAddressAssignment (a : Option (BitVec 7))
  deriving DecidableEq, Repr

end Sys2Proof
end

