-- ==== Sys2Proof/Decode.lean ====
section
/-!
DEFINITION. The commands of this block carry no bit encoding: no row of `spec/opcode_table.json` gives bits, so no word spells a
command.
-/

namespace Sys2Proof

/-- The command that a word of `nbits` bits spells: no row of the table has bits. -/
def decodeTableWord (_nbits _w : Nat) : Option Instr := none

end Sys2Proof
end

