-- ==== Sys2Proof/Config.lean ====
section
/-!
DEFINITION. What an implementation or a board fixes, and the free values: every constant here is opaque, so no proof can
rest on its value.
-/

namespace Sys2Proof

/-! ### Identity, fuses and straps -/

/-- The PCI-SIG-assigned vendor ID (R12). -/
opaque Config.vendorId : BitVec 16

/-- The serial number (R437, R453). -/
opaque Config.serial : BitVec 64

/-- Fuse GRADE (R603). DESIGN CHOICE, unsafe: log entry 4. -/
opaque Config.grade : BitVec 1

/-- Fuse VID of the VDD_CORE level (R541), before its range. -/
opaque Config.vidFuse : Nat

/-- VID as fused: 10 to 40 (R522). DESIGN CHOICE, unsafe: log entry 4. PRESUMED, unsafe: log entry 36. -/
def Config.vid : Nat := 10 + Config.vidFuse % 31

/-- The packed size of a keep set image in bytes, for its register fields, its byte rates and its marks: the spec does not
give the packing (R528). DESIGN CHOICE, safe: log entry 61. -/
opaque Config.keepSize : List (Nat × Nat) → List (Nat × Nat) → List Nat → Nat

/-! ### Free values

`n` is the model's counter of free values taken, or the value the open result depends on. -/

/-- A value of any width up to 512 bits that the spec leaves open. DESIGN CHOICE, safe: log entry 3. -/
opaque Config.free : Nat → BitVec 512

/-- Contents of a response that a standard outside the spec defines (R439, R92): a byte for each (use, position). -/
opaque Config.freeByte : Nat → Nat → BitVec 8

/-- The 16-bit code of a standard opcode of R439, by its row in that table and its place in the row.
DESIGN CHOICE, safe: log entry 9. -/
opaque Config.stdOpcode : Nat → BitVec 16

/-- The 16-bit code of a standard return code and of a detail code, in the order of R444: no chapter gives the numbers. -/
opaque Config.retCode : Nat → BitVec 16
opaque Config.detailCode : Nat → BitVec 16

/-- The address field of a record whose layout no chapter states, for a kind's code and a domain index (R489).
DEDUCED, safe: log entry 21. -/
opaque Config.faultAddr : Nat → Nat → BitVec 52

/-- SCH_PORT_CFG.UNIT_TIME of a standard port by rate, width and flit format: the spec gives slot content rates of
interlinks only (R240). DESIGN CHOICE, safe: log entry 18. -/
opaque Config.unitTime : Nat → Nat → Nat → BitVec 16

/-- The messages that a standard port's partner has not acknowledged when a link-down comes with no report of them: the link
layer of the standard counts them (R196). DESIGN CHOICE, safe: log entry 77. -/
opaque Config.unacked : Nat → Nat → Nat

/-- What the decoder of RS(72,64) makes of an error pattern of more than four bytes (R3): of 5 to 8 bytes, 0 says that the pattern
lies within 4 bytes of another codeword and is miscorrected, and any other value that it is reported; beyond 8 bytes the spec
states nothing, and 1 also says that it is miscorrected. DESIGN CHOICE, safe: log entry 75. -/
opaque Config.rsFar : BitVec 576 → BitVec 2

/-- The per-width constant that refers a time stamp to the balls (R148), by width code.
DESIGN CHOICE, safe: log entry 19. -/
opaque Config.timeCorr : Nat → BitVec 64

end Sys2Proof
end

