-- ==== Sys2Proof/Machine/KindDef.lean ====
section
/-!
DEFINITION. The fault kinds of R498, R539 and R641, and the fault classes of R491.
-/

namespace Sys2Proof.Machine

/-- Every fault kind (R498 and the kinds other chapters add), in code order. -/
inductive Kind where
  | wire | modeTransitionFail | fwWatchdog | faultLost | refclkLoss | tileSelftest | phyLoss |
  linkDown | linkDegrade | flitUncorr | ideIntegrity | portCfg | ilReplayExhaust | ilReorderOvf |
  ilCreditViol | ilRetrainFail | ilPeerMismatch | ilProtocol | bufCorr | bufUncorr | routeMiss |
  layoverFlush | mcastStragglerAge | msgMalformed | layoverExpire | bufCfg | schedCfg |
  telemetryDrop | holdFull | dirCorr | dirUncorr | bisnpTimeout | agentDead | specReadErr |
  cohProtocol | targetTimeout | windowCfg | blendRankViol | blendType | blendPoison | blendAbandon |
  instQuota | instSquash | instLateDiscard | instAccess | instBlob | brgFarErr | brgLockTimeout |
  brgMalformed | mboxViol | carAbandon | carOverrun | fwImage | paramStore | carFrame | supplySag |
  wakeFail | thermal | aocSource | tileWake | keepSet | bayOvercurrent | bayShort | bayPrechargeFail
  | bayGateStuck | bayFeedLoss | bayUv | testInjected
  deriving DecidableEq, Repr

/-- Fault classes, in their code order (R491). -/
inductive FClass where
  | lnk | dat | pro | tmo | cfg | pwr | int | event
  deriving DecidableEq, Repr

/-- Event codes (R495). -/
inductive Event where
  | ftcStep | modeChange | bayPresence | bayAlert | thermal | wake
  deriving DecidableEq, Repr

end Sys2Proof.Machine
end

