-- ==== Sys2Proof/Machine/Kinds.lean ====
section
/-!
DEFINITION. What the table of R498 says of each fault kind: its code, class, default level, domain type, and whether
the kind is fixed.
-/

namespace Sys2Proof.Machine

/-- The kind code. -/
def Kind.code : Kind → Nat
  | .wire => 0x01
  | .modeTransitionFail => 0x02
  | .fwWatchdog => 0x03
  | .faultLost => 0x04
  | .refclkLoss => 0x05
  | .tileSelftest => 0x06
  | .phyLoss => 0x10
  | .linkDown => 0x11
  | .linkDegrade => 0x12
  | .flitUncorr => 0x13
  | .ideIntegrity => 0x14
  | .portCfg => 0x15
  | .ilReplayExhaust => 0x20
  | .ilReorderOvf => 0x21
  | .ilCreditViol => 0x22
  | .ilRetrainFail => 0x23
  | .ilPeerMismatch => 0x24
  | .ilProtocol => 0x25
  | .bufCorr => 0x30
  | .bufUncorr => 0x31
  | .routeMiss => 0x32
  | .layoverFlush => 0x33
  | .mcastStragglerAge => 0x34
  | .msgMalformed => 0x35
  | .layoverExpire => 0x36
  | .bufCfg => 0x37
  | .schedCfg => 0x40
  | .telemetryDrop => 0x41
  | .holdFull => 0x42
  | .dirCorr => 0x50
  | .dirUncorr => 0x51
  | .bisnpTimeout => 0x52
  | .agentDead => 0x53
  | .specReadErr => 0x54
  | .cohProtocol => 0x55
  | .targetTimeout => 0x56
  | .windowCfg => 0x57
  | .blendRankViol => 0x60
  | .blendType => 0x61
  | .blendPoison => 0x62
  | .blendAbandon => 0x63
  | .instQuota => 0x70
  | .instSquash => 0x71
  | .instLateDiscard => 0x72
  | .instAccess => 0x73
  | .instBlob => 0x74
  | .brgFarErr => 0x80
  | .brgLockTimeout => 0x81
  | .brgMalformed => 0x82
  | .mboxViol => 0x90
  | .carAbandon => 0x91
  | .carOverrun => 0x92
  | .fwImage => 0x93
  | .paramStore => 0x94
  | .carFrame => 0x95
  | .supplySag => 0xA0
  | .wakeFail => 0xA1
  | .thermal => 0xA2
  | .aocSource => 0xA3
  | .tileWake => 0xA4
  | .keepSet => 0xA5
  | .bayOvercurrent => 0xB0
  | .bayShort => 0xB1
  | .bayPrechargeFail => 0xB2
  | .bayGateStuck => 0xB3
  | .bayFeedLoss => 0xB4
  | .bayUv => 0xB5
  | .testInjected => 0xC0

/-- The class of a kind. -/
def Kind.cls : Kind → FClass
  | .phyLoss | .linkDown | .linkDegrade | .flitUncorr | .ilReplayExhaust | .ilReorderOvf |
  .ilRetrainFail | .layoverExpire | .carOverrun | .carFrame => .lnk
  | .ideIntegrity | .bufCorr | .bufUncorr | .layoverFlush | .dirCorr | .dirUncorr | .specReadErr |
  .blendPoison | .paramStore | .keepSet => .dat
  | .ilCreditViol | .ilProtocol | .msgMalformed | .cohProtocol | .blendRankViol | .blendType |
  .instAccess | .brgFarErr | .brgMalformed | .mboxViol => .pro
  | .mcastStragglerAge | .bisnpTimeout | .agentDead | .targetTimeout | .blendAbandon | .instSquash |
  .instLateDiscard | .brgLockTimeout | .carAbandon => .tmo
  | .portCfg | .ilPeerMismatch | .routeMiss | .bufCfg | .schedCfg | .telemetryDrop | .holdFull |
  .windowCfg | .instQuota | .instBlob => .cfg
  | .supplySag | .wakeFail | .thermal | .aocSource | .bayOvercurrent | .bayShort | .bayPrechargeFail
  | .bayGateStuck | .bayFeedLoss | .bayUv => .pwr
  | .wire | .modeTransitionFail | .fwWatchdog | .faultLost | .refclkLoss | .tileSelftest | .fwImage
  | .tileWake | .testInjected => .int

/-- The default level of a kind. FK_WIRE and FK_REFCLK_LOSS reset to and keep 2 (R517). -/
def Kind.level : Kind → Nat
  | .ideIntegrity | .bufUncorr | .dirUncorr | .bayGateStuck => 1
  | .wire | .refclkLoss | .tileSelftest | .tileWake => 2
  | .fwWatchdog => 3
  | _ => 0

/-- A fixed kind keeps its level under every policy and always reacts natively. -/
def Kind.fixed : Kind → Bool
  | .wire | .fwWatchdog | .faultLost | .refclkLoss | .tileSelftest | .testInjected => true
  | _ => false

/-- The domain type of a kind; of a kind with two, the narrower. -/
def Kind.dom : Kind → DomType
  | .wire | .refclkLoss | .tileSelftest | .bufCorr | .bufCfg | .telemetryDrop | .dirCorr |
  .specReadErr | .tileWake => .tile
  | .modeTransitionFail | .fwWatchdog | .faultLost | .windowCfg | .instBlob | .mboxViol |
  .carAbandon | .carOverrun | .fwImage | .paramStore | .carFrame | .supplySag | .wakeFail | .thermal
  | .aocSource | .keepSet | .testInjected => .device
  | .phyLoss | .linkDown | .linkDegrade | .flitUncorr | .ideIntegrity | .portCfg | .ilReplayExhaust
  | .ilReorderOvf | .ilCreditViol | .ilRetrainFail | .ilPeerMismatch | .ilProtocol | .routeMiss |
  .layoverFlush | .mcastStragglerAge | .msgMalformed | .layoverExpire | .schedCfg | .bisnpTimeout |
  .agentDead | .cohProtocol | .targetTimeout | .brgFarErr | .brgLockTimeout | .brgMalformed => .port
  | .bufUncorr => .cell
  | .holdFull | .instQuota | .instSquash | .instLateDiscard | .instAccess => .instance_
  | .dirUncorr => .sliceWays
  | .blendRankViol | .blendType | .blendPoison | .blendAbandon => .fold
  | .bayOvercurrent | .bayShort | .bayPrechargeFail | .bayGateStuck | .bayFeedLoss | .bayUv => .bay

/-- Every kind, in code order. -/
def Kind.all : List Kind :=
  [.wire, .modeTransitionFail, .fwWatchdog, .faultLost, .refclkLoss, .tileSelftest, .phyLoss,
   .linkDown, .linkDegrade, .flitUncorr, .ideIntegrity, .portCfg, .ilReplayExhaust, .ilReorderOvf,
   .ilCreditViol, .ilRetrainFail, .ilPeerMismatch, .ilProtocol, .bufCorr, .bufUncorr, .routeMiss,
   .layoverFlush, .mcastStragglerAge, .msgMalformed, .layoverExpire, .bufCfg, .schedCfg,
   .telemetryDrop, .holdFull, .dirCorr, .dirUncorr, .bisnpTimeout, .agentDead, .specReadErr,
   .cohProtocol, .targetTimeout, .windowCfg, .blendRankViol, .blendType, .blendPoison,
   .blendAbandon, .instQuota, .instSquash, .instLateDiscard, .instAccess, .instBlob, .brgFarErr,
   .brgLockTimeout, .brgMalformed, .mboxViol, .carAbandon, .carOverrun, .fwImage, .paramStore,
   .carFrame, .supplySag, .wakeFail, .thermal, .aocSource, .tileWake, .keepSet, .bayOvercurrent,
   .bayShort, .bayPrechargeFail, .bayGateStuck, .bayFeedLoss, .bayUv, .testInjected]

/-- The kind a code names. -/
def Kind.ofCode (c : Nat) : Option Kind := Kind.all.find? (fun k => k.code == c)

/-- The class code of R491. -/
def FClass.code : FClass → Nat
  | .lnk => 0 | .dat => 1 | .pro => 2 | .tmo => 3 | .cfg => 4 | .pwr => 5 | .int => 6 | .event => 7

/-- The event code of R495. -/
def Event.code : Event → Nat
  | .ftcStep => 1 | .modeChange => 2 | .bayPresence => 3 | .bayAlert => 4 | .thermal => 5 | .wake => 6

end Sys2Proof.Machine
end

