-- ==== Sys2Proof/Machine/RegDef.lean ====
section
/-!
DEFINITION. The names of the registers (chapters 02 to 18, the register tables of `spec/`), the access types of R9,
the reset domains of R10, and what a field of a register is.
-/

namespace Sys2Proof.Machine

/-- Every 32-bit register the field tables of `spec/` list, and every word of an array entry.
A 64-bit value keeps its two registers, `_LO` and `_HI` (R6). Words of array entries carry their word number. -/
inductive Reg where
  | PWR_TIME_STATUS | PIDV_0C | PIDV_10 | PIDV_14 | PRT_CFG | PRT_CTL | PRT_STATUS | PRT_L0P |
  PRT_LAYOVER | PRT_DOWN_INFO | PRT_LANE | PRT_ERR | PRT_IDE | PRT_IL_CFG | PRT_IL_PEER |
  PRT_IL_VCPOOL0 | PRT_IL_VCPOOL1 | PRT_IL_VCPOOL2 | PRT_IL_STATUS | PRT_IL_SEQ | PRT_IL_BUF |
  PRT_IL_ERR | TIL_BUF_CFG | TIL_BUF_STATUS | TIL_AUX_CFG | TIL_AUX_STATUS0 | TIL_AUX_STATUS1 |
  TIL_MCAST_CFG | TIL_MIRROR | TIL_ERR | TIL_PCFG | TIL_ROUTE | TIL_MCAST0 | TIL_MCAST1 | TIL_MCAST2
  | TIL_MCAST3 | TIL_VPPB | QUEUE0 | QUEUE1 | QUEUE2 | QUEUE3 | QUEUE4 | QUEUE5 | QUEUE6 | QUEUE7 |
  QUEUE8 | POL0 | POL1 | POL2 | POL3 | POL4 | POL5 | POL6 | POL7 | SCH_CTL | SCH_HIST_CFG | SCH_ERR
  | SCH_CLASSMAP | SCH_SLOTMAP | SCH_PORT_CFG | SCH_PORT_VT | SCH_GATE_CTL | SCH_GATE_CYCLE |
  SCH_GATE_BASE_LO | SCH_GATE_BASE_HI | SCH_GATE_ENT0 | SCH_GATE_ENT1 | FWDV_0C | FWDV_10 | FWDV_14
  | FWDV_18 | DIR_CTL | DIR_STATUS0 | DIR_STATUS1 | DIR_PTR | DIR_FWD_LO | DIR_FWD_HI | DIR_ERR |
  WIN0 | WIN1 | WIN_TGT | WIN_TDPA | GRANT0 | GRANT1 | GRANT2 | GRANT3 | DIR_RECOV_CTL | DIR_DEAD_LO
  | DIR_DEAD_HI | DIR_RECLAIM | DIR_PF_STATUS | DIR_LOST | BLD_TILE_STATUS | BLD_TILE_ERR | FOLD0 |
  FOLD1 | FOLD2 | FOLD3 | FOLD4 | FOLD5 | FOLD6 | FOLD7 | FOLD8 | FOLD9 | FOLD10 | FOLD11 | FOLD12 |
  FOLD13 | FOLD_RANK | INS_CTL | INS0 | INS1 | INS2 | INS3 | INS4 | INS5 | INS6 | INS8 | INS9 |
  INS10 | INS11 | INS12 | INS13 | XLATE0 | XLATE1 | XLATE2 | XLATE3 | BRG_CTL | BRG_LOCK | BRG_ERR |
  BRG_TILE_STATUS | BRG_PORT_STATUS | MCA0 | MCA1 | MCA2 | MGT_FW_STATUS | MGT_FW_VERSION | MGT_BOOT
  | MGT_BG | MGT_XPORT | MGT_PARAM | MGT_ERR | CAR_CFG | CAR_CTL | CAR_STATUS | CAR_ERR |
  CAR_RX_BURST | CAR_RX_SEQ | CAR_RX_OFF | CAR_OUTQ | FLT_CTL | FLT_STATUS | FLT_SEQ_LO | FLT_SEQ_HI
  | FLT_LOST | FLT_WIRE | FLT_FENCE_TILE | FLT_ERR | FLT_POLICY | PWR_CTL | PWR_STATUS |
  PWR_RAIL_CFG | PWR_WAKE_EN | PWR_WAKE_BAY_EN | PWR_WAKE_SOURCE | PWR_WAKE_RESULT | PWR_AOC_LO |
  PWR_AOC_HI | PWR_SAG_CTL | PWR_SAG_STATUS | PWR_THERM_CTL | PWR_THERM_STATUS | PWR_AVS | PWR_KEEP
  | PWR_TIMER | TIL_PWR_CTL | TIL_PWR_STATUS | BAY_CFG | BAY_LIM | BAY_CTL | BAY_STATUS | BAY_MEAS |
  BAY_ERR | BAY_FEED_CFG | BAY_FEED_STATUS | BAY_PRSNT_ALL | BAY_ALERT_ALL | BAY_BUS_CFG | CNT_CTL |
  CNT_SNAP_COUNT | CNT_SNAP_FTC_LO | CNT_SNAP_FTC_HI | CNT_SNAP_AOC_LO | CNT_SNAP_AOC_HI |
  CNT_OVF_SUM | GLB_ID | GLB_CAP0 | GLB_CAP1 | GLB_STRAP | GLB_NODE | GLB_MODE | GLB_MODE_FTC_LO |
  GLB_MODE_FTC_HI | GLB_RESET_CAUSE | GLB_CLK_STATUS | GLB_TIME_CTL | GLB_TIME_STEP | GLB_FTC_LO |
  GLB_FTC_HI | GLB_TIME_STATUS | GLB_ERR | GLB_GPIO_IN | GLB_GPIO_OUT | GLB_GPIO_OE | GLB_CLAIM_GPIO
  | GLB_CLAIM_TIMERB | GLB_CLAIM_TIMERF | GLB_CLAIM_AUX | MGT_MBX_SUM | MGT_MBX_SW | MGT_MBX_HOST_LO
  | MGT_MBX_HOST_HI | MGT_MBX_TEN | MGT_MCTP_STATUS | MGT_CMD_STATUS | PRT_PARTNER_ID_LO |
  PRT_PARTNER_ID_HI | DIR_STAMP_LO | DIR_STAMP_HI | INS_POOL_TRK | INS_POOL_HOLD | INS_POOL_CELLS |
  INS_POOL_DIR | INS_POOL_FOLDS | PWR_WAKE_SEEN
  deriving DecidableEq, Repr

/-- Register access types (R9). -/
inductive Acc where
  | ro | rw | rw1c | wo | rc
  deriving DecidableEq, Repr

/-- Reset domains (R10). `butre` is the cold domain of the PWR and BAY blocks, which keep their values while the
fabric die is off; `cold` is the cold domain on the fabric die. -/
inductive Dom where
  | butre | cold | warm | port | inst
  deriving DecidableEq, Repr

/-- A field of a register: the register that holds its lowest bit, its place and width, its access type, its reset
value, its reset domain, and whether it is part of the keep set (R528). -/
structure Fld where
  reg  : Reg
  lo   : Nat
  w    : Nat
  acc  : Acc
  rst  : Nat
  dom  : Dom
  keep : Bool
  deriving DecidableEq, Repr

/-- A run of bits of a register word that shows `w` bits of a field, from the field's bit `src` on. -/
structure BitRun where
  fld : Fld
  src : Nat
  lo  : Nat
  w   : Nat
  deriving DecidableEq, Repr

end Sys2Proof.Machine
end

