-- ==== Sys2Proof/Machine/Catalogue.lean ====
section
/-!
DEFINITION. The register catalogue: one definition per field of the field tables of `spec/` (chapters 02 to 18), and
the layout of every register word.
-/

namespace Sys2Proof.Machine

/-! ### Fields of chapter 02 of spec/ -/

def F.PWR_TIME_STATUS.ESTIMATED : Fld := ⟨.PWR_TIME_STATUS, 0, 1, .ro, 0x1, .butre, false⟩
def F.PWR_TIME_STATUS.LOW_ACCURACY : Fld := ⟨.PWR_TIME_STATUS, 1, 1, .ro, 0x0, .butre, false⟩
def F.PWR_TIME_STATUS.LOST : Fld := ⟨.PWR_TIME_STATUS, 2, 1, .ro, 0x1, .butre, false⟩
def F.PWR_TIME_STATUS.RC_NOW : Fld := ⟨.PWR_TIME_STATUS, 3, 1, .ro, 0x1, .butre, false⟩
def F.PWR_TIME_STATUS.RC_SEEN : Fld := ⟨.PWR_TIME_STATUS, 4, 1, .rw1c, 0x0, .butre, false⟩
/-! ### Fields of chapter 03 of spec/ -/

/-- The spec names no reset domain for the Port Identity DVSEC (R107): a port reset and a hot reset leave it.
DESIGN CHOICE, unsafe: log entry 4. -/
def F.PIDV.IDENT : Fld := ⟨.PIDV_0C, 0, 64, .rw, 0x0, .warm, false⟩
/-- As F.PIDV.IDENT; a link-down clears it (R107). DESIGN CHOICE, unsafe: log entry 4. -/
def F.PIDV.VALID : Fld := ⟨.PIDV_14, 0, 1, .rw, 0x0, .warm, false⟩
def F.PRT_CFG.PERSONALITY : Fld := ⟨.PRT_CFG, 0, 2, .rw, 0x0, .warm, true⟩
def F.PRT_CFG.ROLE : Fld := ⟨.PRT_CFG, 2, 2, .rw, 0x0, .warm, true⟩
def F.PRT_CFG.WIDTH : Fld := ⟨.PRT_CFG, 4, 3, .rw, 0x0, .warm, true⟩
def F.PRT_CFG.MAX_RATE : Fld := ⟨.PRT_CFG, 8, 3, .rw, 0x5, .warm, true⟩
def F.PRT_CFG.CLKMODE : Fld := ⟨.PRT_CFG, 12, 2, .rw, 0x0, .warm, true⟩
def F.PRT_CFG.FLIT256 : Fld := ⟨.PRT_CFG, 14, 1, .rw, 0x1, .warm, true⟩
def F.PRT_CFG.LOPT : Fld := ⟨.PRT_CFG, 15, 1, .rw, 0x1, .warm, true⟩
def F.PRT_CFG.HE_ARB : Fld := ⟨.PRT_CFG, 16, 1, .rw, 0x1, .warm, true⟩
def F.PRT_CFG.L0P_EN : Fld := ⟨.PRT_CFG, 17, 1, .rw, 0x1, .warm, true⟩
def F.PRT_CFG.FAST_DOWN : Fld := ⟨.PRT_CFG, 18, 1, .rw, 0x1, .warm, true⟩
def F.PRT_CFG.MGMT_FN : Fld := ⟨.PRT_CFG, 19, 1, .rw, 0x0, .warm, true⟩
def F.PRT_CFG.ID_SRC : Fld := ⟨.PRT_CFG, 20, 2, .rw, 0x0, .warm, true⟩
def F.PRT_CFG.LOS_TIME : Fld := ⟨.PRT_CFG, 22, 8, .rw, 0x4, .warm, true⟩
def F.PRT_CTL.RETRAIN : Fld := ⟨.PRT_CTL, 0, 1, .wo, 0x0, .warm, false⟩
def F.PRT_CTL.HOT_RESET : Fld := ⟨.PRT_CTL, 1, 1, .wo, 0x0, .warm, false⟩
def F.PRT_CTL.LINK_DISABLE : Fld := ⟨.PRT_CTL, 2, 1, .rw, 0x0, .warm, false⟩
def F.PRT_STATUS.LTSSM : Fld := ⟨.PRT_STATUS, 0, 4, .ro, 0x0, .port, false⟩
def F.PRT_STATUS.DL_ACTIVE : Fld := ⟨.PRT_STATUS, 4, 1, .ro, 0x0, .port, false⟩
def F.PRT_STATUS.RATE : Fld := ⟨.PRT_STATUS, 5, 3, .ro, 0x0, .port, false⟩
def F.PRT_STATUS.WIDTH_NOW : Fld := ⟨.PRT_STATUS, 8, 3, .ro, 0x0, .port, false⟩
def F.PRT_STATUS.WIDTH_TRAINED : Fld := ⟨.PRT_STATUS, 11, 3, .ro, 0x0, .port, false⟩
def F.PRT_STATUS.FLIT : Fld := ⟨.PRT_STATUS, 14, 2, .ro, 0x0, .port, false⟩
def F.PRT_STATUS.IDE_ACTIVE : Fld := ⟨.PRT_STATUS, 16, 1, .ro, 0x0, .port, false⟩
def F.PRT_STATUS.ID_CONFIRMED : Fld := ⟨.PRT_STATUS, 17, 1, .ro, 0x0, .port, false⟩
def F.PRT_STATUS.LANE_REVERSED : Fld := ⟨.PRT_STATUS, 18, 1, .ro, 0x0, .port, false⟩
def F.PRT_L0P.MIN_WIDTH : Fld := ⟨.PRT_L0P, 0, 3, .rw, 0x3, .warm, true⟩
def F.PRT_L0P.LOW_PCT : Fld := ⟨.PRT_L0P, 4, 7, .rw, 0x14, .warm, true⟩
def F.PRT_L0P.HIGH_PCT : Fld := ⟨.PRT_L0P, 12, 7, .rw, 0x3C, .warm, true⟩
def F.PRT_L0P.INTERVAL : Fld := ⟨.PRT_L0P, 20, 8, .rw, 0xA, .warm, true⟩
def F.PRT_LAYOVER.WINDOW_US : Fld := ⟨.PRT_LAYOVER, 0, 20, .rw, 0x4E20, .warm, true⟩
def F.PRT_DOWN_INFO.REASON : Fld := ⟨.PRT_DOWN_INFO, 0, 4, .ro, 0x0, .warm, false⟩
def F.PRT_DOWN_INFO.COUNT : Fld := ⟨.PRT_DOWN_INFO, 16, 16, .ro, 0x0, .warm, false⟩
def F.PRT_LANE.SIGNAL : Fld := ⟨.PRT_LANE, 0, 16, .ro, 0x0, .port, false⟩
def F.PRT_ERR.RX_ERR : Fld := ⟨.PRT_ERR, 0, 1, .rw1c, 0x0, .warm, false⟩
def F.PRT_ERR.FLIT_UNCORR : Fld := ⟨.PRT_ERR, 1, 1, .rw1c, 0x0, .warm, false⟩
def F.PRT_ERR.DEGRADED : Fld := ⟨.PRT_ERR, 2, 1, .rw1c, 0x0, .warm, false⟩
def F.PRT_ERR.ID_MISMATCH : Fld := ⟨.PRT_ERR, 3, 1, .rw1c, 0x0, .warm, false⟩
def F.PRT_ERR.IDE_FAIL : Fld := ⟨.PRT_ERR, 4, 1, .rw1c, 0x0, .warm, false⟩
def F.PRT_ERR.PHY_LOSS : Fld := ⟨.PRT_ERR, 5, 1, .rw1c, 0x0, .warm, false⟩
def F.PRT_IDE.REQUIRED : Fld := ⟨.PRT_IDE, 0, 1, .rw, 0x0, .warm, true⟩
def F.PRT_IDE.CONTAINMENT : Fld := ⟨.PRT_IDE, 1, 1, .rw, 0x0, .warm, true⟩
def F.PRT_IDE.KEYSET : Fld := ⟨.PRT_IDE, 8, 1, .ro, 0x0, .warm, false⟩
def F.PRT_IDE.PENDING : Fld := ⟨.PRT_IDE, 9, 1, .ro, 0x0, .warm, false⟩
/-! ### Fields of chapter 04 of spec/ -/

def F.PRT_IL_CFG.UNCORR_LIM : Fld := ⟨.PRT_IL_CFG, 0, 8, .rw, 0x10, .warm, true⟩
def F.PRT_IL_CFG.NAK_TIME : Fld := ⟨.PRT_IL_CFG, 8, 8, .rw, 0x4, .warm, true⟩
def F.PRT_IL_CFG.STALL_TIME : Fld := ⟨.PRT_IL_CFG, 16, 8, .rw, 0xA, .warm, true⟩
def F.PRT_IL_CFG.REPLAY_LIM : Fld := ⟨.PRT_IL_CFG, 24, 4, .rw, 0x8, .warm, true⟩
def F.PRT_IL_CFG.RESUME_EN : Fld := ⟨.PRT_IL_CFG, 28, 1, .rw, 0x1, .warm, true⟩
def F.PRT_IL_PEER.PEER_NODE : Fld := ⟨.PRT_IL_PEER, 0, 16, .rw, 0x0, .warm, true⟩
def F.PRT_IL_PEER.PEER_CHECK : Fld := ⟨.PRT_IL_PEER, 16, 1, .rw, 0x0, .warm, true⟩
def F.PRT_IL_VCPOOL0.REQ : Fld := ⟨.PRT_IL_VCPOOL0, 0, 12, .rw, 0x100, .warm, true⟩
def F.PRT_IL_VCPOOL0.RWD : Fld := ⟨.PRT_IL_VCPOOL0, 16, 12, .rw, 0x200, .warm, true⟩
def F.PRT_IL_VCPOOL1.SNP : Fld := ⟨.PRT_IL_VCPOOL1, 0, 12, .rw, 0x100, .warm, true⟩
def F.PRT_IL_VCPOOL1.RSP : Fld := ⟨.PRT_IL_VCPOOL1, 16, 12, .rw, 0x100, .warm, true⟩
def F.PRT_IL_VCPOOL2.DRS : Fld := ⟨.PRT_IL_VCPOOL2, 0, 12, .rw, 0x200, .warm, true⟩
def F.PRT_IL_VCPOOL2.IO : Fld := ⟨.PRT_IL_VCPOOL2, 16, 12, .rw, 0x100, .warm, true⟩
def F.PRT_IL_STATUS.STATE : Fld := ⟨.PRT_IL_STATUS, 0, 4, .ro, 0x0, .port, false⟩
def F.PRT_IL_STATUS.LEADER : Fld := ⟨.PRT_IL_STATUS, 4, 1, .ro, 0x0, .port, false⟩
def F.PRT_IL_STATUS.GBN : Fld := ⟨.PRT_IL_STATUS, 5, 1, .ro, 0x0, .port, false⟩
def F.PRT_IL_STATUS.RESUMED : Fld := ⟨.PRT_IL_STATUS, 6, 1, .ro, 0x0, .port, false⟩
def F.PRT_IL_STATUS.SESSION : Fld := ⟨.PRT_IL_STATUS, 16, 16, .ro, 0x0, .port, false⟩
def F.PRT_IL_SEQ.TX_NEXT : Fld := ⟨.PRT_IL_SEQ, 0, 12, .ro, 0x0, .port, false⟩
def F.PRT_IL_SEQ.RX_EXPECTED : Fld := ⟨.PRT_IL_SEQ, 12, 12, .ro, 0x0, .port, false⟩
def F.PRT_IL_BUF.REPLAY_OCC : Fld := ⟨.PRT_IL_BUF, 0, 11, .ro, 0x0, .port, false⟩
def F.PRT_IL_BUF.REORDER_OCC : Fld := ⟨.PRT_IL_BUF, 11, 9, .ro, 0x0, .port, false⟩
def F.PRT_IL_ERR.REPLAY_EXHAUST : Fld := ⟨.PRT_IL_ERR, 0, 1, .rw1c, 0x0, .warm, false⟩
def F.PRT_IL_ERR.REORDER_OVF : Fld := ⟨.PRT_IL_ERR, 1, 1, .rw1c, 0x0, .warm, false⟩
def F.PRT_IL_ERR.CREDIT_VIOL : Fld := ⟨.PRT_IL_ERR, 2, 1, .rw1c, 0x0, .warm, false⟩
def F.PRT_IL_ERR.RETRAIN_FAIL : Fld := ⟨.PRT_IL_ERR, 3, 1, .rw1c, 0x0, .warm, false⟩
def F.PRT_IL_ERR.PEER_MISMATCH : Fld := ⟨.PRT_IL_ERR, 4, 1, .rw1c, 0x0, .warm, false⟩
def F.PRT_IL_ERR.PROTOCOL : Fld := ⟨.PRT_IL_ERR, 5, 1, .rw1c, 0x0, .warm, false⟩
def F.PRT_IL_ERR.FEC_UNCORR : Fld := ⟨.PRT_IL_ERR, 6, 1, .rw1c, 0x0, .warm, false⟩
/-! ### Fields of chapter 05 of spec/ -/

def F.TIL_BUF_CFG.RD_FLOOR : Fld := ⟨.TIL_BUF_CFG, 0, 10, .rw, 0x40, .warm, false⟩
def F.TIL_BUF_CFG.SNP_FLOOR : Fld := ⟨.TIL_BUF_CFG, 10, 10, .rw, 0x20, .warm, false⟩
def F.TIL_BUF_CFG.IO_FLOOR : Fld := ⟨.TIL_BUF_CFG, 20, 10, .rw, 0x10, .warm, false⟩
def F.TIL_BUF_STATUS.FREE : Fld := ⟨.TIL_BUF_STATUS, 0, 17, .ro, 0xC000, .warm, false⟩
def F.TIL_BUF_STATUS.RETIRED : Fld := ⟨.TIL_BUF_STATUS, 17, 7, .ro, 0x0, .warm, false⟩
def F.TIL_AUX_CFG.SIZE : Fld := ⟨.TIL_AUX_CFG, 0, 8, .ro, 0x40, .warm, true⟩
def F.TIL_AUX_CFG.STRAG_FLOOR : Fld := ⟨.TIL_AUX_CFG, 8, 8, .ro, 0x8, .warm, true⟩
def F.TIL_AUX_CFG.BLEND_FLOOR : Fld := ⟨.TIL_AUX_CFG, 16, 8, .ro, 0x20, .warm, true⟩
def F.TIL_AUX_CFG.TELEM_FLOOR : Fld := ⟨.TIL_AUX_CFG, 24, 8, .ro, 0x4, .warm, true⟩
def F.TIL_AUX_STATUS0.STRAG_USED : Fld := ⟨.TIL_AUX_STATUS0, 0, 16, .ro, 0x0, .warm, false⟩
def F.TIL_AUX_STATUS0.BLEND_USED : Fld := ⟨.TIL_AUX_STATUS0, 16, 16, .ro, 0x0, .warm, false⟩
def F.TIL_AUX_STATUS1.TELEM_USED : Fld := ⟨.TIL_AUX_STATUS1, 0, 16, .ro, 0x0, .warm, false⟩
def F.TIL_AUX_STATUS1.AUX_FREE : Fld := ⟨.TIL_AUX_STATUS1, 16, 16, .ro, 0x4000, .warm, false⟩
def F.TIL_MCAST_CFG.STRAG_AGE : Fld := ⟨.TIL_MCAST_CFG, 0, 16, .rw, 0x64, .warm, false⟩
def F.TIL_MIRROR.EN : Fld := ⟨.TIL_MIRROR, 0, 1, .rw, 0x0, .warm, false⟩
def F.TIL_MIRROR.PORT_K : Fld := ⟨.TIL_MIRROR, 1, 3, .rw, 0x0, .warm, false⟩
def F.TIL_MIRROR.DIR : Fld := ⟨.TIL_MIRROR, 4, 1, .rw, 0x0, .warm, false⟩
def F.TIL_ERR.BUF_CORR : Fld := ⟨.TIL_ERR, 0, 1, .rw1c, 0x0, .warm, false⟩
def F.TIL_ERR.BUF_UNCORR : Fld := ⟨.TIL_ERR, 1, 1, .rw1c, 0x0, .warm, false⟩
def F.TIL_ERR.ROUTE_MISS : Fld := ⟨.TIL_ERR, 2, 1, .rw1c, 0x0, .warm, false⟩
def F.TIL_ERR.LAYOVER : Fld := ⟨.TIL_ERR, 3, 1, .rw1c, 0x0, .warm, false⟩
def F.TIL_ERR.STRAG_AGE : Fld := ⟨.TIL_ERR, 4, 1, .rw1c, 0x0, .warm, false⟩
def F.TIL_ERR.MALFORMED : Fld := ⟨.TIL_ERR, 5, 1, .rw1c, 0x0, .warm, false⟩
def F.TIL_ERR.TELEM_DROP : Fld := ⟨.TIL_ERR, 6, 1, .rw1c, 0x0, .warm, false⟩
def F.TIL_ERR.BUF_CFG : Fld := ⟨.TIL_ERR, 7, 1, .rw1c, 0x0, .warm, false⟩
def F.TIL_PCFG.EDGE_ID : Fld := ⟨.TIL_PCFG, 0, 12, .rw, 0x0, .warm, true⟩
def F.TIL_PCFG.EDGE_VALID : Fld := ⟨.TIL_PCFG, 12, 1, .rw, 0x0, .warm, true⟩
def F.TIL_PCFG.IO_HE : Fld := ⟨.TIL_PCFG, 13, 1, .rw, 0x0, .warm, true⟩
def F.TIL_PCFG.HOLD_LIMIT : Fld := ⟨.TIL_PCFG, 16, 16, .rw, 0x1000, .warm, true⟩
def F.TIL_ROUTE.VALID : Fld := ⟨.TIL_ROUTE, 0, 1, .ro, 0x0, .warm, true⟩
def F.TIL_ROUTE.LOCAL : Fld := ⟨.TIL_ROUTE, 1, 1, .ro, 0x0, .warm, true⟩
def F.TIL_ROUTE.PORT : Fld := ⟨.TIL_ROUTE, 2, 6, .ro, 0x0, .warm, true⟩
def F.TIL_MCAST.MEMBERS : Fld := ⟨.TIL_MCAST0, 0, 64, .ro, 0x0, .warm, true⟩
def F.TIL_MCAST.VALID : Fld := ⟨.TIL_MCAST2, 0, 1, .ro, 0x0, .warm, true⟩
def F.TIL_MCAST.ROOT : Fld := ⟨.TIL_MCAST2, 1, 1, .ro, 0x0, .warm, true⟩
def F.TIL_MCAST.ROOT_PORT : Fld := ⟨.TIL_MCAST2, 2, 6, .ro, 0x0, .warm, true⟩
def F.TIL_MCAST.CLASS : Fld := ⟨.TIL_MCAST2, 8, 3, .ro, 0x0, .warm, true⟩
def F.TIL_MCAST.GSEQ : Fld := ⟨.TIL_MCAST3, 0, 32, .ro, 0x0, .cold, true⟩
def F.TIL_VPPB.STATE : Fld := ⟨.TIL_VPPB, 0, 2, .ro, 0x0, .warm, true⟩
def F.TIL_VPPB.TARGET_EDGE : Fld := ⟨.TIL_VPPB, 2, 12, .ro, 0x0, .warm, true⟩
def F.TIL_VPPB.LD_ID : Fld := ⟨.TIL_VPPB, 14, 4, .ro, 0x0, .warm, true⟩
def F.TIL_VPPB.LD_VALID : Fld := ⟨.TIL_VPPB, 18, 1, .ro, 0x0, .warm, true⟩
/-! ### Fields of chapter 06 of spec/ -/

def F.QUEUE.WEIGHT : Fld := ⟨.QUEUE0, 0, 8, .ro, 0x10, .warm, false⟩
def F.QUEUE.HIST_EN : Fld := ⟨.QUEUE0, 8, 1, .ro, 0x0, .warm, false⟩
def F.QUEUE.CARAVAN_EN : Fld := ⟨.QUEUE0, 9, 1, .ro, 0x0, .warm, false⟩
def F.QUEUE.YELLOW_TH : Fld := ⟨.QUEUE0, 16, 16, .ro, 0x100, .warm, false⟩
def F.QUEUE.RATE : Fld := ⟨.QUEUE1, 0, 24, .ro, 0x0, .warm, false⟩
def F.QUEUE.SHAPE_EN : Fld := ⟨.QUEUE1, 31, 1, .ro, 0x0, .warm, false⟩
def F.QUEUE.BURST : Fld := ⟨.QUEUE2, 0, 24, .ro, 0x240, .warm, false⟩
def F.QUEUE.TOKENS : Fld := ⟨.QUEUE3, 0, 25, .ro, 0x240, .warm, false⟩
def F.QUEUE.DEPTH_CELLS : Fld := ⟨.QUEUE4, 0, 17, .ro, 0x0, .warm, false⟩
def F.QUEUE.DEPTH_MSGS : Fld := ⟨.QUEUE5, 0, 19, .ro, 0x0, .warm, false⟩
def F.QUEUE.START_TAG : Fld := ⟨.QUEUE6, 0, 32, .ro, 0x0, .warm, false⟩
def F.QUEUE.PEAK_CELLS : Fld := ⟨.QUEUE7, 0, 17, .rc, 0x0, .warm, false⟩
def F.QUEUE.NONEMPTY : Fld := ⟨.QUEUE8, 0, 1, .ro, 0x0, .warm, false⟩
def F.QUEUE.ELIGIBLE : Fld := ⟨.QUEUE8, 1, 1, .ro, 0x0, .warm, false⟩
def F.QUEUE.HOLD : Fld := ⟨.QUEUE8, 2, 2, .ro, 0x0, .warm, false⟩
def F.POL.EN : Fld := ⟨.POL0, 0, 1, .ro, 0x0, .warm, true⟩
def F.POL.AWARE : Fld := ⟨.POL0, 1, 1, .ro, 0x0, .warm, true⟩
def F.POL.TRANSIT : Fld := ⟨.POL0, 2, 1, .ro, 0x0, .warm, true⟩
def F.POL.CIR : Fld := ⟨.POL1, 0, 24, .ro, 0x0, .warm, true⟩
def F.POL.PIR : Fld := ⟨.POL2, 0, 24, .ro, 0x0, .warm, true⟩
def F.POL.CBS : Fld := ⟨.POL3, 0, 24, .ro, 0x0, .warm, true⟩
def F.POL.PBS : Fld := ⟨.POL4, 0, 24, .ro, 0x240, .warm, true⟩
def F.POL.TC : Fld := ⟨.POL5, 0, 24, .ro, 0x0, .warm, false⟩
def F.POL.TP : Fld := ⟨.POL6, 0, 24, .ro, 0x240, .warm, false⟩
def F.POL.HOLD_OCC : Fld := ⟨.POL7, 0, 16, .ro, 0x0, .warm, false⟩
def F.POL.HOLD_MAX : Fld := ⟨.POL7, 16, 16, .ro, 0x0, .warm, true⟩
def F.SCH_CTL.REFILL : Fld := ⟨.SCH_CTL, 0, 10, .ro, 0xA, .warm, true⟩
def F.SCH_HIST_CFG.PERIOD : Fld := ⟨.SCH_HIST_CFG, 0, 16, .ro, 0x1, .warm, true⟩
def F.SCH_HIST_CFG.FREEZE : Fld := ⟨.SCH_HIST_CFG, 16, 1, .rw, 0x0, .warm, true⟩
def F.SCH_HIST_CFG.CLEAR : Fld := ⟨.SCH_HIST_CFG, 17, 1, .wo, 0x0, .warm, false⟩
def F.SCH_ERR.SCHED_CFG : Fld := ⟨.SCH_ERR, 0, 1, .rw1c, 0x0, .warm, false⟩
def F.SCH_ERR.TELEM_DROP : Fld := ⟨.SCH_ERR, 1, 1, .rw1c, 0x0, .warm, false⟩
def F.SCH_ERR.HOLD_FULL : Fld := ⟨.SCH_ERR, 2, 1, .rw1c, 0x0, .warm, false⟩
def F.SCH_CLASSMAP.MAP : Fld := ⟨.SCH_CLASSMAP, 0, 32, .ro, 0x1116FF33, .warm, true⟩
def F.SCH_SLOTMAP.MAP : Fld := ⟨.SCH_SLOTMAP, 0, 32, .ro, 0x1000, .warm, true⟩
def F.SCH_PORT_CFG.TRANSIT_POL : Fld := ⟨.SCH_PORT_CFG, 0, 10, .ro, 0x0, .warm, true⟩
def F.SCH_PORT_CFG.TRANSIT_EN : Fld := ⟨.SCH_PORT_CFG, 10, 1, .ro, 0x0, .warm, true⟩
def F.SCH_PORT_CFG.UNIT_TIME : Fld := ⟨.SCH_PORT_CFG, 16, 16, .ro, 0x0, .warm, false⟩
def F.SCH_PORT_VT.VT : Fld := ⟨.SCH_PORT_VT, 0, 32, .ro, 0x0, .warm, false⟩
def F.SCH_GATE_CTL.EN : Fld := ⟨.SCH_GATE_CTL, 0, 1, .ro, 0x0, .warm, false⟩
def F.SCH_GATE_CTL.COUNT : Fld := ⟨.SCH_GATE_CTL, 1, 7, .ro, 0x0, .warm, false⟩
def F.SCH_GATE_CTL.PENDING : Fld := ⟨.SCH_GATE_CTL, 8, 1, .ro, 0x0, .warm, false⟩
def F.SCH_GATE_CYCLE.CYCLE : Fld := ⟨.SCH_GATE_CYCLE, 0, 30, .ro, 0x0, .warm, false⟩
def F.SCH_GATE_BASE.BASE : Fld := ⟨.SCH_GATE_BASE_LO, 0, 64, .ro, 0x0, .warm, false⟩
def F.SCH_GATE_ENT.DURATION : Fld := ⟨.SCH_GATE_ENT0, 0, 30, .ro, 0x0, .warm, false⟩
def F.SCH_GATE_ENT.OPEN : Fld := ⟨.SCH_GATE_ENT1, 0, 8, .ro, 0x0, .warm, false⟩
/-! ### Fields of chapter 07 of spec/ -/

def F.FWDV.SUPPORTED : Fld := ⟨.FWDV_0C, 0, 1, .ro, 0x1, .port, false⟩
def F.FWDV.VERSION : Fld := ⟨.FWDV_0C, 4, 4, .ro, 0x1, .port, false⟩
def F.FWDV.OPC_FWD_SNP : Fld := ⟨.FWDV_10, 0, 8, .rw, 0x0, .port, false⟩
def F.FWDV.OPC_F_DATA : Fld := ⟨.FWDV_10, 8, 8, .rw, 0x0, .port, false⟩
def F.FWDV.OPC_FWD_DATA : Fld := ⟨.FWDV_10, 16, 8, .rw, 0x0, .port, false⟩
def F.FWDV.OPC_FWD_NACK : Fld := ⟨.FWDV_10, 24, 8, .rw, 0x0, .port, false⟩
def F.FWDV.ENABLE : Fld := ⟨.FWDV_14, 0, 1, .rw, 0x0, .port, false⟩
def F.FWDV.ACTIVE : Fld := ⟨.FWDV_18, 0, 1, .ro, 0x0, .port, false⟩
def F.FWDV.OPC_ERR : Fld := ⟨.FWDV_18, 1, 1, .ro, 0x0, .port, false⟩
def F.DIR_CTL.BI_TIMEOUT : Fld := ⟨.DIR_CTL, 0, 8, .rw, 0xA, .cold, true⟩
def F.DIR_CTL.FWD_EN : Fld := ⟨.DIR_CTL, 8, 1, .rw, 0x1, .cold, true⟩
def F.DIR_STATUS0.ENTRIES : Fld := ⟨.DIR_STATUS0, 0, 23, .ro, 0x0, .warm, false⟩
def F.DIR_STATUS1.TRK_BUSY : Fld := ⟨.DIR_STATUS1, 0, 13, .ro, 0x0, .warm, false⟩
def F.DIR_STATUS1.WAYBILLS : Fld := ⟨.DIR_STATUS1, 13, 9, .ro, 0x0, .warm, false⟩
def F.DIR_STATUS1.WB_SLOTS : Fld := ⟨.DIR_STATUS1, 22, 10, .ro, 0x0, .warm, false⟩
def F.DIR_PTR.PTR : Fld := ⟨.DIR_PTR, 0, 6, .ro, 0x0, .warm, false⟩
def F.DIR_FWD.ACTIVE : Fld := ⟨.DIR_FWD_LO, 0, 64, .ro, 0x0, .warm, false⟩
def F.DIR_ERR.DIR_CORR : Fld := ⟨.DIR_ERR, 0, 1, .rw1c, 0x0, .warm, false⟩
def F.DIR_ERR.DIR_UNCORR : Fld := ⟨.DIR_ERR, 1, 1, .rw1c, 0x0, .warm, false⟩
def F.DIR_ERR.BISNP_TIMEOUT : Fld := ⟨.DIR_ERR, 2, 1, .rw1c, 0x0, .warm, false⟩
def F.DIR_ERR.AGENT_DEAD : Fld := ⟨.DIR_ERR, 3, 1, .rw1c, 0x0, .warm, false⟩
def F.DIR_ERR.SPEC_READ_ERR : Fld := ⟨.DIR_ERR, 4, 1, .rw1c, 0x0, .warm, false⟩
def F.DIR_ERR.COH_PROTOCOL : Fld := ⟨.DIR_ERR, 5, 1, .rw1c, 0x0, .warm, false⟩
def F.DIR_ERR.TARGET_TIMEOUT : Fld := ⟨.DIR_ERR, 6, 1, .rw1c, 0x0, .warm, false⟩
def F.DIR_ERR.WINDOW_CFG : Fld := ⟨.DIR_ERR, 7, 1, .rw1c, 0x0, .warm, false⟩
def F.WIN.VALID : Fld := ⟨.WIN0, 0, 1, .ro, 0x0, .cold, true⟩
def F.WIN.PREFETCHABLE : Fld := ⟨.WIN0, 1, 1, .ro, 0x0, .cold, true⟩
def F.WIN.PF_EN : Fld := ⟨.WIN0, 2, 1, .ro, 0x0, .cold, true⟩
def F.WIN.PF_DEPTH : Fld := ⟨.WIN0, 3, 4, .ro, 0x0, .cold, true⟩
def F.WIN.SIZE : Fld := ⟨.WIN0, 8, 4, .ro, 0x0, .cold, true⟩
def F.WIN.WAYS : Fld := ⟨.WIN0, 12, 2, .ro, 0x0, .cold, true⟩
def F.WIN.GRAN : Fld := ⟨.WIN0, 14, 1, .ro, 0x0, .cold, true⟩
def F.WIN.BASE : Fld := ⟨.WIN1, 0, 24, .ro, 0x0, .cold, true⟩
def F.WIN.TEDGE : Fld := ⟨.WIN_TGT, 0, 12, .ro, 0x0, .cold, true⟩
def F.WIN.TLD_ID : Fld := ⟨.WIN_TGT, 12, 4, .ro, 0x0, .cold, true⟩
def F.WIN.TLD_VALID : Fld := ⟨.WIN_TGT, 16, 1, .ro, 0x0, .cold, true⟩
def F.WIN.TDPA_BASE : Fld := ⟨.WIN_TDPA, 0, 32, .ro, 0x0, .cold, true⟩
def F.GRANT.VALID : Fld := ⟨.GRANT0, 0, 1, .ro, 0x0, .cold, true⟩
def F.GRANT.COHERENT : Fld := ⟨.GRANT0, 1, 1, .ro, 0x0, .cold, true⟩
def F.GRANT.LOCAL : Fld := ⟨.GRANT0, 2, 1, .ro, 0x0, .cold, true⟩
def F.GRANT.HOME_EDGE : Fld := ⟨.GRANT0, 3, 12, .ro, 0x0, .cold, true⟩
def F.GRANT.DPA_BASE : Fld := ⟨.GRANT1, 0, 18, .ro, 0x0, .cold, true⟩
def F.GRANT.SIZE : Fld := ⟨.GRANT2, 0, 15, .ro, 0x0, .cold, true⟩
def F.GRANT.FBASE : Fld := ⟨.GRANT3, 0, 24, .ro, 0x0, .cold, true⟩
/-! ### Fields of chapter 08 of spec/ -/

def F.DIR_RECOV_CTL.TGT_TIMEOUT : Fld := ⟨.DIR_RECOV_CTL, 0, 10, .rw, 0x32, .cold, true⟩
def F.DIR_RECOV_CTL.MARK_LIM : Fld := ⟨.DIR_RECOV_CTL, 10, 4, .rw, 0x8, .cold, true⟩
def F.DIR_RECOV_CTL.SCRUB_INT : Fld := ⟨.DIR_RECOV_CTL, 14, 8, .rw, 0x10, .cold, true⟩
def F.DIR_RECOV_CTL.PF_LIFE : Fld := ⟨.DIR_RECOV_CTL, 22, 8, .rw, 0xA, .cold, true⟩
def F.DIR_DEAD.DEAD : Fld := ⟨.DIR_DEAD_LO, 0, 64, .ro, 0x0, .warm, false⟩
def F.DIR_RECLAIM.BUSY : Fld := ⟨.DIR_RECLAIM, 0, 1, .ro, 0x0, .warm, false⟩
def F.DIR_RECLAIM.HOST : Fld := ⟨.DIR_RECLAIM, 1, 6, .ro, 0x0, .warm, false⟩
def F.DIR_RECLAIM.POISONED : Fld := ⟨.DIR_RECLAIM, 8, 24, .ro, 0x0, .warm, false⟩
def F.DIR_PF_STATUS.BUF_USED : Fld := ⟨.DIR_PF_STATUS, 0, 11, .ro, 0x0, .warm, false⟩
def F.DIR_PF_STATUS.HINTS : Fld := ⟨.DIR_PF_STATUS, 11, 7, .ro, 0x0, .warm, false⟩
def F.DIR_LOST.SET : Fld := ⟨.DIR_LOST, 0, 18, .ro, 0x0, .warm, false⟩
def F.DIR_LOST.CW : Fld := ⟨.DIR_LOST, 18, 4, .ro, 0x0, .warm, false⟩
def F.DIR_LOST.VALID : Fld := ⟨.DIR_LOST, 31, 1, .ro, 0x0, .warm, false⟩
/-! ### Fields of chapter 09 of spec/ -/

def F.BLD_TILE_STATUS.OPEN_FOLDS : Fld := ⟨.BLD_TILE_STATUS, 0, 7, .ro, 0x0, .warm, false⟩
def F.BLD_TILE_STATUS.HOLDING : Fld := ⟨.BLD_TILE_STATUS, 7, 1, .ro, 0x0, .warm, false⟩
def F.BLD_TILE_ERR.RANK_VIOL : Fld := ⟨.BLD_TILE_ERR, 0, 1, .rw1c, 0x0, .warm, false⟩
def F.BLD_TILE_ERR.TYPE : Fld := ⟨.BLD_TILE_ERR, 1, 1, .rw1c, 0x0, .warm, false⟩
def F.BLD_TILE_ERR.POISON : Fld := ⟨.BLD_TILE_ERR, 2, 1, .rw1c, 0x0, .warm, false⟩
def F.BLD_TILE_ERR.ABANDON : Fld := ⟨.BLD_TILE_ERR, 3, 1, .rw1c, 0x0, .warm, false⟩
def F.FOLD.STATE : Fld := ⟨.FOLD0, 0, 3, .ro, 0x0, .warm, false⟩
def F.FOLD.TYPE : Fld := ⟨.FOLD0, 4, 3, .ro, 0x0, .warm, false⟩
def F.FOLD.OP : Fld := ⟨.FOLD0, 7, 3, .ro, 0x0, .warm, false⟩
def F.FOLD.STAGE_RES : Fld := ⟨.FOLD0, 10, 1, .ro, 0x0, .warm, false⟩
def F.FOLD.AUTO_REARM : Fld := ⟨.FOLD0, 11, 1, .ro, 0x0, .warm, false⟩
def F.FOLD.NOTIFY_EN : Fld := ⟨.FOLD0, 12, 1, .ro, 0x0, .warm, false⟩
def F.FOLD.RANKS : Fld := ⟨.FOLD0, 14, 7, .ro, 0x0, .warm, false⟩
def F.FOLD.LINES : Fld := ⟨.FOLD1, 0, 11, .ro, 0x0, .warm, false⟩
def F.FOLD.NOTIFY_GROUP : Fld := ⟨.FOLD1, 16, 12, .ro, 0x0, .warm, false⟩
def F.FOLD.FWIN : Fld := ⟨.FOLD2, 0, 36, .ro, 0x0, .warm, false⟩
def F.FOLD.RES : Fld := ⟨.FOLD4, 0, 46, .ro, 0x0, .warm, false⟩
def F.FOLD.NOTIFY_ADDR : Fld := ⟨.FOLD6, 0, 64, .ro, 0x0, .warm, false⟩
def F.FOLD.TIMEOUT : Fld := ⟨.FOLD8, 0, 16, .ro, 0x0, .warm, false⟩
def F.FOLD.EPOCH : Fld := ⟨.FOLD8, 16, 16, .ro, 0x0, .warm, false⟩
def F.FOLD.LINES_DONE : Fld := ⟨.FOLD9, 0, 11, .ro, 0x0, .warm, false⟩
def F.FOLD.POISONED : Fld := ⟨.FOLD9, 16, 11, .ro, 0x0, .warm, false⟩
def F.FOLD.RANKS_IN : Fld := ⟨.FOLD10, 0, 64, .ro, 0x0, .warm, false⟩
def F.FOLD.STAGED : Fld := ⟨.FOLD12, 0, 16, .ro, 0x0, .warm, false⟩
def F.FOLD.CELLS : Fld := ⟨.FOLD12, 16, 16, .ro, 0x0, .warm, false⟩
def F.FOLD.CAUSE : Fld := ⟨.FOLD13, 0, 4, .ro, 0x0, .warm, false⟩
def F.FOLD_RANK.EDGE : Fld := ⟨.FOLD_RANK, 0, 12, .ro, 0x0, .warm, false⟩
def F.FOLD_RANK.INSTANCE : Fld := ⟨.FOLD_RANK, 12, 10, .ro, 0x0, .warm, false⟩
def F.FOLD_RANK.INST_VALID : Fld := ⟨.FOLD_RANK, 22, 1, .ro, 0x0, .warm, false⟩
/-! ### Fields of chapter 10 of spec/ -/

def F.INS_CTL.FROZEN_US : Fld := ⟨.INS_CTL, 0, 17, .rw, 0x3E8, .warm, true⟩
def F.INS.VALID : Fld := ⟨.INS0, 0, 1, .ro, 0x0, .warm, true⟩
def F.INS.CLASS : Fld := ⟨.INS0, 1, 1, .ro, 0x0, .warm, true⟩
def F.INS.COH : Fld := ⟨.INS0, 2, 1, .ro, 0x0, .warm, true⟩
def F.INS.HOST_PORT : Fld := ⟨.INS0, 4, 6, .ro, 0x0, .warm, true⟩
def F.INS.SLOT : Fld := ⟨.INS0, 10, 5, .ro, 0x0, .warm, true⟩
def F.INS.VF : Fld := ⟨.INS0, 16, 8, .ro, 0x0, .warm, true⟩
def F.INS.XCOUNT : Fld := ⟨.INS0, 24, 7, .ro, 0x0, .warm, true⟩
def F.INS.AP_BASE : Fld := ⟨.INS1, 0, 18, .ro, 0x0, .warm, true⟩
def F.INS.AP_SIZE : Fld := ⟨.INS2, 0, 5, .ro, 0x0, .warm, true⟩
def F.INS.Q_TRK : Fld := ⟨.INS3, 0, 16, .ro, 0x0, .warm, true⟩
def F.INS.Q_HOLD : Fld := ⟨.INS3, 16, 16, .ro, 0x0, .warm, true⟩
def F.INS.Q_CELLS : Fld := ⟨.INS4, 0, 20, .ro, 0x0, .warm, true⟩
def F.INS.Q_FOLDS : Fld := ⟨.INS4, 20, 7, .ro, 0x0, .warm, true⟩
def F.INS.Q_DIR : Fld := ⟨.INS5, 0, 23, .ro, 0x0, .warm, true⟩
def F.INS.SQUASH_US : Fld := ⟨.INS6, 0, 17, .ro, 0x3E8, .warm, true⟩
def F.INS.STATE : Fld := ⟨.INS8, 0, 3, .ro, 0x0, .inst, false⟩
def F.INS.GEN : Fld := ⟨.INS8, 16, 16, .ro, 0x0, .warm, true⟩
def F.INS.OUT_REQ : Fld := ⟨.INS9, 0, 16, .ro, 0x0, .inst, false⟩
def F.INS.SQUASH_OUT : Fld := ⟨.INS9, 16, 16, .ro, 0x0, .warm, false⟩
def F.INS.CELLS_USED : Fld := ⟨.INS10, 0, 20, .ro, 0x0, .inst, false⟩
def F.INS.FOLDS_USED : Fld := ⟨.INS10, 20, 7, .ro, 0x0, .warm, false⟩
def F.INS.DIR_USED : Fld := ⟨.INS11, 0, 26, .ro, 0x0, .warm, false⟩
def F.INS.RESETS : Fld := ⟨.INS12, 0, 16, .ro, 0x0, .warm, false⟩
def F.INS.QUOTA : Fld := ⟨.INS13, 0, 1, .rw1c, 0x0, .warm, false⟩
def F.INS.SQUASH : Fld := ⟨.INS13, 1, 1, .rw1c, 0x0, .warm, false⟩
def F.INS.LATE : Fld := ⟨.INS13, 2, 1, .rw1c, 0x0, .warm, false⟩
def F.INS.ACCESS : Fld := ⟨.INS13, 3, 1, .rw1c, 0x0, .warm, false⟩
def F.XLATE.VALID : Fld := ⟨.XLATE0, 0, 1, .ro, 0x0, .warm, true⟩
def F.XLATE.COHERENT : Fld := ⟨.XLATE0, 1, 1, .ro, 0x0, .warm, true⟩
def F.XLATE.LOCAL : Fld := ⟨.XLATE0, 2, 1, .ro, 0x0, .warm, true⟩
def F.XLATE.WRITABLE : Fld := ⟨.XLATE0, 3, 1, .ro, 0x0, .warm, true⟩
def F.XLATE.HOME_EDGE : Fld := ⟨.XLATE0, 4, 12, .ro, 0x0, .warm, true⟩
def F.XLATE.AP_OFF : Fld := ⟨.XLATE1, 0, 23, .ro, 0x0, .warm, true⟩
def F.XLATE.SIZE : Fld := ⟨.XLATE2, 0, 23, .ro, 0x0, .warm, true⟩
def F.XLATE.FBASE : Fld := ⟨.XLATE3, 0, 31, .ro, 0x0, .warm, true⟩
/-! ### Fields of chapter 11 of spec/ -/

def F.BRG_CTL.CPL_TIMEOUT : Fld := ⟨.BRG_CTL, 0, 10, .ro, 0x32, .warm, true⟩
def F.BRG_CTL.LOCK_TIMEOUT : Fld := ⟨.BRG_CTL, 10, 10, .ro, 0xA, .warm, true⟩
def F.BRG_CTL.LOCK_EN : Fld := ⟨.BRG_CTL, 20, 1, .ro, 0x1, .warm, true⟩
def F.BRG_CTL.CPL_TRACK : Fld := ⟨.BRG_CTL, 21, 1, .ro, 0x1, .warm, true⟩
def F.BRG_CTL.EVT_CLASS : Fld := ⟨.BRG_CTL, 22, 3, .ro, 0x1, .warm, true⟩
def F.BRG_LOCK.LEVEL : Fld := ⟨.BRG_LOCK, 0, 2, .ro, 0x0, .warm, false⟩
def F.BRG_LOCK.HOLDER : Fld := ⟨.BRG_LOCK, 2, 6, .ro, 0x0, .warm, false⟩
def F.BRG_LOCK.TARGET : Fld := ⟨.BRG_LOCK, 8, 6, .ro, 0x0, .warm, false⟩
def F.BRG_LOCK.WAITERS : Fld := ⟨.BRG_LOCK, 14, 6, .ro, 0x0, .warm, false⟩
def F.BRG_ERR.FAR_ERR : Fld := ⟨.BRG_ERR, 0, 1, .rw1c, 0x0, .warm, false⟩
def F.BRG_ERR.LOCK_TIMEOUT : Fld := ⟨.BRG_ERR, 1, 1, .rw1c, 0x0, .warm, false⟩
def F.BRG_ERR.MALFORMED : Fld := ⟨.BRG_ERR, 2, 1, .rw1c, 0x0, .warm, false⟩
def F.BRG_ERR.SIDE_FULL : Fld := ⟨.BRG_ERR, 3, 1, .rw1c, 0x0, .warm, false⟩
def F.BRG_TILE_STATUS.CPL_TRK : Fld := ⟨.BRG_TILE_STATUS, 0, 11, .ro, 0x0, .warm, false⟩
def F.BRG_PORT_STATUS.SIDE_NP : Fld := ⟨.BRG_PORT_STATUS, 0, 6, .ro, 0x0, .port, false⟩
def F.BRG_PORT_STATUS.SIDE_CPL : Fld := ⟨.BRG_PORT_STATUS, 6, 6, .ro, 0x0, .port, false⟩
def F.BRG_PORT_STATUS.EVT_PEND : Fld := ⟨.BRG_PORT_STATUS, 12, 6, .ro, 0x0, .port, false⟩
def F.BRG_PORT_STATUS.INTX : Fld := ⟨.BRG_PORT_STATUS, 18, 4, .ro, 0x0, .port, false⟩
def F.MCA.VALID : Fld := ⟨.MCA0, 0, 1, .ro, 0x0, .warm, true⟩
def F.MCA.GROUP : Fld := ⟨.MCA0, 1, 12, .ro, 0x0, .warm, true⟩
def F.MCA.DEST : Fld := ⟨.MCA1, 0, 64, .ro, 0x0, .warm, true⟩
/-! ### Fields of chapter 12 of spec/ -/

def F.MGT_FW_STATUS.STATE : Fld := ⟨.MGT_FW_STATUS, 0, 3, .ro, 0x0, .warm, false⟩
def F.MGT_FW_STATUS.SLOT : Fld := ⟨.MGT_FW_STATUS, 3, 1, .ro, 0x0, .warm, false⟩
def F.MGT_FW_STATUS.FALLBACK : Fld := ⟨.MGT_FW_STATUS, 4, 1, .ro, 0x0, .warm, false⟩
def F.MGT_FW_STATUS.WDT_ARMED : Fld := ⟨.MGT_FW_STATUS, 5, 1, .ro, 0x0, .warm, false⟩
def F.MGT_FW_VERSION.VERSION : Fld := ⟨.MGT_FW_VERSION, 0, 32, .ro, 0x0, .warm, false⟩
def F.MGT_BOOT.ACTIVE_SLOT : Fld := ⟨.MGT_BOOT, 0, 1, .ro, 0x0, .warm, false⟩
def F.MGT_BOOT.NEXT_VALID : Fld := ⟨.MGT_BOOT, 1, 1, .ro, 0x0, .warm, false⟩
def F.MGT_BOOT.NEXT_SLOT : Fld := ⟨.MGT_BOOT, 2, 1, .ro, 0x0, .warm, false⟩
def F.MGT_BOOT.A_VALID : Fld := ⟨.MGT_BOOT, 3, 1, .ro, 0x0, .warm, false⟩
def F.MGT_BOOT.B_VALID : Fld := ⟨.MGT_BOOT, 4, 1, .ro, 0x0, .warm, false⟩
def F.MGT_BOOT.SVN_MIN : Fld := ⟨.MGT_BOOT, 8, 8, .ro, 0x0, .warm, false⟩
def F.MGT_BOOT.FUSE_LEFT : Fld := ⟨.MGT_BOOT, 16, 6, .ro, 0x0, .warm, false⟩
def F.MGT_BG.RUNNING : Fld := ⟨.MGT_BG, 0, 4, .ro, 0x0, .warm, false⟩
def F.MGT_BG.RESULTS : Fld := ⟨.MGT_BG, 4, 5, .ro, 0x0, .warm, false⟩
def F.MGT_XPORT.BMC_EN : Fld := ⟨.MGT_XPORT, 0, 1, .rw, 0x1, .warm, true⟩
def F.MGT_XPORT.VDM_EN : Fld := ⟨.MGT_XPORT, 1, 1, .rw, 0x1, .warm, true⟩
def F.MGT_XPORT.HOST_MBOX_EN : Fld := ⟨.MGT_XPORT, 2, 1, .rw, 0x1, .warm, true⟩
def F.MGT_XPORT.TENANT_MBOX_EN : Fld := ⟨.MGT_XPORT, 3, 1, .rw, 0x1, .warm, true⟩
def F.MGT_XPORT.BMC_MONITOR : Fld := ⟨.MGT_XPORT, 4, 1, .rw, 0x0, .warm, true⟩
def F.MGT_XPORT.BMC_I3C : Fld := ⟨.MGT_XPORT, 5, 1, .ro, 0x0, .warm, false⟩
def F.MGT_PARAM.BANK : Fld := ⟨.MGT_PARAM, 0, 1, .ro, 0x0, .warm, false⟩
def F.MGT_PARAM.STAGED : Fld := ⟨.MGT_PARAM, 1, 1, .ro, 0x0, .warm, false⟩
def F.MGT_PARAM.DEFAULTS : Fld := ⟨.MGT_PARAM, 2, 1, .ro, 0x0, .warm, false⟩
def F.MGT_PARAM.GEN : Fld := ⟨.MGT_PARAM, 16, 16, .ro, 0x0, .warm, false⟩
def F.MGT_ERR.MBOX_VIOL : Fld := ⟨.MGT_ERR, 0, 1, .rw1c, 0x0, .warm, false⟩
def F.MGT_ERR.FW_IMAGE : Fld := ⟨.MGT_ERR, 1, 1, .rw1c, 0x0, .warm, false⟩
def F.MGT_ERR.PARAM_STORE : Fld := ⟨.MGT_ERR, 2, 1, .rw1c, 0x0, .warm, false⟩
def F.MGT_ERR.WATCHDOG : Fld := ⟨.MGT_ERR, 3, 1, .rw1c, 0x0, .cold, false⟩
/-! ### Fields of chapter 13 of spec/ -/

def F.CAR_CFG.TX_EN : Fld := ⟨.CAR_CFG, 0, 1, .rw, 0x0, .warm, true⟩
def F.CAR_CFG.RX_EN : Fld := ⟨.CAR_CFG, 1, 1, .rw, 0x0, .warm, true⟩
def F.CAR_CFG.TX_RATE : Fld := ⟨.CAR_CFG, 2, 2, .rw, 0x0, .warm, true⟩
def F.CAR_CFG.STALL : Fld := ⟨.CAR_CFG, 4, 8, .rw, 0xA, .warm, true⟩
def F.CAR_CFG.ABANDON : Fld := ⟨.CAR_CFG, 12, 10, .rw, 0x32, .warm, true⟩
def F.CAR_CFG.STREAM_EN : Fld := ⟨.CAR_CFG, 22, 6, .rw, 0x1F, .warm, true⟩
def F.CAR_CTL.RESYNC : Fld := ⟨.CAR_CTL, 0, 1, .wo, 0x0, .warm, false⟩
def F.CAR_STATUS.TX_READY : Fld := ⟨.CAR_STATUS, 0, 1, .ro, 0x0, .warm, false⟩
def F.CAR_STATUS.RX_LOCK : Fld := ⟨.CAR_STATUS, 1, 1, .ro, 0x0, .warm, false⟩
def F.CAR_STATUS.TX_CREDIT : Fld := ⟨.CAR_STATUS, 2, 8, .ro, 0x0, .warm, false⟩
def F.CAR_STATUS.RX_FREE : Fld := ⟨.CAR_STATUS, 10, 8, .ro, 0x0, .warm, false⟩
def F.CAR_ERR.ABANDON : Fld := ⟨.CAR_ERR, 0, 1, .rw1c, 0x0, .warm, false⟩
def F.CAR_ERR.OVERRUN : Fld := ⟨.CAR_ERR, 1, 1, .rw1c, 0x0, .warm, false⟩
def F.CAR_ERR.FRAME : Fld := ⟨.CAR_ERR, 2, 1, .rw1c, 0x0, .warm, false⟩
def F.CAR_ERR.OUT_LOST : Fld := ⟨.CAR_ERR, 3, 1, .rw1c, 0x0, .warm, false⟩
def F.CAR_ERR.TX_RESYNC : Fld := ⟨.CAR_ERR, 4, 1, .rw1c, 0x0, .warm, false⟩
def F.CAR_RX_BURST.STREAM : Fld := ⟨.CAR_RX_BURST, 0, 8, .ro, 0x0, .warm, false⟩
def F.CAR_RX_BURST.OPEN : Fld := ⟨.CAR_RX_BURST, 8, 1, .ro, 0x0, .warm, false⟩
def F.CAR_RX_BURST.STALLED : Fld := ⟨.CAR_RX_BURST, 9, 1, .ro, 0x0, .warm, false⟩
def F.CAR_RX_BURST.BROKEN : Fld := ⟨.CAR_RX_BURST, 10, 1, .ro, 0x0, .warm, false⟩
def F.CAR_RX_SEQ.SEQ : Fld := ⟨.CAR_RX_SEQ, 0, 32, .ro, 0x0, .warm, false⟩
def F.CAR_RX_OFF.RECEIVED : Fld := ⟨.CAR_RX_OFF, 0, 32, .ro, 0x0, .warm, false⟩
def F.CAR_OUTQ.FAULT_Q : Fld := ⟨.CAR_OUTQ, 0, 12, .ro, 0x0, .warm, false⟩
def F.CAR_OUTQ.RECLAIM_Q : Fld := ⟨.CAR_OUTQ, 12, 12, .ro, 0x0, .warm, false⟩
/-! ### Fields of chapter 14 of spec/ -/

def F.FLT_CTL.REACTION : Fld := ⟨.FLT_CTL, 0, 1, .ro, 0x0, .warm, true⟩
def F.FLT_CTL.WINDOW : Fld := ⟨.FLT_CTL, 1, 14, .ro, 0x14, .warm, true⟩
def F.FLT_STATUS.PENDING : Fld := ⟨.FLT_STATUS, 0, 9, .ro, 0x0, .warm, false⟩
def F.FLT_STATUS.TOP : Fld := ⟨.FLT_STATUS, 9, 2, .ro, 0x0, .warm, false⟩
def F.FLT_STATUS.PEND_OVF : Fld := ⟨.FLT_STATUS, 11, 1, .rw1c, 0x0, .warm, false⟩
def F.FLT_STATUS.LOG_COUNT : Fld := ⟨.FLT_STATUS, 12, 12, .ro, 0x0, .warm, false⟩
def F.FLT_STATUS.WINDOWS : Fld := ⟨.FLT_STATUS, 24, 6, .ro, 0x0, .warm, false⟩
def F.FLT_SEQ.SEQ : Fld := ⟨.FLT_SEQ_LO, 0, 40, .ro, 0x0, .cold, false⟩
def F.FLT_LOST.LOST : Fld := ⟨.FLT_LOST, 0, 32, .rc, 0x0, .warm, false⟩
def F.FLT_WIRE.CHECK_ON : Fld := ⟨.FLT_WIRE, 0, 1, .ro, 0x0, .warm, false⟩
def F.FLT_WIRE.PAIR : Fld := ⟨.FLT_WIRE, 1, 8, .ro, 0x0, .cold, false⟩
def F.FLT_WIRE.CAUSE : Fld := ⟨.FLT_WIRE, 9, 2, .ro, 0x0, .cold, false⟩
def F.FLT_FENCE_TILE.TILES : Fld := ⟨.FLT_FENCE_TILE, 0, 8, .ro, 0x0, .warm, false⟩
def F.FLT_ERR.WIRE : Fld := ⟨.FLT_ERR, 0, 1, .rw1c, 0x0, .warm, false⟩
def F.FLT_ERR.LOST : Fld := ⟨.FLT_ERR, 1, 1, .rw1c, 0x0, .warm, false⟩
def F.FLT_POLICY.LEVEL : Fld := ⟨.FLT_POLICY, 0, 2, .ro, 0x0, .warm, true⟩
def F.FLT_POLICY.DEAD_HOST : Fld := ⟨.FLT_POLICY, 2, 1, .ro, 0x0, .warm, true⟩
def F.FLT_POLICY.NO_STREAM : Fld := ⟨.FLT_POLICY, 3, 1, .ro, 0x0, .warm, true⟩
/-! ### Fields of chapter 15 of spec/ -/

def F.PWR_CTL.MODE_REQ : Fld := ⟨.PWR_CTL, 0, 1, .rw, 0x0, .butre, false⟩
def F.PWR_CTL.RAIL_RESTART : Fld := ⟨.PWR_CTL, 1, 1, .rw, 0x1, .butre, false⟩
def F.PWR_STATUS.STATE : Fld := ⟨.PWR_STATUS, 0, 3, .ro, 0x0, .butre, false⟩
def F.PWR_STATUS.PG : Fld := ⟨.PWR_STATUS, 3, 6, .ro, 0x0, .butre, false⟩
def F.PWR_STATUS.EN : Fld := ⟨.PWR_STATUS, 9, 6, .ro, 0x0, .butre, false⟩
def F.PWR_STATUS.PWROK : Fld := ⟨.PWR_STATUS, 15, 1, .ro, 0x0, .butre, false⟩
def F.PWR_RAIL_CFG.CH_EN : Fld := ⟨.PWR_RAIL_CFG, 0, 6, .ro, 0xF, .butre, false⟩
def F.PWR_RAIL_CFG.TSEQ : Fld := ⟨.PWR_RAIL_CFG, 6, 8, .ro, 0x3, .butre, false⟩
def F.PWR_WAKE_EN.BMC : Fld := ⟨.PWR_WAKE_EN, 0, 1, .ro, 0x1, .butre, false⟩
def F.PWR_WAKE_EN.BAY_PRSNT : Fld := ⟨.PWR_WAKE_EN, 1, 1, .ro, 0x1, .butre, false⟩
def F.PWR_WAKE_EN.BAY_ALERT : Fld := ⟨.PWR_WAKE_EN, 2, 1, .ro, 0x1, .butre, false⟩
def F.PWR_WAKE_EN.BAY_FAULT : Fld := ⟨.PWR_WAKE_EN, 3, 1, .ro, 0x1, .butre, false⟩
def F.PWR_WAKE_EN.TIMER : Fld := ⟨.PWR_WAKE_EN, 4, 1, .ro, 0x1, .butre, false⟩
def F.PWR_WAKE_EN.WAKE_PIN : Fld := ⟨.PWR_WAKE_EN, 5, 1, .ro, 0x1, .butre, false⟩
def F.PWR_WAKE_EN.GPIO : Fld := ⟨.PWR_WAKE_EN, 6, 1, .ro, 0x0, .butre, false⟩
def F.PWR_WAKE_BAY_EN.BAYS : Fld := ⟨.PWR_WAKE_BAY_EN, 0, 32, .ro, 0xFFFFFFFF, .butre, false⟩
def F.PWR_WAKE_SOURCE.SOURCES : Fld := ⟨.PWR_WAKE_SOURCE, 0, 10, .ro, 0x40, .butre, false⟩
def F.PWR_WAKE_SOURCE.BAY_IDX : Fld := ⟨.PWR_WAKE_SOURCE, 16, 5, .ro, 0x0, .butre, false⟩
def F.PWR_WAKE_SOURCE.TIMER_IDX : Fld := ⟨.PWR_WAKE_SOURCE, 21, 2, .ro, 0x0, .butre, false⟩
def F.PWR_WAKE_RESULT.RESULT : Fld := ⟨.PWR_WAKE_RESULT, 0, 2, .ro, 0x0, .butre, false⟩
def F.PWR_WAKE_RESULT.RETRIES : Fld := ⟨.PWR_WAKE_RESULT, 2, 2, .ro, 0x0, .butre, false⟩
def F.PWR_WAKE_RESULT.FAIL_CH : Fld := ⟨.PWR_WAKE_RESULT, 4, 3, .ro, 0x0, .butre, false⟩
def F.PWR_WAKE_RESULT.KEEP_BAD : Fld := ⟨.PWR_WAKE_RESULT, 7, 1, .ro, 0x0, .butre, false⟩
def F.PWR_WAKE_RESULT.NO_WFI : Fld := ⟨.PWR_WAKE_RESULT, 8, 1, .ro, 0x0, .butre, false⟩
def F.PWR_WAKE_RESULT.CLEAR : Fld := ⟨.PWR_WAKE_RESULT, 16, 1, .wo, 0x0, .butre, false⟩
def F.PWR_AOC.AOC : Fld := ⟨.PWR_AOC_LO, 0, 48, .ro, 0x0, .butre, false⟩
def F.PWR_SAG_CTL.WARN_PCT : Fld := ⟨.PWR_SAG_CTL, 0, 4, .ro, 0x8, .butre, false⟩
def F.PWR_SAG_CTL.SHED_PCT : Fld := ⟨.PWR_SAG_CTL, 4, 4, .ro, 0xC, .butre, false⟩
def F.PWR_SAG_CTL.SHED_EN : Fld := ⟨.PWR_SAG_CTL, 8, 1, .ro, 0x1, .butre, false⟩
def F.PWR_SAG_CTL.HOLD : Fld := ⟨.PWR_SAG_CTL, 16, 8, .ro, 0xA, .butre, false⟩
def F.PWR_SAG_STATUS.WARN : Fld := ⟨.PWR_SAG_STATUS, 0, 7, .ro, 0x0, .butre, false⟩
def F.PWR_SAG_STATUS.SHED : Fld := ⟨.PWR_SAG_STATUS, 7, 7, .ro, 0x0, .butre, false⟩
def F.PWR_SAG_STATUS.STAGE : Fld := ⟨.PWR_SAG_STATUS, 14, 3, .ro, 0x0, .butre, false⟩
def F.PWR_THERM_CTL.WARN : Fld := ⟨.PWR_THERM_CTL, 0, 8, .ro, 0x72, .butre, false⟩
def F.PWR_THERM_CTL.SHED : Fld := ⟨.PWR_THERM_CTL, 8, 8, .ro, 0x76, .butre, false⟩
def F.PWR_THERM_CTL.TRIP : Fld := ⟨.PWR_THERM_CTL, 16, 8, .ro, 0x7D, .butre, false⟩
def F.PWR_THERM_CTL.HYST : Fld := ⟨.PWR_THERM_CTL, 24, 4, .ro, 0x3, .butre, false⟩
def F.PWR_THERM_STATUS.TEMP : Fld := ⟨.PWR_THERM_STATUS, 0, 12, .ro, 0x0, .butre, false⟩
def F.PWR_THERM_STATUS.SENSOR : Fld := ⟨.PWR_THERM_STATUS, 12, 4, .ro, 0x0, .butre, false⟩
def F.PWR_THERM_STATUS.LEVEL : Fld := ⟨.PWR_THERM_STATUS, 16, 2, .ro, 0x0, .butre, false⟩
def F.PWR_AVS.VID : Fld := ⟨.PWR_AVS, 0, 8, .ro, 0x0, .butre, false⟩
def F.PWR_AVS.APPLIED : Fld := ⟨.PWR_AVS, 8, 1, .ro, 0x0, .butre, false⟩
def F.PWR_KEEP.SIZE : Fld := ⟨.PWR_KEEP, 0, 18, .ro, 0x0, .butre, false⟩
def F.PWR_KEEP.VALID : Fld := ⟨.PWR_KEEP, 18, 1, .ro, 0x0, .butre, false⟩
def F.PWR_TIMER.COUNT : Fld := ⟨.PWR_TIMER, 0, 31, .ro, 0x0, .butre, false⟩
def F.PWR_TIMER.EN : Fld := ⟨.PWR_TIMER, 31, 1, .ro, 0x0, .butre, false⟩
def F.TIL_PWR_CTL.NAP_IDLE : Fld := ⟨.TIL_PWR_CTL, 0, 10, .ro, 0x14, .warm, true⟩
def F.TIL_PWR_CTL.RETAIN_EN : Fld := ⟨.TIL_PWR_CTL, 10, 1, .ro, 0x1, .warm, true⟩
def F.TIL_PWR_CTL.OFF_EN : Fld := ⟨.TIL_PWR_CTL, 11, 1, .ro, 0x0, .warm, true⟩
def F.TIL_PWR_CTL.RETAIN_IDLE : Fld := ⟨.TIL_PWR_CTL, 12, 14, .ro, 0xA, .warm, true⟩
def F.TIL_PWR_STATUS.STATE : Fld := ⟨.TIL_PWR_STATUS, 0, 2, .ro, 0x0, .warm, false⟩
def F.TIL_PWR_STATUS.WAKING : Fld := ⟨.TIL_PWR_STATUS, 2, 1, .ro, 0x0, .warm, false⟩
/-! ### Fields of chapter 16 of spec/ -/

def F.BAY_CFG.EN : Fld := ⟨.BAY_CFG, 0, 1, .ro, 0x0, .butre, false⟩
def F.BAY_CFG.AUTO_ON : Fld := ⟨.BAY_CFG, 1, 1, .ro, 0x0, .butre, false⟩
def F.BAY_CFG.FEED : Fld := ⟨.BAY_CFG, 2, 2, .ro, 0x2, .butre, false⟩
def F.BAY_CFG.REVERT : Fld := ⟨.BAY_CFG, 4, 1, .ro, 0x0, .butre, false⟩
def F.BAY_CFG.PORT : Fld := ⟨.BAY_CFG, 5, 6, .ro, 0x0, .butre, false⟩
def F.BAY_CFG.PORT_VALID : Fld := ⟨.BAY_CFG, 11, 1, .ro, 0x0, .butre, false⟩
def F.BAY_CFG.GATE_I : Fld := ⟨.BAY_CFG, 12, 2, .ro, 0x2, .butre, false⟩
def F.BAY_CFG.RETRY_LIM : Fld := ⟨.BAY_CFG, 14, 4, .ro, 0x7, .butre, false⟩
def F.BAY_CFG.RETRY_INT : Fld := ⟨.BAY_CFG, 18, 3, .ro, 0x3, .butre, false⟩
def F.BAY_LIM.ILIM : Fld := ⟨.BAY_LIM, 0, 6, .ro, 0x19, .butre, false⟩
def F.BAY_LIM.FLT_TIME : Fld := ⟨.BAY_LIM, 6, 6, .ro, 0xA, .butre, false⟩
def F.BAY_LIM.PRE_TIME : Fld := ⟨.BAY_LIM, 12, 8, .ro, 0x32, .butre, false⟩
def F.BAY_LIM.GR_TIME : Fld := ⟨.BAY_LIM, 20, 4, .ro, 0x4, .butre, false⟩
def F.BAY_CTL.ON_REQ : Fld := ⟨.BAY_CTL, 0, 1, .ro, 0x0, .butre, false⟩
def F.BAY_CTL.PWRDIS : Fld := ⟨.BAY_CTL, 1, 1, .ro, 0x0, .butre, false⟩
def F.BAY_CTL.LED : Fld := ⟨.BAY_CTL, 2, 3, .ro, 0x4, .butre, false⟩
def F.BAY_STATUS.STATE : Fld := ⟨.BAY_STATUS, 0, 4, .ro, 0x0, .butre, false⟩
def F.BAY_STATUS.FEED_ACT : Fld := ⟨.BAY_STATUS, 4, 1, .ro, 0x0, .butre, false⟩
def F.BAY_STATUS.PRSNT : Fld := ⟨.BAY_STATUS, 5, 1, .ro, 0x0, .butre, false⟩
def F.BAY_STATUS.ALERT : Fld := ⟨.BAY_STATUS, 6, 1, .ro, 0x0, .butre, false⟩
def F.BAY_STATUS.PG : Fld := ⟨.BAY_STATUS, 7, 1, .ro, 0x0, .butre, false⟩
def F.BAY_STATUS.PERST : Fld := ⟨.BAY_STATUS, 8, 1, .ro, 0x1, .butre, false⟩
def F.BAY_STATUS.FLT_RUN : Fld := ⟨.BAY_STATUS, 9, 1, .ro, 0x0, .butre, false⟩
def F.BAY_STATUS.RETRIES : Fld := ⟨.BAY_STATUS, 10, 4, .ro, 0x0, .butre, false⟩
def F.BAY_MEAS.ISNS : Fld := ⟨.BAY_MEAS, 0, 10, .ro, 0x0, .butre, false⟩
def F.BAY_MEAS.VOUT : Fld := ⟨.BAY_MEAS, 10, 10, .ro, 0x0, .butre, false⟩
def F.BAY_ERR.OVERCURRENT : Fld := ⟨.BAY_ERR, 0, 1, .rw1c, 0x0, .butre, false⟩
def F.BAY_ERR.SHORT : Fld := ⟨.BAY_ERR, 1, 1, .rw1c, 0x0, .butre, false⟩
def F.BAY_ERR.PRECHARGE_FAIL : Fld := ⟨.BAY_ERR, 2, 1, .rw1c, 0x0, .butre, false⟩
def F.BAY_ERR.GATE_STUCK : Fld := ⟨.BAY_ERR, 3, 1, .rw1c, 0x0, .butre, false⟩
def F.BAY_ERR.FEED_LOSS : Fld := ⟨.BAY_ERR, 4, 1, .rw1c, 0x0, .butre, false⟩
def F.BAY_ERR.UV : Fld := ⟨.BAY_ERR, 5, 1, .rw1c, 0x0, .butre, false⟩
def F.BAY_ERR.LOCKOUT : Fld := ⟨.BAY_ERR, 6, 1, .rw1c, 0x0, .butre, false⟩
def F.BAY_FEED_CFG.PRE_MAX : Fld := ⟨.BAY_FEED_CFG, 0, 4, .ro, 0x4, .butre, false⟩
def F.BAY_FEED_CFG.A_FITTED : Fld := ⟨.BAY_FEED_CFG, 4, 1, .ro, 0x1, .butre, false⟩
def F.BAY_FEED_CFG.B_FITTED : Fld := ⟨.BAY_FEED_CFG, 5, 1, .ro, 0x1, .butre, false⟩
def F.BAY_FEED_STATUS.A_GOOD : Fld := ⟨.BAY_FEED_STATUS, 0, 1, .ro, 0x0, .butre, false⟩
def F.BAY_FEED_STATUS.B_GOOD : Fld := ⟨.BAY_FEED_STATUS, 1, 1, .ro, 0x0, .butre, false⟩
def F.BAY_FEED_STATUS.VBAY_A : Fld := ⟨.BAY_FEED_STATUS, 2, 10, .ro, 0x0, .butre, false⟩
def F.BAY_FEED_STATUS.VBAY_B : Fld := ⟨.BAY_FEED_STATUS, 12, 10, .ro, 0x0, .butre, false⟩
def F.BAY_PRSNT_ALL.PRSNT : Fld := ⟨.BAY_PRSNT_ALL, 0, 32, .ro, 0x0, .butre, false⟩
def F.BAY_ALERT_ALL.ALERT : Fld := ⟨.BAY_ALERT_ALL, 0, 32, .ro, 0x0, .butre, false⟩
def F.BAY_BUS_CFG.SPEED : Fld := ⟨.BAY_BUS_CFG, 0, 2, .ro, 0x1, .warm, true⟩
def F.BAY_BUS_CFG.I3C : Fld := ⟨.BAY_BUS_CFG, 2, 1, .ro, 0x0, .warm, true⟩
def F.BAY_BUS_CFG.SW_EN : Fld := ⟨.BAY_BUS_CFG, 3, 1, .ro, 0x1, .warm, true⟩
def F.BAY_BUS_CFG.SW_ADDR : Fld := ⟨.BAY_BUS_CFG, 4, 7, .ro, 0x70, .warm, true⟩
/-! ### Fields of chapter 17 of spec/ -/

def F.CNT_CTL.SNAP : Fld := ⟨.CNT_CTL, 0, 1, .wo, 0x0, .warm, false⟩
def F.CNT_SNAP_COUNT.COUNT : Fld := ⟨.CNT_SNAP_COUNT, 0, 32, .ro, 0x0, .warm, false⟩
def F.CNT_SNAP_FTC.FTC : Fld := ⟨.CNT_SNAP_FTC_LO, 0, 64, .ro, 0x0, .warm, false⟩
def F.CNT_SNAP_AOC.AOC : Fld := ⟨.CNT_SNAP_AOC_LO, 0, 48, .ro, 0x0, .warm, false⟩
def F.CNT_OVF_SUM.BANKS : Fld := ⟨.CNT_OVF_SUM, 0, 6, .ro, 0x0, .warm, false⟩
/-! ### Fields of chapter 18 of spec/ -/

def F.GLB_ID.STEPPING : Fld := ⟨.GLB_ID, 0, 8, .ro, 0x10, .warm, false⟩
def F.GLB_ID.DEVICE : Fld := ⟨.GLB_ID, 16, 16, .ro, 0xC064, .warm, false⟩
def F.GLB_CAP0.TILE_MASK : Fld := ⟨.GLB_CAP0, 0, 8, .ro, 0xFF, .warm, false⟩
def F.GLB_CAP0.PORTS : Fld := ⟨.GLB_CAP0, 8, 7, .ro, 0x40, .warm, false⟩
def F.GLB_CAP0.INTERLINK : Fld := ⟨.GLB_CAP0, 15, 1, .ro, 0x1, .warm, false⟩
def F.GLB_CAP0.FWD_EXT : Fld := ⟨.GLB_CAP0, 16, 1, .ro, 0x1, .warm, false⟩
def F.GLB_CAP0.BLEND : Fld := ⟨.GLB_CAP0, 17, 1, .ro, 0x1, .warm, false⟩
def F.GLB_CAP0.IDE : Fld := ⟨.GLB_CAP0, 18, 1, .ro, 0x1, .warm, false⟩
def F.GLB_CAP0.GRADE : Fld := ⟨.GLB_CAP0, 19, 1, .ro, 0x0, .warm, false⟩
def F.GLB_CAP1.DIR_SETS : Fld := ⟨.GLB_CAP1, 0, 5, .ro, 0x12, .warm, false⟩
def F.GLB_CAP1.DIR_WAYS : Fld := ⟨.GLB_CAP1, 5, 5, .ro, 0x10, .warm, false⟩
def F.GLB_CAP1.BUF_CELLS : Fld := ⟨.GLB_CAP1, 10, 5, .ro, 0x10, .warm, false⟩
def F.GLB_CAP1.INSTANCES : Fld := ⟨.GLB_CAP1, 15, 4, .ro, 0xA, .warm, false⟩
def F.GLB_STRAP.SPI_4B : Fld := ⟨.GLB_STRAP, 0, 1, .ro, 0x0, .warm, false⟩
def F.GLB_STRAP.SPI_QUAD : Fld := ⟨.GLB_STRAP, 1, 1, .ro, 0x0, .warm, false⟩
def F.GLB_STRAP.SPI_DIV : Fld := ⟨.GLB_STRAP, 2, 2, .ro, 0x0, .warm, false⟩
def F.GLB_STRAP.BOOT_HOLD : Fld := ⟨.GLB_STRAP, 4, 1, .ro, 0x0, .warm, false⟩
def F.GLB_STRAP.XTAL_BYP : Fld := ⟨.GLB_STRAP, 5, 1, .ro, 0x0, .cold, false⟩
def F.GLB_STRAP.PARAM_SKIP : Fld := ⟨.GLB_STRAP, 6, 1, .ro, 0x0, .warm, false⟩
def F.GLB_STRAP.TEST_EN : Fld := ⟨.GLB_STRAP, 8, 1, .ro, 0x0, .warm, false⟩
def F.GLB_NODE.NODE_ID : Fld := ⟨.GLB_NODE, 0, 16, .rw, 0x0, .warm, true⟩
def F.GLB_NODE.FN_EDGE : Fld := ⟨.GLB_NODE, 16, 12, .rw, 0x0, .warm, true⟩
def F.GLB_MODE.MODE : Fld := ⟨.GLB_MODE, 0, 3, .ro, 0x1, .warm, false⟩
def F.GLB_MODE.BUSY : Fld := ⟨.GLB_MODE, 3, 1, .ro, 0x0, .warm, false⟩
def F.GLB_MODE.TARGET : Fld := ⟨.GLB_MODE, 4, 3, .ro, 0x7, .warm, false⟩
def F.GLB_MODE.RANK : Fld := ⟨.GLB_MODE, 8, 3, .ro, 0x0, .warm, false⟩
def F.GLB_MODE_FTC.FTC : Fld := ⟨.GLB_MODE_FTC_LO, 0, 64, .ro, 0x0, .warm, false⟩
def F.GLB_RESET_CAUSE.CAUSE : Fld := ⟨.GLB_RESET_CAUSE, 0, 4, .ro, 0x1, .cold, false⟩
def F.GLB_RESET_CAUSE.L3_RUN : Fld := ⟨.GLB_RESET_CAUSE, 8, 2, .ro, 0x0, .cold, false⟩
def F.GLB_CLK_STATUS.REF_TILE : Fld := ⟨.GLB_CLK_STATUS, 0, 3, .ro, 0x0, .warm, false⟩
def F.GLB_CLK_STATUS.REF_PRESENT : Fld := ⟨.GLB_CLK_STATUS, 8, 8, .ro, 0x0, .warm, false⟩
def F.GLB_CLK_STATUS.CORE_LOCK : Fld := ⟨.GLB_CLK_STATUS, 16, 1, .ro, 0x0, .warm, false⟩
def F.GLB_CLK_STATUS.MGMT_LOCK : Fld := ⟨.GLB_CLK_STATUS, 17, 1, .ro, 0x0, .warm, false⟩
def F.GLB_TIME_CTL.SOURCE : Fld := ⟨.GLB_TIME_CTL, 0, 2, .rw, 0x0, .warm, true⟩
def F.GLB_TIME_CTL.PORT : Fld := ⟨.GLB_TIME_CTL, 2, 6, .rw, 0x0, .warm, true⟩
def F.GLB_TIME_CTL.SYNC : Fld := ⟨.GLB_TIME_CTL, 8, 10, .rw, 0xA, .warm, true⟩
def F.GLB_TIME_STEP.STEP : Fld := ⟨.GLB_TIME_STEP, 0, 20, .rw, 0xA, .warm, true⟩
def F.GLB_FTC.FTC : Fld := ⟨.GLB_FTC_LO, 0, 64, .ro, 0x0, .warm, false⟩
def F.GLB_TIME_STATUS.OFFSET : Fld := ⟨.GLB_TIME_STATUS, 0, 32, .ro, 0x0, .warm, false⟩
def F.GLB_ERR.CLAIM : Fld := ⟨.GLB_ERR, 0, 1, .rw1c, 0x0, .warm, false⟩
def F.GLB_ERR.BAR_PARTIAL : Fld := ⟨.GLB_ERR, 1, 1, .rw1c, 0x0, .warm, false⟩
def F.GLB_ERR.MODE_WRITE : Fld := ⟨.GLB_ERR, 2, 1, .rw1c, 0x0, .warm, false⟩
def F.GLB_ERR.TIME_FAIL : Fld := ⟨.GLB_ERR, 3, 1, .rw1c, 0x0, .warm, false⟩
def F.GLB_GPIO_IN.IN : Fld := ⟨.GLB_GPIO_IN, 0, 16, .ro, 0x0, .warm, false⟩
def F.GLB_GPIO_OUT.OUT : Fld := ⟨.GLB_GPIO_OUT, 0, 16, .rw, 0x0, .warm, true⟩
def F.GLB_GPIO_OE.OE : Fld := ⟨.GLB_GPIO_OE, 0, 16, .rw, 0x0, .warm, true⟩
def F.GLB_CLAIM_GPIO.FUNC : Fld := ⟨.GLB_CLAIM_GPIO, 0, 16, .rw, 0x0, .warm, true⟩
def F.GLB_CLAIM_GPIO.SELECTOR : Fld := ⟨.GLB_CLAIM_GPIO, 16, 16, .ro, 0xFFFF, .warm, true⟩
def F.GLB_CLAIM_TIMERB.FUNC : Fld := ⟨.GLB_CLAIM_TIMERB, 0, 16, .ro, 0x0, .butre, false⟩
def F.GLB_CLAIM_TIMERF.FUNC : Fld := ⟨.GLB_CLAIM_TIMERF, 0, 16, .ro, 0x0, .warm, false⟩
def F.GLB_CLAIM_TIMERB.SELECTOR : Fld := ⟨.GLB_CLAIM_TIMERB, 16, 16, .ro, 0xFFFF, .butre, false⟩
def F.GLB_CLAIM_TIMERF.SELECTOR : Fld := ⟨.GLB_CLAIM_TIMERF, 16, 16, .ro, 0xFFFF, .warm, false⟩
def F.GLB_CLAIM_AUX.FUNC : Fld := ⟨.GLB_CLAIM_AUX, 0, 16, .ro, 0x0, .warm, false⟩
def F.GLB_CLAIM_AUX.SELECTOR : Fld := ⟨.GLB_CLAIM_AUX, 16, 16, .ro, 0xFFFF, .warm, false⟩
def F.MGT_MBX_SUM.SW : Fld := ⟨.MGT_MBX_SUM, 0, 1, .ro, 0x0, .warm, false⟩
def F.MGT_MBX_SUM.HOST : Fld := ⟨.MGT_MBX_SUM, 1, 1, .ro, 0x0, .warm, false⟩
def F.MGT_MBX_SUM.TENANT : Fld := ⟨.MGT_MBX_SUM, 2, 1, .ro, 0x0, .warm, false⟩
def F.MGT_MBX_SUM.MCTP : Fld := ⟨.MGT_MBX_SUM, 3, 1, .ro, 0x0, .warm, false⟩
def F.MGT_MBX_SW.PORT_0 : Fld := ⟨.MGT_MBX_SW, 0, 6, .ro, 0x0, .warm, false⟩
def F.MGT_MBX_SW.VALID_0 : Fld := ⟨.MGT_MBX_SW, 6, 1, .ro, 0x0, .warm, false⟩
def F.MGT_MBX_SW.BELL_0 : Fld := ⟨.MGT_MBX_SW, 7, 1, .ro, 0x0, .warm, false⟩
def F.MGT_MBX_SW.PORT_1 : Fld := ⟨.MGT_MBX_SW, 8, 6, .ro, 0x0, .warm, false⟩
def F.MGT_MBX_SW.VALID_1 : Fld := ⟨.MGT_MBX_SW, 14, 1, .ro, 0x0, .warm, false⟩
def F.MGT_MBX_SW.BELL_1 : Fld := ⟨.MGT_MBX_SW, 15, 1, .ro, 0x0, .warm, false⟩
def F.MGT_MBX_SW.PORT_2 : Fld := ⟨.MGT_MBX_SW, 16, 6, .ro, 0x0, .warm, false⟩
def F.MGT_MBX_SW.VALID_2 : Fld := ⟨.MGT_MBX_SW, 22, 1, .ro, 0x0, .warm, false⟩
def F.MGT_MBX_SW.BELL_2 : Fld := ⟨.MGT_MBX_SW, 23, 1, .ro, 0x0, .warm, false⟩
def F.MGT_MBX_SW.PORT_3 : Fld := ⟨.MGT_MBX_SW, 24, 6, .ro, 0x0, .warm, false⟩
def F.MGT_MBX_SW.VALID_3 : Fld := ⟨.MGT_MBX_SW, 30, 1, .ro, 0x0, .warm, false⟩
def F.MGT_MBX_SW.BELL_3 : Fld := ⟨.MGT_MBX_SW, 31, 1, .ro, 0x0, .warm, false⟩
def F.MGT_MBX_HOST.BELL : Fld := ⟨.MGT_MBX_HOST_LO, 0, 64, .ro, 0x0, .warm, false⟩
def F.MGT_MBX_TEN.BELL : Fld := ⟨.MGT_MBX_TEN, 0, 32, .ro, 0x0, .warm, false⟩
def F.MGT_MCTP_STATUS.EID : Fld := ⟨.MGT_MCTP_STATUS, 0, 8, .ro, 0x0, .warm, false⟩
def F.MGT_MCTP_STATUS.ASM : Fld := ⟨.MGT_MCTP_STATUS, 8, 4, .ro, 0x0, .warm, false⟩
def F.MGT_MCTP_STATUS.BMC_PEND : Fld := ⟨.MGT_MCTP_STATUS, 12, 1, .ro, 0x0, .warm, false⟩
def F.MGT_MCTP_STATUS.VDM_PEND : Fld := ⟨.MGT_MCTP_STATUS, 13, 1, .ro, 0x0, .warm, false⟩
def F.MGT_CMD_STATUS.ORIGIN : Fld := ⟨.MGT_CMD_STATUS, 0, 16, .ro, 0x0, .warm, false⟩
def F.MGT_CMD_STATUS.WORKING : Fld := ⟨.MGT_CMD_STATUS, 16, 1, .ro, 0x0, .warm, false⟩
/-! ### Fields of chapter 03 of spec/ -/

def F.PRT_PARTNER_ID.ID : Fld := ⟨.PRT_PARTNER_ID_LO, 0, 64, .ro, 0x0, .warm, false⟩
/-! ### Fields of chapter 07 of spec/ -/

def F.DIR_STAMP.COUNT : Fld := ⟨.DIR_STAMP_LO, 0, 61, .ro, 0x0, .cold, true⟩
/-! ### Fields of chapter 10 of spec/ -/

def F.INS_POOL_TRK.SIZE : Fld := ⟨.INS_POOL_TRK, 0, 20, .ro, 0x4000, .warm, true⟩
def F.INS_POOL_TRK.USED : Fld := ⟨.INS_POOL_TRK, 20, 12, .ro, 0x0, .warm, false⟩
def F.INS_POOL_HOLD.SIZE : Fld := ⟨.INS_POOL_HOLD, 0, 20, .ro, 0x10000, .warm, true⟩
def F.INS_POOL_HOLD.USED : Fld := ⟨.INS_POOL_HOLD, 20, 12, .ro, 0x0, .warm, false⟩
def F.INS_POOL_CELLS.SIZE : Fld := ⟨.INS_POOL_CELLS, 0, 20, .ro, 0x40000, .warm, true⟩
def F.INS_POOL_CELLS.USED : Fld := ⟨.INS_POOL_CELLS, 20, 12, .ro, 0x0, .warm, false⟩
def F.INS_POOL_DIR.SIZE : Fld := ⟨.INS_POOL_DIR, 0, 20, .ro, 0x20000, .warm, true⟩
def F.INS_POOL_DIR.USED : Fld := ⟨.INS_POOL_DIR, 20, 12, .ro, 0x0, .warm, false⟩
def F.INS_POOL_FOLDS.SIZE : Fld := ⟨.INS_POOL_FOLDS, 0, 20, .ro, 0x200, .warm, true⟩
def F.INS_POOL_FOLDS.USED : Fld := ⟨.INS_POOL_FOLDS, 20, 12, .ro, 0x0, .warm, false⟩
/-! ### Fields of chapter 15 of spec/ -/

def F.PWR_WAKE_SEEN.SOURCES : Fld := ⟨.PWR_WAKE_SEEN, 0, 10, .rw1c, 0x0, .butre, false⟩

/-- The layout of each register word; bits that no slice shows are reserved and read 0 (R8). -/
def Reg.layout : Reg → List BitRun
  | .PWR_TIME_STATUS => [⟨F.PWR_TIME_STATUS.ESTIMATED, 0, 0, 1⟩, ⟨F.PWR_TIME_STATUS.LOW_ACCURACY, 0, 1, 1⟩, ⟨F.PWR_TIME_STATUS.LOST, 0, 2, 1⟩, ⟨F.PWR_TIME_STATUS.RC_NOW, 0, 3, 1⟩, ⟨F.PWR_TIME_STATUS.RC_SEEN, 0, 4, 1⟩]
  | .PIDV_0C => [⟨F.PIDV.IDENT, 0, 0, 32⟩]
  | .PIDV_10 => [⟨F.PIDV.IDENT, 32, 0, 32⟩]
  | .PIDV_14 => [⟨F.PIDV.VALID, 0, 0, 1⟩]
  | .PRT_CFG => [⟨F.PRT_CFG.PERSONALITY, 0, 0, 2⟩, ⟨F.PRT_CFG.ROLE, 0, 2, 2⟩, ⟨F.PRT_CFG.WIDTH, 0, 4, 3⟩, ⟨F.PRT_CFG.MAX_RATE, 0, 8, 3⟩, ⟨F.PRT_CFG.CLKMODE, 0, 12, 2⟩, ⟨F.PRT_CFG.FLIT256, 0, 14, 1⟩, ⟨F.PRT_CFG.LOPT, 0, 15, 1⟩, ⟨F.PRT_CFG.HE_ARB, 0, 16, 1⟩, ⟨F.PRT_CFG.L0P_EN, 0, 17, 1⟩, ⟨F.PRT_CFG.FAST_DOWN, 0, 18, 1⟩, ⟨F.PRT_CFG.MGMT_FN, 0, 19, 1⟩, ⟨F.PRT_CFG.ID_SRC, 0, 20, 2⟩, ⟨F.PRT_CFG.LOS_TIME, 0, 22, 8⟩]
  | .PRT_CTL => [⟨F.PRT_CTL.RETRAIN, 0, 0, 1⟩, ⟨F.PRT_CTL.HOT_RESET, 0, 1, 1⟩, ⟨F.PRT_CTL.LINK_DISABLE, 0, 2, 1⟩]
  | .PRT_STATUS => [⟨F.PRT_STATUS.LTSSM, 0, 0, 4⟩, ⟨F.PRT_STATUS.DL_ACTIVE, 0, 4, 1⟩, ⟨F.PRT_STATUS.RATE, 0, 5, 3⟩, ⟨F.PRT_STATUS.WIDTH_NOW, 0, 8, 3⟩, ⟨F.PRT_STATUS.WIDTH_TRAINED, 0, 11, 3⟩, ⟨F.PRT_STATUS.FLIT, 0, 14, 2⟩, ⟨F.PRT_STATUS.IDE_ACTIVE, 0, 16, 1⟩, ⟨F.PRT_STATUS.ID_CONFIRMED, 0, 17, 1⟩, ⟨F.PRT_STATUS.LANE_REVERSED, 0, 18, 1⟩]
  | .PRT_L0P => [⟨F.PRT_L0P.MIN_WIDTH, 0, 0, 3⟩, ⟨F.PRT_L0P.LOW_PCT, 0, 4, 7⟩, ⟨F.PRT_L0P.HIGH_PCT, 0, 12, 7⟩, ⟨F.PRT_L0P.INTERVAL, 0, 20, 8⟩]
  | .PRT_LAYOVER => [⟨F.PRT_LAYOVER.WINDOW_US, 0, 0, 20⟩]
  | .PRT_DOWN_INFO => [⟨F.PRT_DOWN_INFO.REASON, 0, 0, 4⟩, ⟨F.PRT_DOWN_INFO.COUNT, 0, 16, 16⟩]
  | .PRT_LANE => [⟨F.PRT_LANE.SIGNAL, 0, 0, 16⟩]
  | .PRT_ERR => [⟨F.PRT_ERR.RX_ERR, 0, 0, 1⟩, ⟨F.PRT_ERR.FLIT_UNCORR, 0, 1, 1⟩, ⟨F.PRT_ERR.DEGRADED, 0, 2, 1⟩, ⟨F.PRT_ERR.ID_MISMATCH, 0, 3, 1⟩, ⟨F.PRT_ERR.IDE_FAIL, 0, 4, 1⟩, ⟨F.PRT_ERR.PHY_LOSS, 0, 5, 1⟩]
  | .PRT_IDE => [⟨F.PRT_IDE.REQUIRED, 0, 0, 1⟩, ⟨F.PRT_IDE.CONTAINMENT, 0, 1, 1⟩, ⟨F.PRT_IDE.KEYSET, 0, 8, 1⟩, ⟨F.PRT_IDE.PENDING, 0, 9, 1⟩]
  | .PRT_IL_CFG => [⟨F.PRT_IL_CFG.UNCORR_LIM, 0, 0, 8⟩, ⟨F.PRT_IL_CFG.NAK_TIME, 0, 8, 8⟩, ⟨F.PRT_IL_CFG.STALL_TIME, 0, 16, 8⟩, ⟨F.PRT_IL_CFG.REPLAY_LIM, 0, 24, 4⟩, ⟨F.PRT_IL_CFG.RESUME_EN, 0, 28, 1⟩]
  | .PRT_IL_PEER => [⟨F.PRT_IL_PEER.PEER_NODE, 0, 0, 16⟩, ⟨F.PRT_IL_PEER.PEER_CHECK, 0, 16, 1⟩]
  | .PRT_IL_VCPOOL0 => [⟨F.PRT_IL_VCPOOL0.REQ, 0, 0, 12⟩, ⟨F.PRT_IL_VCPOOL0.RWD, 0, 16, 12⟩]
  | .PRT_IL_VCPOOL1 => [⟨F.PRT_IL_VCPOOL1.SNP, 0, 0, 12⟩, ⟨F.PRT_IL_VCPOOL1.RSP, 0, 16, 12⟩]
  | .PRT_IL_VCPOOL2 => [⟨F.PRT_IL_VCPOOL2.DRS, 0, 0, 12⟩, ⟨F.PRT_IL_VCPOOL2.IO, 0, 16, 12⟩]
  | .PRT_IL_STATUS => [⟨F.PRT_IL_STATUS.STATE, 0, 0, 4⟩, ⟨F.PRT_IL_STATUS.LEADER, 0, 4, 1⟩, ⟨F.PRT_IL_STATUS.GBN, 0, 5, 1⟩, ⟨F.PRT_IL_STATUS.RESUMED, 0, 6, 1⟩, ⟨F.PRT_IL_STATUS.SESSION, 0, 16, 16⟩]
  | .PRT_IL_SEQ => [⟨F.PRT_IL_SEQ.TX_NEXT, 0, 0, 12⟩, ⟨F.PRT_IL_SEQ.RX_EXPECTED, 0, 12, 12⟩]
  | .PRT_IL_BUF => [⟨F.PRT_IL_BUF.REPLAY_OCC, 0, 0, 11⟩, ⟨F.PRT_IL_BUF.REORDER_OCC, 0, 11, 9⟩]
  | .PRT_IL_ERR => [⟨F.PRT_IL_ERR.REPLAY_EXHAUST, 0, 0, 1⟩, ⟨F.PRT_IL_ERR.REORDER_OVF, 0, 1, 1⟩, ⟨F.PRT_IL_ERR.CREDIT_VIOL, 0, 2, 1⟩, ⟨F.PRT_IL_ERR.RETRAIN_FAIL, 0, 3, 1⟩, ⟨F.PRT_IL_ERR.PEER_MISMATCH, 0, 4, 1⟩, ⟨F.PRT_IL_ERR.PROTOCOL, 0, 5, 1⟩, ⟨F.PRT_IL_ERR.FEC_UNCORR, 0, 6, 1⟩]
  | .TIL_BUF_CFG => [⟨F.TIL_BUF_CFG.RD_FLOOR, 0, 0, 10⟩, ⟨F.TIL_BUF_CFG.SNP_FLOOR, 0, 10, 10⟩, ⟨F.TIL_BUF_CFG.IO_FLOOR, 0, 20, 10⟩]
  | .TIL_BUF_STATUS => [⟨F.TIL_BUF_STATUS.FREE, 0, 0, 17⟩, ⟨F.TIL_BUF_STATUS.RETIRED, 0, 17, 7⟩]
  | .TIL_AUX_CFG => [⟨F.TIL_AUX_CFG.SIZE, 0, 0, 8⟩, ⟨F.TIL_AUX_CFG.STRAG_FLOOR, 0, 8, 8⟩, ⟨F.TIL_AUX_CFG.BLEND_FLOOR, 0, 16, 8⟩, ⟨F.TIL_AUX_CFG.TELEM_FLOOR, 0, 24, 8⟩]
  | .TIL_AUX_STATUS0 => [⟨F.TIL_AUX_STATUS0.STRAG_USED, 0, 0, 16⟩, ⟨F.TIL_AUX_STATUS0.BLEND_USED, 0, 16, 16⟩]
  | .TIL_AUX_STATUS1 => [⟨F.TIL_AUX_STATUS1.TELEM_USED, 0, 0, 16⟩, ⟨F.TIL_AUX_STATUS1.AUX_FREE, 0, 16, 16⟩]
  | .TIL_MCAST_CFG => [⟨F.TIL_MCAST_CFG.STRAG_AGE, 0, 0, 16⟩]
  | .TIL_MIRROR => [⟨F.TIL_MIRROR.EN, 0, 0, 1⟩, ⟨F.TIL_MIRROR.PORT_K, 0, 1, 3⟩, ⟨F.TIL_MIRROR.DIR, 0, 4, 1⟩]
  | .TIL_ERR => [⟨F.TIL_ERR.BUF_CORR, 0, 0, 1⟩, ⟨F.TIL_ERR.BUF_UNCORR, 0, 1, 1⟩, ⟨F.TIL_ERR.ROUTE_MISS, 0, 2, 1⟩, ⟨F.TIL_ERR.LAYOVER, 0, 3, 1⟩, ⟨F.TIL_ERR.STRAG_AGE, 0, 4, 1⟩, ⟨F.TIL_ERR.MALFORMED, 0, 5, 1⟩, ⟨F.TIL_ERR.TELEM_DROP, 0, 6, 1⟩, ⟨F.TIL_ERR.BUF_CFG, 0, 7, 1⟩]
  | .TIL_PCFG => [⟨F.TIL_PCFG.EDGE_ID, 0, 0, 12⟩, ⟨F.TIL_PCFG.EDGE_VALID, 0, 12, 1⟩, ⟨F.TIL_PCFG.IO_HE, 0, 13, 1⟩, ⟨F.TIL_PCFG.HOLD_LIMIT, 0, 16, 16⟩]
  | .TIL_ROUTE => [⟨F.TIL_ROUTE.VALID, 0, 0, 1⟩, ⟨F.TIL_ROUTE.LOCAL, 0, 1, 1⟩, ⟨F.TIL_ROUTE.PORT, 0, 2, 6⟩]
  | .TIL_MCAST0 => [⟨F.TIL_MCAST.MEMBERS, 0, 0, 32⟩]
  | .TIL_MCAST1 => [⟨F.TIL_MCAST.MEMBERS, 32, 0, 32⟩]
  | .TIL_MCAST2 => [⟨F.TIL_MCAST.VALID, 0, 0, 1⟩, ⟨F.TIL_MCAST.ROOT, 0, 1, 1⟩, ⟨F.TIL_MCAST.ROOT_PORT, 0, 2, 6⟩, ⟨F.TIL_MCAST.CLASS, 0, 8, 3⟩]
  | .TIL_MCAST3 => [⟨F.TIL_MCAST.GSEQ, 0, 0, 32⟩]
  | .TIL_VPPB => [⟨F.TIL_VPPB.STATE, 0, 0, 2⟩, ⟨F.TIL_VPPB.TARGET_EDGE, 0, 2, 12⟩, ⟨F.TIL_VPPB.LD_ID, 0, 14, 4⟩, ⟨F.TIL_VPPB.LD_VALID, 0, 18, 1⟩]
  | .QUEUE0 => [⟨F.QUEUE.WEIGHT, 0, 0, 8⟩, ⟨F.QUEUE.HIST_EN, 0, 8, 1⟩, ⟨F.QUEUE.CARAVAN_EN, 0, 9, 1⟩, ⟨F.QUEUE.YELLOW_TH, 0, 16, 16⟩]
  | .QUEUE1 => [⟨F.QUEUE.RATE, 0, 0, 24⟩, ⟨F.QUEUE.SHAPE_EN, 0, 31, 1⟩]
  | .QUEUE2 => [⟨F.QUEUE.BURST, 0, 0, 24⟩]
  | .QUEUE3 => [⟨F.QUEUE.TOKENS, 0, 0, 25⟩]
  | .QUEUE4 => [⟨F.QUEUE.DEPTH_CELLS, 0, 0, 17⟩]
  | .QUEUE5 => [⟨F.QUEUE.DEPTH_MSGS, 0, 0, 19⟩]
  | .QUEUE6 => [⟨F.QUEUE.START_TAG, 0, 0, 32⟩]
  | .QUEUE7 => [⟨F.QUEUE.PEAK_CELLS, 0, 0, 17⟩]
  | .QUEUE8 => [⟨F.QUEUE.NONEMPTY, 0, 0, 1⟩, ⟨F.QUEUE.ELIGIBLE, 0, 1, 1⟩, ⟨F.QUEUE.HOLD, 0, 2, 2⟩]
  | .POL0 => [⟨F.POL.EN, 0, 0, 1⟩, ⟨F.POL.AWARE, 0, 1, 1⟩, ⟨F.POL.TRANSIT, 0, 2, 1⟩]
  | .POL1 => [⟨F.POL.CIR, 0, 0, 24⟩]
  | .POL2 => [⟨F.POL.PIR, 0, 0, 24⟩]
  | .POL3 => [⟨F.POL.CBS, 0, 0, 24⟩]
  | .POL4 => [⟨F.POL.PBS, 0, 0, 24⟩]
  | .POL5 => [⟨F.POL.TC, 0, 0, 24⟩]
  | .POL6 => [⟨F.POL.TP, 0, 0, 24⟩]
  | .POL7 => [⟨F.POL.HOLD_OCC, 0, 0, 16⟩, ⟨F.POL.HOLD_MAX, 0, 16, 16⟩]
  | .SCH_CTL => [⟨F.SCH_CTL.REFILL, 0, 0, 10⟩]
  | .SCH_HIST_CFG => [⟨F.SCH_HIST_CFG.PERIOD, 0, 0, 16⟩, ⟨F.SCH_HIST_CFG.FREEZE, 0, 16, 1⟩, ⟨F.SCH_HIST_CFG.CLEAR, 0, 17, 1⟩]
  | .SCH_ERR => [⟨F.SCH_ERR.SCHED_CFG, 0, 0, 1⟩, ⟨F.SCH_ERR.TELEM_DROP, 0, 1, 1⟩, ⟨F.SCH_ERR.HOLD_FULL, 0, 2, 1⟩]
  | .SCH_CLASSMAP => [⟨F.SCH_CLASSMAP.MAP, 0, 0, 32⟩]
  | .SCH_SLOTMAP => [⟨F.SCH_SLOTMAP.MAP, 0, 0, 32⟩]
  | .SCH_PORT_CFG => [⟨F.SCH_PORT_CFG.TRANSIT_POL, 0, 0, 10⟩, ⟨F.SCH_PORT_CFG.TRANSIT_EN, 0, 10, 1⟩, ⟨F.SCH_PORT_CFG.UNIT_TIME, 0, 16, 16⟩]
  | .SCH_PORT_VT => [⟨F.SCH_PORT_VT.VT, 0, 0, 32⟩]
  | .SCH_GATE_CTL => [⟨F.SCH_GATE_CTL.EN, 0, 0, 1⟩, ⟨F.SCH_GATE_CTL.COUNT, 0, 1, 7⟩, ⟨F.SCH_GATE_CTL.PENDING, 0, 8, 1⟩]
  | .SCH_GATE_CYCLE => [⟨F.SCH_GATE_CYCLE.CYCLE, 0, 0, 30⟩]
  | .SCH_GATE_BASE_LO => [⟨F.SCH_GATE_BASE.BASE, 0, 0, 32⟩]
  | .SCH_GATE_BASE_HI => [⟨F.SCH_GATE_BASE.BASE, 32, 0, 32⟩]
  | .SCH_GATE_ENT0 => [⟨F.SCH_GATE_ENT.DURATION, 0, 0, 30⟩]
  | .SCH_GATE_ENT1 => [⟨F.SCH_GATE_ENT.OPEN, 0, 0, 8⟩]
  | .FWDV_0C => [⟨F.FWDV.SUPPORTED, 0, 0, 1⟩, ⟨F.FWDV.VERSION, 0, 4, 4⟩]
  | .FWDV_10 => [⟨F.FWDV.OPC_FWD_SNP, 0, 0, 8⟩, ⟨F.FWDV.OPC_F_DATA, 0, 8, 8⟩, ⟨F.FWDV.OPC_FWD_DATA, 0, 16, 8⟩, ⟨F.FWDV.OPC_FWD_NACK, 0, 24, 8⟩]
  | .FWDV_14 => [⟨F.FWDV.ENABLE, 0, 0, 1⟩]
  | .FWDV_18 => [⟨F.FWDV.ACTIVE, 0, 0, 1⟩, ⟨F.FWDV.OPC_ERR, 0, 1, 1⟩]
  | .DIR_CTL => [⟨F.DIR_CTL.BI_TIMEOUT, 0, 0, 8⟩, ⟨F.DIR_CTL.FWD_EN, 0, 8, 1⟩]
  | .DIR_STATUS0 => [⟨F.DIR_STATUS0.ENTRIES, 0, 0, 23⟩]
  | .DIR_STATUS1 => [⟨F.DIR_STATUS1.TRK_BUSY, 0, 0, 13⟩, ⟨F.DIR_STATUS1.WAYBILLS, 0, 13, 9⟩, ⟨F.DIR_STATUS1.WB_SLOTS, 0, 22, 10⟩]
  | .DIR_PTR => [⟨F.DIR_PTR.PTR, 0, 0, 6⟩]
  | .DIR_FWD_LO => [⟨F.DIR_FWD.ACTIVE, 0, 0, 32⟩]
  | .DIR_FWD_HI => [⟨F.DIR_FWD.ACTIVE, 32, 0, 32⟩]
  | .DIR_ERR => [⟨F.DIR_ERR.DIR_CORR, 0, 0, 1⟩, ⟨F.DIR_ERR.DIR_UNCORR, 0, 1, 1⟩, ⟨F.DIR_ERR.BISNP_TIMEOUT, 0, 2, 1⟩, ⟨F.DIR_ERR.AGENT_DEAD, 0, 3, 1⟩, ⟨F.DIR_ERR.SPEC_READ_ERR, 0, 4, 1⟩, ⟨F.DIR_ERR.COH_PROTOCOL, 0, 5, 1⟩, ⟨F.DIR_ERR.TARGET_TIMEOUT, 0, 6, 1⟩, ⟨F.DIR_ERR.WINDOW_CFG, 0, 7, 1⟩]
  | .WIN0 => [⟨F.WIN.VALID, 0, 0, 1⟩, ⟨F.WIN.PREFETCHABLE, 0, 1, 1⟩, ⟨F.WIN.PF_EN, 0, 2, 1⟩, ⟨F.WIN.PF_DEPTH, 0, 3, 4⟩, ⟨F.WIN.SIZE, 0, 8, 4⟩, ⟨F.WIN.WAYS, 0, 12, 2⟩, ⟨F.WIN.GRAN, 0, 14, 1⟩]
  | .WIN1 => [⟨F.WIN.BASE, 0, 0, 24⟩]
  | .WIN_TGT => [⟨F.WIN.TEDGE, 0, 0, 12⟩, ⟨F.WIN.TLD_ID, 0, 12, 4⟩, ⟨F.WIN.TLD_VALID, 0, 16, 1⟩]
  | .WIN_TDPA => [⟨F.WIN.TDPA_BASE, 0, 0, 32⟩]
  | .GRANT0 => [⟨F.GRANT.VALID, 0, 0, 1⟩, ⟨F.GRANT.COHERENT, 0, 1, 1⟩, ⟨F.GRANT.LOCAL, 0, 2, 1⟩, ⟨F.GRANT.HOME_EDGE, 0, 3, 12⟩]
  | .GRANT1 => [⟨F.GRANT.DPA_BASE, 0, 0, 18⟩]
  | .GRANT2 => [⟨F.GRANT.SIZE, 0, 0, 15⟩]
  | .GRANT3 => [⟨F.GRANT.FBASE, 0, 0, 24⟩]
  | .DIR_RECOV_CTL => [⟨F.DIR_RECOV_CTL.TGT_TIMEOUT, 0, 0, 10⟩, ⟨F.DIR_RECOV_CTL.MARK_LIM, 0, 10, 4⟩, ⟨F.DIR_RECOV_CTL.SCRUB_INT, 0, 14, 8⟩, ⟨F.DIR_RECOV_CTL.PF_LIFE, 0, 22, 8⟩]
  | .DIR_DEAD_LO => [⟨F.DIR_DEAD.DEAD, 0, 0, 32⟩]
  | .DIR_DEAD_HI => [⟨F.DIR_DEAD.DEAD, 32, 0, 32⟩]
  | .DIR_RECLAIM => [⟨F.DIR_RECLAIM.BUSY, 0, 0, 1⟩, ⟨F.DIR_RECLAIM.HOST, 0, 1, 6⟩, ⟨F.DIR_RECLAIM.POISONED, 0, 8, 24⟩]
  | .DIR_PF_STATUS => [⟨F.DIR_PF_STATUS.BUF_USED, 0, 0, 11⟩, ⟨F.DIR_PF_STATUS.HINTS, 0, 11, 7⟩]
  | .DIR_LOST => [⟨F.DIR_LOST.SET, 0, 0, 18⟩, ⟨F.DIR_LOST.CW, 0, 18, 4⟩, ⟨F.DIR_LOST.VALID, 0, 31, 1⟩]
  | .BLD_TILE_STATUS => [⟨F.BLD_TILE_STATUS.OPEN_FOLDS, 0, 0, 7⟩, ⟨F.BLD_TILE_STATUS.HOLDING, 0, 7, 1⟩]
  | .BLD_TILE_ERR => [⟨F.BLD_TILE_ERR.RANK_VIOL, 0, 0, 1⟩, ⟨F.BLD_TILE_ERR.TYPE, 0, 1, 1⟩, ⟨F.BLD_TILE_ERR.POISON, 0, 2, 1⟩, ⟨F.BLD_TILE_ERR.ABANDON, 0, 3, 1⟩]
  | .FOLD0 => [⟨F.FOLD.STATE, 0, 0, 3⟩, ⟨F.FOLD.TYPE, 0, 4, 3⟩, ⟨F.FOLD.OP, 0, 7, 3⟩, ⟨F.FOLD.STAGE_RES, 0, 10, 1⟩, ⟨F.FOLD.AUTO_REARM, 0, 11, 1⟩, ⟨F.FOLD.NOTIFY_EN, 0, 12, 1⟩, ⟨F.FOLD.RANKS, 0, 14, 7⟩]
  | .FOLD1 => [⟨F.FOLD.LINES, 0, 0, 11⟩, ⟨F.FOLD.NOTIFY_GROUP, 0, 16, 12⟩]
  | .FOLD2 => [⟨F.FOLD.FWIN, 0, 0, 32⟩]
  | .FOLD3 => [⟨F.FOLD.FWIN, 32, 0, 4⟩]
  | .FOLD4 => [⟨F.FOLD.RES, 0, 0, 32⟩]
  | .FOLD5 => [⟨F.FOLD.RES, 32, 0, 14⟩]
  | .FOLD6 => [⟨F.FOLD.NOTIFY_ADDR, 0, 0, 32⟩]
  | .FOLD7 => [⟨F.FOLD.NOTIFY_ADDR, 32, 0, 32⟩]
  | .FOLD8 => [⟨F.FOLD.TIMEOUT, 0, 0, 16⟩, ⟨F.FOLD.EPOCH, 0, 16, 16⟩]
  | .FOLD9 => [⟨F.FOLD.LINES_DONE, 0, 0, 11⟩, ⟨F.FOLD.POISONED, 0, 16, 11⟩]
  | .FOLD10 => [⟨F.FOLD.RANKS_IN, 0, 0, 32⟩]
  | .FOLD11 => [⟨F.FOLD.RANKS_IN, 32, 0, 32⟩]
  | .FOLD12 => [⟨F.FOLD.STAGED, 0, 0, 16⟩, ⟨F.FOLD.CELLS, 0, 16, 16⟩]
  | .FOLD13 => [⟨F.FOLD.CAUSE, 0, 0, 4⟩]
  | .FOLD_RANK => [⟨F.FOLD_RANK.EDGE, 0, 0, 12⟩, ⟨F.FOLD_RANK.INSTANCE, 0, 12, 10⟩, ⟨F.FOLD_RANK.INST_VALID, 0, 22, 1⟩]
  | .INS_CTL => [⟨F.INS_CTL.FROZEN_US, 0, 0, 17⟩]
  | .INS0 => [⟨F.INS.VALID, 0, 0, 1⟩, ⟨F.INS.CLASS, 0, 1, 1⟩, ⟨F.INS.COH, 0, 2, 1⟩, ⟨F.INS.HOST_PORT, 0, 4, 6⟩, ⟨F.INS.SLOT, 0, 10, 5⟩, ⟨F.INS.VF, 0, 16, 8⟩, ⟨F.INS.XCOUNT, 0, 24, 7⟩]
  | .INS1 => [⟨F.INS.AP_BASE, 0, 0, 18⟩]
  | .INS2 => [⟨F.INS.AP_SIZE, 0, 0, 5⟩]
  | .INS3 => [⟨F.INS.Q_TRK, 0, 0, 16⟩, ⟨F.INS.Q_HOLD, 0, 16, 16⟩]
  | .INS4 => [⟨F.INS.Q_CELLS, 0, 0, 20⟩, ⟨F.INS.Q_FOLDS, 0, 20, 7⟩]
  | .INS5 => [⟨F.INS.Q_DIR, 0, 0, 23⟩]
  | .INS6 => [⟨F.INS.SQUASH_US, 0, 0, 17⟩]
  | .INS8 => [⟨F.INS.STATE, 0, 0, 3⟩, ⟨F.INS.GEN, 0, 16, 16⟩]
  | .INS9 => [⟨F.INS.OUT_REQ, 0, 0, 16⟩, ⟨F.INS.SQUASH_OUT, 0, 16, 16⟩]
  | .INS10 => [⟨F.INS.CELLS_USED, 0, 0, 20⟩, ⟨F.INS.FOLDS_USED, 0, 20, 7⟩]
  | .INS11 => [⟨F.INS.DIR_USED, 0, 0, 26⟩]
  | .INS12 => [⟨F.INS.RESETS, 0, 0, 16⟩]
  | .INS13 => [⟨F.INS.QUOTA, 0, 0, 1⟩, ⟨F.INS.SQUASH, 0, 1, 1⟩, ⟨F.INS.LATE, 0, 2, 1⟩, ⟨F.INS.ACCESS, 0, 3, 1⟩]
  | .XLATE0 => [⟨F.XLATE.VALID, 0, 0, 1⟩, ⟨F.XLATE.COHERENT, 0, 1, 1⟩, ⟨F.XLATE.LOCAL, 0, 2, 1⟩, ⟨F.XLATE.WRITABLE, 0, 3, 1⟩, ⟨F.XLATE.HOME_EDGE, 0, 4, 12⟩]
  | .XLATE1 => [⟨F.XLATE.AP_OFF, 0, 0, 23⟩]
  | .XLATE2 => [⟨F.XLATE.SIZE, 0, 0, 23⟩]
  | .XLATE3 => [⟨F.XLATE.FBASE, 0, 0, 31⟩]
  | .BRG_CTL => [⟨F.BRG_CTL.CPL_TIMEOUT, 0, 0, 10⟩, ⟨F.BRG_CTL.LOCK_TIMEOUT, 0, 10, 10⟩, ⟨F.BRG_CTL.LOCK_EN, 0, 20, 1⟩, ⟨F.BRG_CTL.CPL_TRACK, 0, 21, 1⟩, ⟨F.BRG_CTL.EVT_CLASS, 0, 22, 3⟩]
  | .BRG_LOCK => [⟨F.BRG_LOCK.LEVEL, 0, 0, 2⟩, ⟨F.BRG_LOCK.HOLDER, 0, 2, 6⟩, ⟨F.BRG_LOCK.TARGET, 0, 8, 6⟩, ⟨F.BRG_LOCK.WAITERS, 0, 14, 6⟩]
  | .BRG_ERR => [⟨F.BRG_ERR.FAR_ERR, 0, 0, 1⟩, ⟨F.BRG_ERR.LOCK_TIMEOUT, 0, 1, 1⟩, ⟨F.BRG_ERR.MALFORMED, 0, 2, 1⟩, ⟨F.BRG_ERR.SIDE_FULL, 0, 3, 1⟩]
  | .BRG_TILE_STATUS => [⟨F.BRG_TILE_STATUS.CPL_TRK, 0, 0, 11⟩]
  | .BRG_PORT_STATUS => [⟨F.BRG_PORT_STATUS.SIDE_NP, 0, 0, 6⟩, ⟨F.BRG_PORT_STATUS.SIDE_CPL, 0, 6, 6⟩, ⟨F.BRG_PORT_STATUS.EVT_PEND, 0, 12, 6⟩, ⟨F.BRG_PORT_STATUS.INTX, 0, 18, 4⟩]
  | .MCA0 => [⟨F.MCA.VALID, 0, 0, 1⟩, ⟨F.MCA.GROUP, 0, 1, 12⟩]
  | .MCA1 => [⟨F.MCA.DEST, 0, 0, 32⟩]
  | .MCA2 => [⟨F.MCA.DEST, 32, 0, 32⟩]
  | .MGT_FW_STATUS => [⟨F.MGT_FW_STATUS.STATE, 0, 0, 3⟩, ⟨F.MGT_FW_STATUS.SLOT, 0, 3, 1⟩, ⟨F.MGT_FW_STATUS.FALLBACK, 0, 4, 1⟩, ⟨F.MGT_FW_STATUS.WDT_ARMED, 0, 5, 1⟩]
  | .MGT_FW_VERSION => [⟨F.MGT_FW_VERSION.VERSION, 0, 0, 32⟩]
  | .MGT_BOOT => [⟨F.MGT_BOOT.ACTIVE_SLOT, 0, 0, 1⟩, ⟨F.MGT_BOOT.NEXT_VALID, 0, 1, 1⟩, ⟨F.MGT_BOOT.NEXT_SLOT, 0, 2, 1⟩, ⟨F.MGT_BOOT.A_VALID, 0, 3, 1⟩, ⟨F.MGT_BOOT.B_VALID, 0, 4, 1⟩, ⟨F.MGT_BOOT.SVN_MIN, 0, 8, 8⟩, ⟨F.MGT_BOOT.FUSE_LEFT, 0, 16, 6⟩]
  | .MGT_BG => [⟨F.MGT_BG.RUNNING, 0, 0, 4⟩, ⟨F.MGT_BG.RESULTS, 0, 4, 5⟩]
  | .MGT_XPORT => [⟨F.MGT_XPORT.BMC_EN, 0, 0, 1⟩, ⟨F.MGT_XPORT.VDM_EN, 0, 1, 1⟩, ⟨F.MGT_XPORT.HOST_MBOX_EN, 0, 2, 1⟩, ⟨F.MGT_XPORT.TENANT_MBOX_EN, 0, 3, 1⟩, ⟨F.MGT_XPORT.BMC_MONITOR, 0, 4, 1⟩, ⟨F.MGT_XPORT.BMC_I3C, 0, 5, 1⟩]
  | .MGT_PARAM => [⟨F.MGT_PARAM.BANK, 0, 0, 1⟩, ⟨F.MGT_PARAM.STAGED, 0, 1, 1⟩, ⟨F.MGT_PARAM.DEFAULTS, 0, 2, 1⟩, ⟨F.MGT_PARAM.GEN, 0, 16, 16⟩]
  | .MGT_ERR => [⟨F.MGT_ERR.MBOX_VIOL, 0, 0, 1⟩, ⟨F.MGT_ERR.FW_IMAGE, 0, 1, 1⟩, ⟨F.MGT_ERR.PARAM_STORE, 0, 2, 1⟩, ⟨F.MGT_ERR.WATCHDOG, 0, 3, 1⟩]
  | .CAR_CFG => [⟨F.CAR_CFG.TX_EN, 0, 0, 1⟩, ⟨F.CAR_CFG.RX_EN, 0, 1, 1⟩, ⟨F.CAR_CFG.TX_RATE, 0, 2, 2⟩, ⟨F.CAR_CFG.STALL, 0, 4, 8⟩, ⟨F.CAR_CFG.ABANDON, 0, 12, 10⟩, ⟨F.CAR_CFG.STREAM_EN, 0, 22, 6⟩]
  | .CAR_CTL => [⟨F.CAR_CTL.RESYNC, 0, 0, 1⟩]
  | .CAR_STATUS => [⟨F.CAR_STATUS.TX_READY, 0, 0, 1⟩, ⟨F.CAR_STATUS.RX_LOCK, 0, 1, 1⟩, ⟨F.CAR_STATUS.TX_CREDIT, 0, 2, 8⟩, ⟨F.CAR_STATUS.RX_FREE, 0, 10, 8⟩]
  | .CAR_ERR => [⟨F.CAR_ERR.ABANDON, 0, 0, 1⟩, ⟨F.CAR_ERR.OVERRUN, 0, 1, 1⟩, ⟨F.CAR_ERR.FRAME, 0, 2, 1⟩, ⟨F.CAR_ERR.OUT_LOST, 0, 3, 1⟩, ⟨F.CAR_ERR.TX_RESYNC, 0, 4, 1⟩]
  | .CAR_RX_BURST => [⟨F.CAR_RX_BURST.STREAM, 0, 0, 8⟩, ⟨F.CAR_RX_BURST.OPEN, 0, 8, 1⟩, ⟨F.CAR_RX_BURST.STALLED, 0, 9, 1⟩, ⟨F.CAR_RX_BURST.BROKEN, 0, 10, 1⟩]
  | .CAR_RX_SEQ => [⟨F.CAR_RX_SEQ.SEQ, 0, 0, 32⟩]
  | .CAR_RX_OFF => [⟨F.CAR_RX_OFF.RECEIVED, 0, 0, 32⟩]
  | .CAR_OUTQ => [⟨F.CAR_OUTQ.FAULT_Q, 0, 0, 12⟩, ⟨F.CAR_OUTQ.RECLAIM_Q, 0, 12, 12⟩]
  | .FLT_CTL => [⟨F.FLT_CTL.REACTION, 0, 0, 1⟩, ⟨F.FLT_CTL.WINDOW, 0, 1, 14⟩]
  | .FLT_STATUS => [⟨F.FLT_STATUS.PENDING, 0, 0, 9⟩, ⟨F.FLT_STATUS.TOP, 0, 9, 2⟩, ⟨F.FLT_STATUS.PEND_OVF, 0, 11, 1⟩, ⟨F.FLT_STATUS.LOG_COUNT, 0, 12, 12⟩, ⟨F.FLT_STATUS.WINDOWS, 0, 24, 6⟩]
  | .FLT_SEQ_LO => [⟨F.FLT_SEQ.SEQ, 0, 0, 32⟩]
  | .FLT_SEQ_HI => [⟨F.FLT_SEQ.SEQ, 32, 0, 8⟩]
  | .FLT_LOST => [⟨F.FLT_LOST.LOST, 0, 0, 32⟩]
  | .FLT_WIRE => [⟨F.FLT_WIRE.CHECK_ON, 0, 0, 1⟩, ⟨F.FLT_WIRE.PAIR, 0, 1, 8⟩, ⟨F.FLT_WIRE.CAUSE, 0, 9, 2⟩]
  | .FLT_FENCE_TILE => [⟨F.FLT_FENCE_TILE.TILES, 0, 0, 8⟩]
  | .FLT_ERR => [⟨F.FLT_ERR.WIRE, 0, 0, 1⟩, ⟨F.FLT_ERR.LOST, 0, 1, 1⟩]
  | .FLT_POLICY => [⟨F.FLT_POLICY.LEVEL, 0, 0, 2⟩, ⟨F.FLT_POLICY.DEAD_HOST, 0, 2, 1⟩, ⟨F.FLT_POLICY.NO_STREAM, 0, 3, 1⟩]
  | .PWR_CTL => [⟨F.PWR_CTL.MODE_REQ, 0, 0, 1⟩, ⟨F.PWR_CTL.RAIL_RESTART, 0, 1, 1⟩]
  | .PWR_STATUS => [⟨F.PWR_STATUS.STATE, 0, 0, 3⟩, ⟨F.PWR_STATUS.PG, 0, 3, 6⟩, ⟨F.PWR_STATUS.EN, 0, 9, 6⟩, ⟨F.PWR_STATUS.PWROK, 0, 15, 1⟩]
  | .PWR_RAIL_CFG => [⟨F.PWR_RAIL_CFG.CH_EN, 0, 0, 6⟩, ⟨F.PWR_RAIL_CFG.TSEQ, 0, 6, 8⟩]
  | .PWR_WAKE_EN => [⟨F.PWR_WAKE_EN.BMC, 0, 0, 1⟩, ⟨F.PWR_WAKE_EN.BAY_PRSNT, 0, 1, 1⟩, ⟨F.PWR_WAKE_EN.BAY_ALERT, 0, 2, 1⟩, ⟨F.PWR_WAKE_EN.BAY_FAULT, 0, 3, 1⟩, ⟨F.PWR_WAKE_EN.TIMER, 0, 4, 1⟩, ⟨F.PWR_WAKE_EN.WAKE_PIN, 0, 5, 1⟩, ⟨F.PWR_WAKE_EN.GPIO, 0, 6, 1⟩]
  | .PWR_WAKE_BAY_EN => [⟨F.PWR_WAKE_BAY_EN.BAYS, 0, 0, 32⟩]
  | .PWR_WAKE_SOURCE => [⟨F.PWR_WAKE_SOURCE.SOURCES, 0, 0, 10⟩, ⟨F.PWR_WAKE_SOURCE.BAY_IDX, 0, 16, 5⟩, ⟨F.PWR_WAKE_SOURCE.TIMER_IDX, 0, 21, 2⟩]
  | .PWR_WAKE_RESULT => [⟨F.PWR_WAKE_RESULT.RESULT, 0, 0, 2⟩, ⟨F.PWR_WAKE_RESULT.RETRIES, 0, 2, 2⟩, ⟨F.PWR_WAKE_RESULT.FAIL_CH, 0, 4, 3⟩, ⟨F.PWR_WAKE_RESULT.KEEP_BAD, 0, 7, 1⟩, ⟨F.PWR_WAKE_RESULT.NO_WFI, 0, 8, 1⟩, ⟨F.PWR_WAKE_RESULT.CLEAR, 0, 16, 1⟩]
  | .PWR_AOC_LO => [⟨F.PWR_AOC.AOC, 0, 0, 32⟩]
  | .PWR_AOC_HI => [⟨F.PWR_AOC.AOC, 32, 0, 16⟩]
  | .PWR_SAG_CTL => [⟨F.PWR_SAG_CTL.WARN_PCT, 0, 0, 4⟩, ⟨F.PWR_SAG_CTL.SHED_PCT, 0, 4, 4⟩, ⟨F.PWR_SAG_CTL.SHED_EN, 0, 8, 1⟩, ⟨F.PWR_SAG_CTL.HOLD, 0, 16, 8⟩]
  | .PWR_SAG_STATUS => [⟨F.PWR_SAG_STATUS.WARN, 0, 0, 7⟩, ⟨F.PWR_SAG_STATUS.SHED, 0, 7, 7⟩, ⟨F.PWR_SAG_STATUS.STAGE, 0, 14, 3⟩]
  | .PWR_THERM_CTL => [⟨F.PWR_THERM_CTL.WARN, 0, 0, 8⟩, ⟨F.PWR_THERM_CTL.SHED, 0, 8, 8⟩, ⟨F.PWR_THERM_CTL.TRIP, 0, 16, 8⟩, ⟨F.PWR_THERM_CTL.HYST, 0, 24, 4⟩]
  | .PWR_THERM_STATUS => [⟨F.PWR_THERM_STATUS.TEMP, 0, 0, 12⟩, ⟨F.PWR_THERM_STATUS.SENSOR, 0, 12, 4⟩, ⟨F.PWR_THERM_STATUS.LEVEL, 0, 16, 2⟩]
  | .PWR_AVS => [⟨F.PWR_AVS.VID, 0, 0, 8⟩, ⟨F.PWR_AVS.APPLIED, 0, 8, 1⟩]
  | .PWR_KEEP => [⟨F.PWR_KEEP.SIZE, 0, 0, 18⟩, ⟨F.PWR_KEEP.VALID, 0, 18, 1⟩]
  | .PWR_TIMER => [⟨F.PWR_TIMER.COUNT, 0, 0, 31⟩, ⟨F.PWR_TIMER.EN, 0, 31, 1⟩]
  | .TIL_PWR_CTL => [⟨F.TIL_PWR_CTL.NAP_IDLE, 0, 0, 10⟩, ⟨F.TIL_PWR_CTL.RETAIN_EN, 0, 10, 1⟩, ⟨F.TIL_PWR_CTL.OFF_EN, 0, 11, 1⟩, ⟨F.TIL_PWR_CTL.RETAIN_IDLE, 0, 12, 14⟩]
  | .TIL_PWR_STATUS => [⟨F.TIL_PWR_STATUS.STATE, 0, 0, 2⟩, ⟨F.TIL_PWR_STATUS.WAKING, 0, 2, 1⟩]
  | .BAY_CFG => [⟨F.BAY_CFG.EN, 0, 0, 1⟩, ⟨F.BAY_CFG.AUTO_ON, 0, 1, 1⟩, ⟨F.BAY_CFG.FEED, 0, 2, 2⟩, ⟨F.BAY_CFG.REVERT, 0, 4, 1⟩, ⟨F.BAY_CFG.PORT, 0, 5, 6⟩, ⟨F.BAY_CFG.PORT_VALID, 0, 11, 1⟩, ⟨F.BAY_CFG.GATE_I, 0, 12, 2⟩, ⟨F.BAY_CFG.RETRY_LIM, 0, 14, 4⟩, ⟨F.BAY_CFG.RETRY_INT, 0, 18, 3⟩]
  | .BAY_LIM => [⟨F.BAY_LIM.ILIM, 0, 0, 6⟩, ⟨F.BAY_LIM.FLT_TIME, 0, 6, 6⟩, ⟨F.BAY_LIM.PRE_TIME, 0, 12, 8⟩, ⟨F.BAY_LIM.GR_TIME, 0, 20, 4⟩]
  | .BAY_CTL => [⟨F.BAY_CTL.ON_REQ, 0, 0, 1⟩, ⟨F.BAY_CTL.PWRDIS, 0, 1, 1⟩, ⟨F.BAY_CTL.LED, 0, 2, 3⟩]
  | .BAY_STATUS => [⟨F.BAY_STATUS.STATE, 0, 0, 4⟩, ⟨F.BAY_STATUS.FEED_ACT, 0, 4, 1⟩, ⟨F.BAY_STATUS.PRSNT, 0, 5, 1⟩, ⟨F.BAY_STATUS.ALERT, 0, 6, 1⟩, ⟨F.BAY_STATUS.PG, 0, 7, 1⟩, ⟨F.BAY_STATUS.PERST, 0, 8, 1⟩, ⟨F.BAY_STATUS.FLT_RUN, 0, 9, 1⟩, ⟨F.BAY_STATUS.RETRIES, 0, 10, 4⟩]
  | .BAY_MEAS => [⟨F.BAY_MEAS.ISNS, 0, 0, 10⟩, ⟨F.BAY_MEAS.VOUT, 0, 10, 10⟩]
  | .BAY_ERR => [⟨F.BAY_ERR.OVERCURRENT, 0, 0, 1⟩, ⟨F.BAY_ERR.SHORT, 0, 1, 1⟩, ⟨F.BAY_ERR.PRECHARGE_FAIL, 0, 2, 1⟩, ⟨F.BAY_ERR.GATE_STUCK, 0, 3, 1⟩, ⟨F.BAY_ERR.FEED_LOSS, 0, 4, 1⟩, ⟨F.BAY_ERR.UV, 0, 5, 1⟩, ⟨F.BAY_ERR.LOCKOUT, 0, 6, 1⟩]
  | .BAY_FEED_CFG => [⟨F.BAY_FEED_CFG.PRE_MAX, 0, 0, 4⟩, ⟨F.BAY_FEED_CFG.A_FITTED, 0, 4, 1⟩, ⟨F.BAY_FEED_CFG.B_FITTED, 0, 5, 1⟩]
  | .BAY_FEED_STATUS => [⟨F.BAY_FEED_STATUS.A_GOOD, 0, 0, 1⟩, ⟨F.BAY_FEED_STATUS.B_GOOD, 0, 1, 1⟩, ⟨F.BAY_FEED_STATUS.VBAY_A, 0, 2, 10⟩, ⟨F.BAY_FEED_STATUS.VBAY_B, 0, 12, 10⟩]
  | .BAY_PRSNT_ALL => [⟨F.BAY_PRSNT_ALL.PRSNT, 0, 0, 32⟩]
  | .BAY_ALERT_ALL => [⟨F.BAY_ALERT_ALL.ALERT, 0, 0, 32⟩]
  | .BAY_BUS_CFG => [⟨F.BAY_BUS_CFG.SPEED, 0, 0, 2⟩, ⟨F.BAY_BUS_CFG.I3C, 0, 2, 1⟩, ⟨F.BAY_BUS_CFG.SW_EN, 0, 3, 1⟩, ⟨F.BAY_BUS_CFG.SW_ADDR, 0, 4, 7⟩]
  | .CNT_CTL => [⟨F.CNT_CTL.SNAP, 0, 0, 1⟩]
  | .CNT_SNAP_COUNT => [⟨F.CNT_SNAP_COUNT.COUNT, 0, 0, 32⟩]
  | .CNT_SNAP_FTC_LO => [⟨F.CNT_SNAP_FTC.FTC, 0, 0, 32⟩]
  | .CNT_SNAP_FTC_HI => [⟨F.CNT_SNAP_FTC.FTC, 32, 0, 32⟩]
  | .CNT_SNAP_AOC_LO => [⟨F.CNT_SNAP_AOC.AOC, 0, 0, 32⟩]
  | .CNT_SNAP_AOC_HI => [⟨F.CNT_SNAP_AOC.AOC, 32, 0, 16⟩]
  | .CNT_OVF_SUM => [⟨F.CNT_OVF_SUM.BANKS, 0, 0, 6⟩]
  | .GLB_ID => [⟨F.GLB_ID.STEPPING, 0, 0, 8⟩, ⟨F.GLB_ID.DEVICE, 0, 16, 16⟩]
  | .GLB_CAP0 => [⟨F.GLB_CAP0.TILE_MASK, 0, 0, 8⟩, ⟨F.GLB_CAP0.PORTS, 0, 8, 7⟩, ⟨F.GLB_CAP0.INTERLINK, 0, 15, 1⟩, ⟨F.GLB_CAP0.FWD_EXT, 0, 16, 1⟩, ⟨F.GLB_CAP0.BLEND, 0, 17, 1⟩, ⟨F.GLB_CAP0.IDE, 0, 18, 1⟩, ⟨F.GLB_CAP0.GRADE, 0, 19, 1⟩]
  | .GLB_CAP1 => [⟨F.GLB_CAP1.DIR_SETS, 0, 0, 5⟩, ⟨F.GLB_CAP1.DIR_WAYS, 0, 5, 5⟩, ⟨F.GLB_CAP1.BUF_CELLS, 0, 10, 5⟩, ⟨F.GLB_CAP1.INSTANCES, 0, 15, 4⟩]
  | .GLB_STRAP => [⟨F.GLB_STRAP.SPI_4B, 0, 0, 1⟩, ⟨F.GLB_STRAP.SPI_QUAD, 0, 1, 1⟩, ⟨F.GLB_STRAP.SPI_DIV, 0, 2, 2⟩, ⟨F.GLB_STRAP.BOOT_HOLD, 0, 4, 1⟩, ⟨F.GLB_STRAP.XTAL_BYP, 0, 5, 1⟩, ⟨F.GLB_STRAP.PARAM_SKIP, 0, 6, 1⟩, ⟨F.GLB_STRAP.TEST_EN, 0, 8, 1⟩]
  | .GLB_NODE => [⟨F.GLB_NODE.NODE_ID, 0, 0, 16⟩, ⟨F.GLB_NODE.FN_EDGE, 0, 16, 12⟩]
  | .GLB_MODE => [⟨F.GLB_MODE.MODE, 0, 0, 3⟩, ⟨F.GLB_MODE.BUSY, 0, 3, 1⟩, ⟨F.GLB_MODE.TARGET, 0, 4, 3⟩, ⟨F.GLB_MODE.RANK, 0, 8, 3⟩]
  | .GLB_MODE_FTC_LO => [⟨F.GLB_MODE_FTC.FTC, 0, 0, 32⟩]
  | .GLB_MODE_FTC_HI => [⟨F.GLB_MODE_FTC.FTC, 32, 0, 32⟩]
  | .GLB_RESET_CAUSE => [⟨F.GLB_RESET_CAUSE.CAUSE, 0, 0, 4⟩, ⟨F.GLB_RESET_CAUSE.L3_RUN, 0, 8, 2⟩]
  | .GLB_CLK_STATUS => [⟨F.GLB_CLK_STATUS.REF_TILE, 0, 0, 3⟩, ⟨F.GLB_CLK_STATUS.REF_PRESENT, 0, 8, 8⟩, ⟨F.GLB_CLK_STATUS.CORE_LOCK, 0, 16, 1⟩, ⟨F.GLB_CLK_STATUS.MGMT_LOCK, 0, 17, 1⟩]
  | .GLB_TIME_CTL => [⟨F.GLB_TIME_CTL.SOURCE, 0, 0, 2⟩, ⟨F.GLB_TIME_CTL.PORT, 0, 2, 6⟩, ⟨F.GLB_TIME_CTL.SYNC, 0, 8, 10⟩]
  | .GLB_TIME_STEP => [⟨F.GLB_TIME_STEP.STEP, 0, 0, 20⟩]
  | .GLB_FTC_LO => [⟨F.GLB_FTC.FTC, 0, 0, 32⟩]
  | .GLB_FTC_HI => [⟨F.GLB_FTC.FTC, 32, 0, 32⟩]
  | .GLB_TIME_STATUS => [⟨F.GLB_TIME_STATUS.OFFSET, 0, 0, 32⟩]
  | .GLB_ERR => [⟨F.GLB_ERR.CLAIM, 0, 0, 1⟩, ⟨F.GLB_ERR.BAR_PARTIAL, 0, 1, 1⟩, ⟨F.GLB_ERR.MODE_WRITE, 0, 2, 1⟩, ⟨F.GLB_ERR.TIME_FAIL, 0, 3, 1⟩]
  | .GLB_GPIO_IN => [⟨F.GLB_GPIO_IN.IN, 0, 0, 16⟩]
  | .GLB_GPIO_OUT => [⟨F.GLB_GPIO_OUT.OUT, 0, 0, 16⟩]
  | .GLB_GPIO_OE => [⟨F.GLB_GPIO_OE.OE, 0, 0, 16⟩]
  | .GLB_CLAIM_GPIO => [⟨F.GLB_CLAIM_GPIO.FUNC, 0, 0, 16⟩, ⟨F.GLB_CLAIM_GPIO.SELECTOR, 0, 16, 16⟩]
  | .GLB_CLAIM_TIMERB => [⟨F.GLB_CLAIM_TIMERB.FUNC, 0, 0, 16⟩, ⟨F.GLB_CLAIM_TIMERB.SELECTOR, 0, 16, 16⟩]
  | .GLB_CLAIM_TIMERF => [⟨F.GLB_CLAIM_TIMERF.FUNC, 0, 0, 16⟩, ⟨F.GLB_CLAIM_TIMERF.SELECTOR, 0, 16, 16⟩]
  | .GLB_CLAIM_AUX => [⟨F.GLB_CLAIM_AUX.FUNC, 0, 0, 16⟩, ⟨F.GLB_CLAIM_AUX.SELECTOR, 0, 16, 16⟩]
  | .MGT_MBX_SUM => [⟨F.MGT_MBX_SUM.SW, 0, 0, 1⟩, ⟨F.MGT_MBX_SUM.HOST, 0, 1, 1⟩, ⟨F.MGT_MBX_SUM.TENANT, 0, 2, 1⟩, ⟨F.MGT_MBX_SUM.MCTP, 0, 3, 1⟩]
  | .MGT_MBX_SW => [⟨F.MGT_MBX_SW.PORT_0, 0, 0, 6⟩, ⟨F.MGT_MBX_SW.VALID_0, 0, 6, 1⟩, ⟨F.MGT_MBX_SW.BELL_0, 0, 7, 1⟩, ⟨F.MGT_MBX_SW.PORT_1, 0, 8, 6⟩, ⟨F.MGT_MBX_SW.VALID_1, 0, 14, 1⟩, ⟨F.MGT_MBX_SW.BELL_1, 0, 15, 1⟩, ⟨F.MGT_MBX_SW.PORT_2, 0, 16, 6⟩, ⟨F.MGT_MBX_SW.VALID_2, 0, 22, 1⟩, ⟨F.MGT_MBX_SW.BELL_2, 0, 23, 1⟩, ⟨F.MGT_MBX_SW.PORT_3, 0, 24, 6⟩, ⟨F.MGT_MBX_SW.VALID_3, 0, 30, 1⟩, ⟨F.MGT_MBX_SW.BELL_3, 0, 31, 1⟩]
  | .MGT_MBX_HOST_LO => [⟨F.MGT_MBX_HOST.BELL, 0, 0, 32⟩]
  | .MGT_MBX_HOST_HI => [⟨F.MGT_MBX_HOST.BELL, 32, 0, 32⟩]
  | .MGT_MBX_TEN => [⟨F.MGT_MBX_TEN.BELL, 0, 0, 32⟩]
  | .MGT_MCTP_STATUS => [⟨F.MGT_MCTP_STATUS.EID, 0, 0, 8⟩, ⟨F.MGT_MCTP_STATUS.ASM, 0, 8, 4⟩, ⟨F.MGT_MCTP_STATUS.BMC_PEND, 0, 12, 1⟩, ⟨F.MGT_MCTP_STATUS.VDM_PEND, 0, 13, 1⟩]
  | .MGT_CMD_STATUS => [⟨F.MGT_CMD_STATUS.ORIGIN, 0, 0, 16⟩, ⟨F.MGT_CMD_STATUS.WORKING, 0, 16, 1⟩]
  | .PRT_PARTNER_ID_LO => [⟨F.PRT_PARTNER_ID.ID, 0, 0, 32⟩]
  | .PRT_PARTNER_ID_HI => [⟨F.PRT_PARTNER_ID.ID, 32, 0, 32⟩]
  | .DIR_STAMP_LO => [⟨F.DIR_STAMP.COUNT, 0, 0, 32⟩]
  | .DIR_STAMP_HI => [⟨F.DIR_STAMP.COUNT, 32, 0, 29⟩]
  | .INS_POOL_TRK => [⟨F.INS_POOL_TRK.SIZE, 0, 0, 20⟩, ⟨F.INS_POOL_TRK.USED, 0, 20, 12⟩]
  | .INS_POOL_HOLD => [⟨F.INS_POOL_HOLD.SIZE, 0, 0, 20⟩, ⟨F.INS_POOL_HOLD.USED, 0, 20, 12⟩]
  | .INS_POOL_CELLS => [⟨F.INS_POOL_CELLS.SIZE, 0, 0, 20⟩, ⟨F.INS_POOL_CELLS.USED, 0, 20, 12⟩]
  | .INS_POOL_DIR => [⟨F.INS_POOL_DIR.SIZE, 0, 0, 20⟩, ⟨F.INS_POOL_DIR.USED, 0, 20, 12⟩]
  | .INS_POOL_FOLDS => [⟨F.INS_POOL_FOLDS.SIZE, 0, 0, 20⟩, ⟨F.INS_POOL_FOLDS.USED, 0, 20, 12⟩]
  | .PWR_WAKE_SEEN => [⟨F.PWR_WAKE_SEEN.SOURCES, 0, 0, 10⟩]

end Sys2Proof.Machine
end

