-- ==== Sys2Proof/Machine/Tab.lean ====
section
/-!
DEFINITION. Sparse tables in one canonical form: a list of (key, value) pairs, keys strictly rising, no value equal to
the value an unlisted key reads as. Every memory, register file and array of the model is such a table.
-/

namespace Sys2Proof.Machine

/-- A sparse table from a number to a value. -/
abbrev Tab (α : Type) := List (Nat × α)

/-- The value at `k`; `d` is what an unlisted key reads as. -/
def Tab.get {α : Type} (d : α) : Tab α → Nat → α
  | [], _ => d
  | (j, v) :: t, k => if k = j then v else Tab.get d t k

/-- Remove the entry at `k`. -/
def Tab.erase {α : Type} : Tab α → Nat → Tab α
  | [], _ => []
  | (j, v) :: t, k => if k = j then Tab.erase t k else (j, v) :: Tab.erase t k

/-- Put `v` at `k`, in order. -/
def Tab.insert {α : Type} : Tab α → Nat → α → Tab α
  | [], k, v => [(k, v)]
  | (j, u) :: t, k, v =>
    if k = j then (k, v) :: t else if k < j then (k, v) :: (j, u) :: t else (j, u) :: Tab.insert t k v

/-- Write `v` at `k`, keeping the canonical form: writing the unlisted value removes the entry. -/
def Tab.put {α : Type} [DecidableEq α] (d : α) (t : Tab α) (k : Nat) (v : α) : Tab α :=
  if v = d then t.erase k else t.insert k v

/-- Replace the value at `k` by its image. -/
def Tab.modify {α : Type} [DecidableEq α] (d : α) (t : Tab α) (k : Nat) (f : α → α) : Tab α :=
  t.put d k (f (t.get d k))

/-- Keys strictly rise, all from `lo` on. -/
def Tab.risesFrom {α : Type} (lo : Nat) : Tab α → Bool
  | [] => true
  | (k, _) :: t => decide (lo ≤ k) && Tab.risesFrom (k + 1) t

/-- The canonical form of a table whose unlisted keys read as `d`. -/
def Tab.wf {α : Type} [DecidableEq α] (d : α) (t : Tab α) : Bool :=
  t.risesFrom 0 && t.all (fun e => decide (e.2 ≠ d))

end Sys2Proof.Machine
end

