-- ==== Sys2Proof/Machine/StateFault.lean ====
section
/-!
DEFINITION. The state of the fault collector, of Butre's wire checker and of the fault log (chapter 14).
-/

namespace Sys2Proof.Machine

/-- What a coded report names: a fault kind or an event (R489, R495). -/
inductive What where
  | fault (k : Kind) | event (e : Event)
  deriving DecidableEq, Repr

/-- A reclaim report record (R324, R474) that a fault record brings about; the collector completes it with that record's
device sequence. `b1` is its byte 1, `src` the SRC_EDGE of type 0x14. -/
structure Recl where
  ty   : Nat
  b1   : Nat
  inst : Option (Fin 1024) := none
  lines : Nat
  addr : BitVec 64
  src  : BitVec 12 := 0
  deriving DecidableEq, Repr

/-- A coded message from a unit to the collector (R489): the source unit ID of R490, what it reports, the level the
reporting rule names (if it names one), the domain, the 52-bit address field, and for an event its bytes 0 to 3. -/
structure Coded where
  unit : Nat
  what : What
  level : Option Nat := none
  dom  : DomType
  idx  : Nat
  addr : BitVec 64 := 0
  data : BitVec 32 := 0
  injected : Bool := false
  recl : Option Recl := none
  /-- the unit's dual-rail pair agreed with the record (R489, DUAL) -/
  dual : Bool := false
  deriving DecidableEq, Repr

/-- A completed record (R489), with its acknowledgement and its C32-compatibility window. -/
structure Rec where
  seq  : BitVec 40
  c    : Coded
  level : Nat
  reported : Nat
  escalated : Bool
  compat : Bool
  mode : Nat
  ftc  : BitVec 64
  /-- acknowledged, or needing no acknowledgement (R503) -/
  acked : Bool
  /-- a C32-compatibility window is open for it (R510) -/
  window : Bool
  /-- the policy entry at its acceptance had DEAD_HOST set (R507) -/
  dead   : Bool
  deriving DecidableEq, Repr

/-- The collector and the log. -/
structure FltSt where
  /-- the collector is running (R493) -/
  running : Bool
  /-- next device sequence (R53) -/
  seq : BitVec 40
  /-- the input queue, at most 64 records (R492) -/
  inq : List Coded
  /-- records whose source waits for room in the input queue (R492) -/
  stalled : List Coded
  /-- records that units raise on the edge in progress (R71, R492) -/
  arr : List Coded
  /-- records dropped since the last FK_FAULT_LOST -/
  lostSince : Nat
  /-- Butre's pending records in the cellar, at most 64 (R493), and those beyond -/
  butre : List Coded
  butreLost : Nat
  /-- the fault log: slot to record (R494) -/
  log : Tab (Option Rec)
  /-- the L3 record whose acknowledgement a third recovery waits for (R508) -/
  holdL3 : Option (BitVec 40)
  /-- the wire checker: pairs that showed equal levels at the last sample (R497) -/
  wireEq : List Nat
  /-- pairs that signalled at the last sample (R497) -/
  wireHigh : List Nat
  /-- pairs that have signalled and units whose record waits for its pair, within tWIRE (R497) -/
  wireSig : List Nat
  wireRec : List Nat
  /-- ports, instances and bays fenced at L1 (R500), and cells, slice ways and folds whose fence is in place -/
  fences : List (DomType × Nat)
  /-- the output queues of Caravan streams 0x02 and 0x03, at most 2,048 records each (R477) -/
  faultQ : List Rec
  reclQ  : List (Recl × BitVec 40)
  /-- streams whose full queue has been logged and has not lost its fullness since -/
  qFull  : List Nat
  /-- FACTORY_INJECT (R513): codewords to be flipped at their next write (unit, codeword, byte offset, mask), samples still
  forced equal per pair, flits still to be sent with an inverted CRC per port -/
  injCw   : List (Nat × Nat × Nat × BitVec 64)
  injWire : Tab Nat
  injLink : Tab Nat
  /-- tiles whose self-test failed in this Bring-up (R40) -/
  selfTestFail : BitVec 8
  /-- tiles re-initialised since the last warm reset: every set is a lost set (R502) -/
  reinit : BitVec 8
  deriving DecidableEq, Repr

def FltSt.reset : FltSt :=
  { running := false, seq := 0, inq := [], stalled := [], arr := [], lostSince := 0, butre := [], butreLost := 0, log := [],
    holdL3 := none, wireEq := [], wireHigh := [], wireSig := [], wireRec := [], fences := [], faultQ := [], reclQ := [], qFull := [], injCw := [],
    injWire := [], injLink := [], selfTestFail := 0, reinit := 0 }

end Sys2Proof.Machine
end

