-- ==== Sys2Proof/Machine/StateMgt.lean ====
section
/-!
DEFINITION. The state of the management processor: its flash and OTP, the firmware update, the persistent parameters,
the background operations and the transports (chapter 12).
-/

namespace Sys2Proof.Machine

/-- What an image slot of the SPI flash holds (R429, R433): whether it is marked valid, its version, its security
version. -/
structure ImgSlot where
  valid   : Bool
  version : BitVec 32
  svn     : Nat
  deriving DecidableEq, Repr

/-- The boot header (R432). `copies`: at least one of its two copies has a valid CRC-32. -/
structure BootHdr where
  copies : Bool
  active : Fin 2
  next   : Option (Fin 2)
  gen    : Nat
  deriving DecidableEq, Repr

/-- A parameter bank (R448): its generation and its records, one word each: parameter ID × 2^20 + word. -/
structure Bank where
  gen  : BitVec 32
  recs : Tab (Option (BitVec 32))
  deriving DecidableEq, Repr

/-- An open image transfer (R433): who opened it, its slot, its length and the bytes received. `stream` is set for a
transfer that stream 0x81 of Caravan fills (R487). -/
structure Xfer where
  origin : BitVec 16
  slot   : Fin 2
  total  : Nat
  got    : Nat
  erased : Bool
  verifying : Bool
  stream : Bool
  deriving DecidableEq, Repr

/-- A PARAM_WRITE whose last chunk has not arrived (R454). -/
structure ParamWr where
  id    : Nat
  total : Nat
  bytes : List (BitVec 8)
  deriving DecidableEq, Repr

/-- The Foern header of a request (R443). -/
structure Hdr where
  opcode  : BitVec 16
  persist : Bool
  sel     : BitVec 16
  seq     : BitVec 32
  deriving DecidableEq, Repr

/-- A running background operation (R447): its origin, its request, and the item it works on. -/
structure BgOp where
  via  : Transport
  hdr  : Hdr
  item : Nat
  deriving DecidableEq, Repr

/-- A kept result (R447). -/
structure BgRes where
  op     : BgOp
  detail : Detail
  result : List (BitVec 8)
  /-- aborted rather than completed -/
  aborted : Bool
  deriving DecidableEq, Repr

/-- A response (R443): the standard return code, the detail code, the echoed header fields and the payload after the
header. -/
structure Rsp where
  via    : Transport
  opcode : BitVec 16
  ret    : RetCode
  detail : Detail
  persist : Bool
  background : Bool
  replayed : Bool
  sel    : BitVec 16
  seq    : BitVec 32
  pay    : List (BitVec 8)
  deriving DecidableEq, Repr

/-- A held SET_MODE (R446). -/
structure Held where
  via    : Transport
  hdr    : Hdr
  deriving DecidableEq, Repr

/-- An MCTP message being assembled (R438): origin, message tag, next packet sequence, the bytes so far. -/
structure Asm where
  via  : Transport
  tag  : Fin 8
  next : Fin 4
  bytes : List (BitVec 8)
  deriving DecidableEq, Repr

structure MgtSt where
  imgA   : ImgSlot
  imgB   : ImgSlot
  boot   : BootHdr
  /-- the slot that the ROM is starting from, and whether it fell back already (R430) -/
  from_  : Fin 2
  fell   : Bool
  /-- the OTP's security version minimum and the increments left (R435) -/
  svnMin : Nat
  fuses  : Nat
  banks  : List (Option Bank)
  /-- the RAM shadow of staged parameters, and parameters staged for deletion (R449, R453) -/
  shadow : Tab (Option (BitVec 32))
  deleted : List Nat
  paramWr : Option ParamWr
  /-- the copy that a running PARAM_COMMIT writes (R461) -/
  commit : Option Bank
  xfer   : Option Xfer
  running : List BgOp
  results : List BgRes
  held   : Option Held
  /-- last responses of MCTP origins (R441), newest first -/
  last   : List Rsp
  asm    : List Asm
  /-- assembled requests that wait for the firmware -/
  inbox  : List (Transport × List (BitVec 8))
  /-- responses issued, oldest first -/
  rsp    : List Rsp
  /-- the origin that holds the Factory principal (R442) -/
  factory : Option Transport
  /-- certificate slots 0 to 7 (R432, R460) -/
  certs  : Tab (List (BitVec 8))
  /-- answers to MCTP control messages, oldest first (R438) -/
  ctlOut : List (Transport × MctpAns)
  /-- response message limit, event interrupt policy and event records of the standard interface (R439) -/
  rspLimit : Nat
  evtPolicy : BitVec 32
  cleared : Nat
  /-- the I3C dynamic address on the BMC bus, if held (R437) -/
  i3cAddr : Option (BitVec 7)
  /-- the request object that the DOE mailbox of the management function holds (R92) -/
  doe    : Option DoeProto
  deriving DecidableEq, Repr

/-- The management processor as the model starts: slot A holds a valid image, slot B none, no parameter bank is valid
(log entry 10). DESIGN CHOICE, unsafe: log entry 10. DESIGN CHOICE, unsafe: log entry 60. -/
def MgtSt.reset : MgtSt :=
  { imgA := { valid := true, version := 0, svn := 0 }, imgB := { valid := false, version := 0, svn := 0 },
    boot := { copies := true, active := 0, next := none, gen := 0 }, from_ := 0, fell := false, svnMin := 0, fuses := 32,
    banks := [none, none], shadow := [], deleted := [], paramWr := none, commit := none, xfer := none, running := [],
    results := [], held := none, last := [], asm := [], inbox := [], rsp := [], factory := none, certs := [], ctlOut := [],
    rspLimit := 12, evtPolicy := 0, cleared := 0, i3cAddr := none, doe := none }

end Sys2Proof.Machine
end

