-- ==== Sys2Proof/Machine/StateCar.lean ====
section
/-!
DEFINITION. The state of the Caravan port (chapter 13) and of the bay channels (chapter 16) outside their registers.
-/

namespace Sys2Proof.Machine

/-- A telemetry record that waits for stream 0x01 (R246, R473): its kind (1 queue sample, 2 mirrored message), its bytes,
and the tile and cells it holds in the auxiliary partition (R76). -/
structure TelRec where
  kind  : Nat
  bytes : List (BitVec 8)
  tile  : Fin 8
  cells : Nat
  deriving DecidableEq, Repr

/-- The output burst being sent (R475): its header, its bytes, the bytes sent, whether its next segment still needs a
HEAD, and the records it carries, which an abandonment returns or drops (R476). -/
structure OutBurst where
  head  : BurstHead
  bytes : List (BitVec 8)
  sent  : Nat
  headDue : Bool
  faults : List Rec
  recls : List (Recl × BitVec 40)
  tels  : List TelRec
  deriving DecidableEq, Repr

/-- The open input burst (R478): its first header, the bytes so far, whether it is stalled or broken. -/
structure InBurst where
  head  : BurstHead
  bytes : List (BitVec 8)
  stalled : Bool
  broken  : Bool
  deriving DecidableEq, Repr

structure CarSt where
  /-- ALIGN blocks still to be sent on the output (R471) -/
  align : Nat
  /-- records of stream 0x01; the next and the last set row of a directory dump (slice × 262144 + set), stream 0x04;
  blobs of stream 0x05 -/
  tel   : List TelRec
  dump  : Option (Nat × Nat)
  blobs : List (Nat × List (BitVec 8))
  /-- streams 0x01 to 0x03 whose open burst tCAR_FLUSH has closed -/
  flush : List Nat
  cur   : Option OutBurst
  /-- next burst sequence per stream (R472) -/
  seqs  : Tab Nat
  /-- the 64 bytes of the last block sent (R468); none while the output is off -/
  tx    : List (BitVec 8)
  rx    : Option InBurst
  /-- DATA blocks that follow an invalid HEAD are dropped -/
  skip  : Bool
  /-- complete blobs of input streams 0x90 to 0x9F -/
  held  : Tab (Option (List (BitVec 8)))
  /-- stream 0x81 is armed by CARAVAN_FW_RECEIVE (R487) -/
  armed : Bool
  deriving DecidableEq, Repr

def CarSt.reset : CarSt :=
  { align := 0, tel := [], dump := none, blobs := [], flush := [], cur := none, seqs := [], tx := [], rx := none,
    skip := false, held := [], armed := false }

/-! ### Bays -/

/-- What a bay channel is in the middle of, beyond BAY_STATUS (R550 to R567, R580). -/
structure BayRt where
  /-- the running start is a retry (R573) -/
  retry : Bool
  /-- a power cycle will power the bay on again tSTABLE after its power-off -/
  cycle : Bool
  /-- a PERST# pulse runs -/
  pulse : Bool
  /-- tPGQ runs unbroken (R553) -/
  qual  : Bool
  /-- step 2 of a managed power-off has turned the gates off (R567) -/
  gatesOff : Bool
  /-- SWITCH: the new feed, none when the old feed's gates are off for WAIT; and whether its gate is driven directly -/
  toFeed : Option Bool
  direct : Bool
  /-- SWITCH left PRECHARGE, RAMP or QUALIFY, so the 80 % test leads to RAMP (R571) -/
  ramp   : Bool
  deriving DecidableEq, Repr

def BayRt.reset : BayRt :=
  { retry := false, cycle := false, pulse := false, qual := false, gatesOff := false, toFeed := none, direct := false, ramp := false }

/-- The bay buses (R572): the control byte last written to each bus switch, and the transfer whose clock line is held
low: its bay and the command that waits for it. -/
structure BusSt where
  switch : Tab Nat
  hung   : Tab (Option (Fin 32 × Transport × Hdr))
  deriving DecidableEq, Repr

def BusSt.reset : BusSt := { switch := [], hung := [] }

end Sys2Proof.Machine
end

