-- ==== Sys2Proof/Machine/StateSw.lean ====
section
/-!
DEFINITION. The state of the ingress pipeline, the crossbar, the shared buffers and the egress queues (chapters 01, 05,
06), outside the register file.
-/

namespace Sys2Proof.Machine

/-- Why stages 1 to 3 answer a message themselves. -/
inductive Why where
  /-- a route miss (R170) -/
  | miss
  /-- an Unsupported Request completion (R405, R411, R412) -/
  | ur
  /-- a malformed message (R187, R201) -/
  | malformed
  /-- a write under an entry without WRITABLE (R365) -/
  | access
  /-- a bad write to BAR 2 (R405) -/
  | badMca
  /-- a request of the C64's own that has no route: the lost-target answer (R170) -/
  | lost
  /-- a host's request that only an uncached one may take the place of (R263, R285) -/
  | uncached
  deriving DecidableEq, Repr

/-- Where a routed message goes (R167, R168). -/
inductive Dest where
  /-- an egress port of this C64 -/
  | port (p : Fin 64)
  /-- every member copy of a multicast group (R188) -/
  | mcast (g : BitVec 12)
  /-- the home tollgate (R16) -/
  | slice (t : Fin 8) (uncached : Bool)
  /-- a fold's engine (R17) -/
  | fold (f : Fin 512)
  /-- one of the C64's own functions -/
  | own (fn : BitVec 8)
  /-- a configuration register of the C64 -/
  | cfg (r : CfgReg)
  /-- the window device's back-invalidation enable (R263) -/
  | biEn (on : Bool)
  /-- answered at stage 3 -/
  | answer (w : Why)
  deriving DecidableEq, Repr

/-- One slot of a message in the core pipeline, from stage 1 to its commit (R22 to R26). -/
structure PSlot where
  id   : Nat
  /-- the flit that carries it, as the ingress link layer numbers it -/
  flit : Nat
  /-- the crossbar outputs whose grant it waits for (R15, R17) -/
  want : List Nat
  /-- the flit CRC verdict has passed -/
  crc  : Bool
  /-- it has committed (R25) -/
  done : Bool
  deriving DecidableEq, Repr

/-- What stage 3 found for a message that a policer entry owns (R233, R236): it proceeds, it has a place in the hold queue,
or it waits at its ingress for one. -/
inductive Gate where
  | go | held | full
  deriving DecidableEq, Repr

/-- A message in the core pipeline with the slots of it that have been released (R22, R177). -/
structure PMsg where
  port : Fin 64
  /-- its release number at its port (R406) -/
  rel  : Nat
  /-- the message -/
  m    : Msg
  /-- its destination (R167) -/
  dest : Dest
  /-- the egress queue resolved at stage 3 (R218) -/
  q    : Nat
  /-- a per-source sequence was assigned in stage 1 (R26) -/
  seqd : Bool
  /-- its crossbar request carries class 7 traffic (R31) -/
  cls7 : Bool
  /-- header-early I/O (R178) -/
  heIo : Bool
  /-- the egress slot and link credit of stage 4 are reserved (R22) -/
  resv : Bool
  /-- the directory look-up of stage 4 has been issued (R22, R281) -/
  look : Bool
  /-- the policer entry that owns it, and what stage 3 found -/
  pol  : Option Nat
  gate : Gate
  /-- it breaks R263, to be logged at its commit (R285) -/
  viol : Bool
  /-- slots of the message not yet released (R177) -/
  more : Nat
  /-- its slots released so far -/
  slots : List PSlot
  /-- its ECRC fails (R91) -/
  ecrc : Bool
  deriving DecidableEq, Repr

/-- The number of a message in the pipeline: that of its first slot. -/
def PMsg.id (x : PMsg) : Nat := (x.slots.head?.map (·.id)).getD 0

/-- A message past stage 3, and where it stands: in a hold queue, or waiting for its crossbar grant or for admission to its
egress buffer (R181, R182). `ing` is its ingress port, none for a message the C64 itself originates. -/
structure Staged where
  ing  : Option (Fin 64)
  dest : Dest
  m    : Msg
  /-- release number at its ingress port (R406) -/
  rel  : Nat
  /-- the answer of a squash, which the generation check lets pass (R376, R378) -/
  squash : Bool := false
  /-- the number of its first slot -/
  id   : Nat := 0
  /-- the egress queue resolved at stage 3 (R218) -/
  q    : Nat := 0
  /-- the tile whose crossbar input carries it, and the outputs whose grant it waits for (R15, R16) -/
  tile : Fin 8 := 0
  want : List Nat := []
  /-- in a hold queue: its last slot has not committed -/
  spec : Bool := false
  /-- it holds its cells of the destination tile's buffer (R235) -/
  celled : Bool := false
  /-- the reservation of stage 4 is held (R22, R178) -/
  resv : Bool := false
  deriving DecidableEq, Repr

/-- A message in an egress queue. `mc` names the stored multicast copy it refers to (R190). -/
structure QMsg where
  m    : Msg
  ing  : Option (Fin 64)
  rel  : Nat
  mc   : Option Nat
  /-- admission number, for the order of side buffer heads (R401) -/
  adm  : Nat
  /-- FTC at its admission, for its age (R244) -/
  since : BitVec 64
  /-- it has been counted as deferred to a later gate window -/
  deferred : Bool
  /-- a link-down returned it to its queue after it had been sent (R196, R589) -/
  again : Bool := false
  deriving DecidableEq, Repr

/-- The run-time state of an egress queue (R221 to R231): its messages, the blocks already sent from its head
cell (R180) and whether that cell is to be retired once freed (R184), its bucket in 1/256 byte, its start tag with V at
the moment the tag was last set, the stale mark of R225, and whether it was eligible at its last evaluation (R224). -/
structure Queue where
  msgs   : List QMsg
  headOff : Nat
  bad    : Bool
  tokens : Int
  start  : BitVec 32
  setAt  : BitVec 32
  stale  : Bool
  elig   : Bool
  deriving DecidableEq, Repr

/-- An empty queue with a full bucket of the default size. -/
def Queue.empty : Queue := 
  { msgs := [], headOff := 0, bad := false, tokens := 0x240 * 256, start := 0, setAt := 0, stale := false, elig := false }

/-- A policer's buckets in 1/256 byte, and its hold queue with whether its head has been metered (R232 to R237). -/
structure Pol where
  tc   : Nat
  tp   : Nat
  hold : List Staged
  metered : Bool
  deriving DecidableEq, Repr

/-- A shaper setting that waits for the next refill (R230). -/
structure PendShaper where
  en    : Bool
  rate  : Nat
  burst : Nat
  deriving DecidableEq, Repr

/-- A policer setting that waits for the next refill (R237). -/
structure PendPol where
  en : Bool
  aware : Bool
  holdMax : Option Nat
  cir : Nat
  pir : Nat
  cbs : Nat
  pbs : Nat
  deriving DecidableEq, Repr

/-- A stored multicast message in a tile (R190, R191). -/
structure McCopy where
  id     : Nat
  tile   : Fin 8
  group  : BitVec 12
  gseq   : BitVec 32
  cells  : Nat
  /-- ports whose copy still waits -/
  waiting : List (Fin 64)
  /-- a copy has been sent -/
  started : Bool
  /-- FK_MCAST_STRAGGLER_AGE has been logged for it -/
  aged   : Bool
  /-- a cell of it is to be retired once freed (R184) -/
  bad    : Bool := false
  deriving DecidableEq, Repr

/-- A pending gate list, with the FTC at its acceptance (R241). -/
structure GateList where
  cycle : Nat
  base  : BitVec 64
  ents  : List (Nat × BitVec 8)
  since : BitVec 64
  deriving DecidableEq, Repr

/-- A message handed to the egress link layer of a port, with the queue it left. -/
structure Handed where
  port : Fin 64
  q    : Nat
  x    : QMsg
  deriving DecidableEq, Repr

/-- Who waits for cells of an auxiliary partition (R76). -/
inductive AuxFn where
  | straggler | blend | telemetry
  deriving DecidableEq, Repr

/-- The state of the switch core and the scheduler. -/
structure SwSt where
  /-- the core pipeline: messages with slots that have not committed, in the order of their release -/
  pipe   : List PMsg
  /-- messages that wait for the crossbar or for admission, in the order in which they came to wait -/
  staged : List Staged
  /-- crossbar: last winner per output, for the rotating pointer (R31) -/
  xptr   : Tab Nat
  /-- the egress queues, by their number (R218) -/
  queues : Tab (Option Queue)
  /-- the policer entries with their hold queues (R232, R235) -/
  pols   : Tab (Option Pol)
  /-- the stored multicast copies (R189) -/
  mc     : List McCopy
  /-- the gate list of each port (R241) -/
  gates  : Tab (Option GateList)
  /-- current gate entry per port -/
  gateCur : Tab Nat
  /-- per port, the service classes that R242 treats as always open, as a mask -/
  gateForced : Tab Nat
  /-- per port, the rotating pointer of class 7 (R222) -/
  c7ptr  : Tab Nat
  /-- settings that wait for the next refill (R230, R237, R254) -/
  pendSh : Tab (Option PendShaper)
  pendPol : Tab (Option PendPol)
  pendRefill : Option Nat
  /-- byte rates last given: key queue, and 2^20 + 2i for CIR, 2^20 + 2i + 1 for PIR of policer i (R254) -/
  rates  : Tab Nat
  /-- histograms: key queue × 32 + bin (R244) -/
  hist   : Tab Nat
  /-- per source edge ID: next per-source sequence (R47, R48) -/
  sseq   : Tab Nat
  /-- requests handed to each port's partner and not answered: key port -/
  outst  : Tab (List Msg)
  /-- requests of each port's partner that were answered as lost: a later response is discarded (R174, R199) -/
  lost   : Tab (List Msg)
  /-- the number of the next slot: the model's own count -/
  nextId : Nat
  /-- the number of the next admission: the model's own count -/
  nextAdm : Nat
  deriving DecidableEq, Repr

def SwSt.reset : SwSt :=
  { pipe := [], staged := [], xptr := [], queues := [], pols := [], mc := [], gates := [], gateCur := [], gateForced := [], c7ptr := [],
    pendSh := [], pendPol := [], pendRefill := none, rates := [], hist := [],
    sseq := [], outst := [], lost := [], nextId := 0, nextAdm := 0 }

end Sys2Proof.Machine
end

