-- ==== Sys2Proof/Machine/StateCoh.lean ====
section
/-!
DEFINITION. The state of the directory slices, tollgates and Blend engines (chapters 07 to 09).
-/

namespace Sys2Proof.Machine

/-- Directory states (R269). -/
inductive DSt where
  | u | s | f | x | b
  deriving DecidableEq, Repr

/-- A directory entry (R268). `sharers` bit n: host index n may hold the line. An unlisted way reads as `Entry.free`. -/
structure Entry where
  tag     : Nat
  st      : DSt
  owner   : Nat
  sharers : BitVec 64
  poison  : Bool
  inst    : Option (Fin 1024)
  age     : Nat
  trk     : Nat
  deriving DecidableEq, Repr

/-- A free way: state U, no mark. -/
def Entry.free : Entry :=
  { tag := 0, st := .u, owner := 0, sharers := 0, poison := false, inst := none, age := 0, trk := 0 }

/-- An operation at a tollgate input: the message, the host index that the rotating pointer uses, the host when the
requester is a host attached to this C64 (none: another C64, or this C64's own Blend engine), the source tile, whether
R263 allows only uncached requests, and whether it is a Blend result write of (fold, line). -/
structure TOp where
  m     : Msg
  host  : Nat
  local_ : Bool
  tile  : Nat
  uncached : Bool
  fold  : Option (Nat × Nat)
  deriving DecidableEq, Repr

/-- What a parked request waits for: its line, or a way of its set (R280, R282). -/
inductive ParkOn where
  | line (l : Nat) | set (s : Nat)
  deriving DecidableEq, Repr

/-- What a tracker works for. -/
inductive TrkJob where
  /-- a request of lane P or Q, or a write with holders to invalidate -/
  | demand
  /-- a run-ahead prefetch (R312) -/
  | prefetch
  /-- invalidation without a request: flush, revoke, destroy, freeze, quota eviction, mark placement (R295, R310, R369) -/
  | flush
  deriving DecidableEq, Repr

/-- A capacity eviction under a tracker (R282): the victim's entry key, its line, its entry before, and the hosts whose
back-invalidates are outstanding. -/
structure Evict where
  key    : Nat
  line   : Nat
  before : Entry
  bi     : List Nat
  deriving DecidableEq, Repr

/-- A running transaction (R275 to R282). -/
structure Trk where
  id     : Nat
  line   : Nat
  job    : TrkJob
  op     : TOp
  stamp  : BitVec 64
  /-- the entry's key while the line holds a way -/
  key    : Option Nat
  /-- the entry before the transaction, and its holders as the responses so far leave them (R298) -/
  before : Entry
  /-- hosts with a back-invalidate outstanding, and hosts and lines whose late response is owed (R300) -/
  bi     : List Nat
  owed   : List (Nat × Nat)
  /-- the responder a FWD_SNP waits for -/
  fwd    : Option Nat
  /-- a FWD_NACK has been taken -/
  nacked : Bool
  /-- a capacity eviction runs, or one still has to be chosen -/
  evict  : Option Evict
  needWay : Bool
  /-- a read of the target is outstanding -/
  reading : Bool
  /-- the request still has to obtain data, and the data once there, with its poison -/
  needData : Bool
  data   : Option (BitVec 512 × Bool)
  /-- the request has been answered; the tracker only absorbs what is owed -/
  done   : Bool
  /-- the instance's directory quota is used up: a victim of the instance is being searched (R369) -/
  quota  : Bool
  /-- the demand read timed out: the requester is not added (R319) -/
  noAdd  : Bool
  /-- a writeback of a host with a back-invalidate outstanding has joined (R299, R306) -/
  crossed : Bool := false
  deriving DecidableEq, Repr

/-- A writeback slot (R278): the line, its data and enables, whether the target write is outstanding, and whom it
belongs to. `through`: a poison write-through of R307. `spill`: its way is freed when the write completes (R310). -/
structure Wb where
  id     : Nat
  line   : Nat
  data   : BitVec 512
  be     : BitVec 64
  poison : Bool
  through : Bool
  spill  : Bool
  host   : Nat
  inst   : Option (Fin 1024)
  fold   : Option (Nat × Nat)
  deriving DecidableEq, Repr

/-- A response on lane R: from a host (back-invalidate response, FWD_DATA, FWD_NACK) or from a target. -/
structure RIn where
  host : Option Nat
  /-- the ingress port it arrived at -/
  port : Nat
  /-- the response -/
  m    : Msg
  /-- the line that it is about -/
  line : Nat
  deriving DecidableEq, Repr

/-- A directory slice and its tollgate. -/
structure Slice where
  /-- lane inputs: writes, requests, responses -/
  w      : List TOp
  q      : List TOp
  r      : List RIn
  /-- parked requests, oldest first (waybills, at most 256) -/
  parked : List (ParkOn × TOp)
  /-- the re-injected head of lane P, which keeps its waybill until accepted -/
  p      : List TOp
  /-- the trackers in use (R275) -/
  trks   : List Trk
  /-- the writeback slots in use (R278) -/
  wbs    : List Wb
  /-- poison write-throughs that wait for a writeback slot: line, and whether the write is a spill (R278, R307, R310) -/
  thru   : List (Nat × Bool)
  /-- requests that timed out: a later target completion is discarded without a log (R319) -/
  late   : List Nat
  /-- prefetch buffer lines and hints (R311, R314) -/
  pf     : List (Nat × BitVec 512)
  hints  : List Nat
  /-- marks waiting for a way (R310): line, and the lines whose spill has been tried for it -/
  marks  : List (Nat × List Nat)
  /-- the next row of the scrub (R315) -/
  scrub  : Nat
  /-- the quota cursor (R369): set × 16 + way -/
  cursor : Nat
  deriving DecidableEq, Repr

def Slice.empty : Slice :=
  { w := [], q := [], r := [], parked := [], p := [], trks := [], wbs := [], thru := [], late := [], pf := [], hints := [],
    marks := [], scrub := 0, cursor := 0 }

/-- A background walk that back-invalidates lines (R295, R322, R380). -/
inductive WalkWhy where
  | flush (host : Option (Fin 64)) (window : Option (Fin 256))
  | destroy (window : Fin 256)
  | revoke (port : Fin 64) (g : Fin 32) (lo hi : Nat)
  | clear (window : Fin 256) (lo n : Nat)
  | dead (host : Fin 64)
  | freeze (i : Fin 1024)
  | quota (i : Fin 1024)
  deriving DecidableEq, Repr

/-- A walk in progress: the entries it has still to visit, and the count its report carries. -/
structure Walk where
  why   : WalkWhy
  left  : List Nat
  count : Nat
  deriving DecidableEq, Repr

/-- The coherence state outside the register file. -/
structure CohSt where
  /-- the directory arrays: key (slice × 262144 + set) × 16 + way -/
  dir    : Tab Entry
  /-- slices: slice number to its tollgate -/
  slices : Tab Slice
  /-- host answers held at their ingress port behind earlier writes, with their release number (R297) -/
  held   : List (Nat × Nat × Msg)
  /-- BIConflict messages waiting for their acknowledgement (R301): port and line -/
  conflicts : List (Nat × Nat)
  /-- host ports whose window device has back-invalidation enabled (R263) -/
  biEn   : BitVec 64
  /-- ports that a dead-agent declaration took down and that wait for the walk (R323) -/
  deadDown : BitVec 64
  /-- the directory walks that run (R295, R322, R380) -/
  walks  : List Walk
  /-- windows being destroyed (R295) -/
  destroying : List Nat
  /-- line addresses of poison marks that the keep set carries (R41) -/
  keepMarks : List Nat
  /-- lines whose mark has a completed write-through (R310) -/
  durable : List Nat
  /-- writeback slot tags kept across a warm reset (R325) -/
  keepTags : List Nat
  deriving DecidableEq, Repr

def CohSt.reset : CohSt :=
  { dir := [], slices := [], held := [], conflicts := [], biEn := 0, deadDown := 0, walks := [], destroying := [],
    keepMarks := [], durable := [], keepTags := [] }

/-- The run-time state of a fold beyond its entry words (R342, R346). -/
structure FoldRt where
  /-- per line: ranks combined so far -/
  cnt    : Tab Nat
  /-- per line: accumulator and its poison -/
  acc    : Tab (BitVec 512 × Bool)
  /-- staged blocks, keyed line × 64 + rank -/
  staged : Tab (Option (BitVec 512 × Bool))
  /-- rank and line pairs written in this epoch, keyed line × 64 + rank -/
  written : Tab Bool
  /-- lines for which FK_BLEND_POISON has been logged in this epoch -/
  poisLog : Tab Bool
  /-- result writes issued and not yet completed: lines -/
  writing : List Nat
  /-- contributions held at their ingress for staging space or for the rearm (R77, R346, R351) -/
  held   : List Staged
  /-- cells allocated from the auxiliary partition -/
  cells  : Nat
  /-- its tile was fenced on the edge on which it entered DONE: it does not reopen (R351, R355) -/
  stays  : Bool
  deriving DecidableEq, Repr

def FoldRt.empty : FoldRt :=
  { cnt := [], acc := [], staged := [], written := [], poisLog := [], writing := [], held := [], cells := 0, stays := false }

/-- The Blend engines: contributions waiting at each engine, and the folds' run-time state. -/
structure BldSt where
  folds : Tab FoldRt
  /-- requests to fold windows that have reached the engine: fold and message, with the ingress whose credit it holds -/
  inq   : List (Nat × Staged)
  deriving DecidableEq, Repr

def BldSt.reset : BldSt := { folds := [], inq := [] }

end Sys2Proof.Machine
end

