-- ==== Sys2Proof/Machine/StateIns.lean ====
section
/-!
DEFINITION. The state of the tenant instances outside their entries (chapter 10).
-/

namespace Sys2Proof.Machine

/-- A request of an instance from its admission until its response is queued toward the host (R367): the instance, the
request as admitted, and whether it has been squashed (R376). -/
structure InsReq where
  inst : Nat
  m    : Msg
  squashed : Bool
  deriving DecidableEq, Repr

/-- A save in progress, or one that waits for the hold queue to empty (R382): whether it goes by Caravan, the blob, how
far its chunks have been read, and the request that waits with its offset. -/
structure Save where
  caravan : Bool
  blob    : List (BitVec 8)
  got     : Nat
  wait    : Option (Transport × Hdr × Nat)
  deriving DecidableEq, Repr

/-- An entry of a window device's event log: the host port, the instance, its VF and its aperture (R370). -/
structure InsEvent where
  host : Nat
  inst : Nat
  vf   : Nat
  base : Nat
  size : Nat
  deriving DecidableEq, Repr

/-- A restore whose chunks are still arriving (R384, R397): the request's first 24 payload bytes and the bytes so far. -/
structure Restore where
  head  : List (BitVec 8)
  bytes : List (BitVec 8)
  deriving DecidableEq, Repr

structure InsSt where
  out      : List InsReq
  /-- resets that answer a waiting INSTANCE_RESET (R375): instance, transport, header, and requests squashed so far -/
  resets   : List (Nat × Transport × Hdr)
  /-- requests squashed in the running reset of an instance -/
  squashed : Tab Nat
  /-- lines back-invalidated in the running freeze of an instance -/
  flushed  : Tab Nat
  /-- instances whose freeze ends in FREE (R386) -/
  destroy  : List Nat
  saves    : Tab (Option Save)
  restores : Tab (Option Restore)
  /-- VF state restored from a blob, 256 bytes (R383) -/
  vf       : Tab (List (BitVec 8))
  /-- instances whose held head waits for a quota (R368) -/
  waiting  : List Nat
  /-- the event logs of the window devices (R370) -/
  evlog    : List InsEvent
  deriving DecidableEq, Repr

def InsSt.reset : InsSt :=
  { out := [], resets := [], squashed := [], flushed := [], destroy := [], saves := [], restores := [], vf := [],
    waiting := [], evlog := [] }

end Sys2Proof.Machine
end

