-- ==== Sys2Proof/Machine/StateLink.lean ====
section
/-!
DEFINITION. The state of a port outside the register file: its link, its layover, its identity reference, its bridge
counts and events, and its interlink session (chapters 03, 04, 11).
-/

namespace Sys2Proof.Machine

/-- An event that waits for its source's earlier messages (R406, R407). -/
inductive EvWhat where
  /-- a change of a virtual wire of a target -/
  | intx (pin : Fin 4) (set : Bool)
  /-- presence and link change bits of a vPPB, with its hot-plug interrupt -/
  | hotplug (host : Fin 64) (v : Fin 32)
  /-- an error message of the target, or a closed error (R416) -/
  | err (sev : Fin 3)
  /-- an event record to the FM -/
  | record (code : Nat) (unit : Nat) (data : BitVec 32) (hi : BitVec 64)
  deriving DecidableEq, Repr

structure Ev where
  stamp : Nat
  what  : EvWhat
  deriving DecidableEq, Repr

/-- A port outside the register file. -/
structure PortRt where
  /-- the link is up -/
  up      : Bool
  /-- a layover window runs, and the identity it waits for (R194, R106) -/
  layover : Bool
  ref     : Option (BitVec 64)
  /-- the bridge's counts (R406): REL, DONE, and messages completed beyond DONE -/
  rel     : Nat
  done    : Nat
  beyond  : List Nat
  /-- events of this source not yet delivered, oldest first -/
  events  : List Ev
  /-- virtual wires of a target port, and the OR sent to a host port (R408) -/
  wires   : BitVec 4
  /-- side buffers of ION and IOC (R401), oldest first, with the queue each message left -/
  sideNp  : List (Nat × QMsg)
  sideCpl : List (Nat × QMsg)
  /-- the IDE keys held: bits 0 and 1 of key set 0, transmit and receive, bits 2 and 3 of key set 1 (R93, R95) -/
  ideKeys : BitVec 4
  /-- an L0p change is pending, with the width code asked for (R99) -/
  l0p     : Option (BitVec 3)
  /-- a retrain started by LINK_RETRAIN named this rate (R98) -/
  named   : Option (BitVec 3)
  /-- CXL.cache and CXL.mem IDE runs in containment mode (R118) -/
  contain : Bool
  /-- a port reset since the port was last up (R407) -/
  wasReset : Bool
  /-- slot positions filled in the flit that a standard port is sending, and whether one carries a message (R589) -/
  fill    : Nat
  fillMsg : Bool
  /-- IDE integrity failed: only a new SPDM session brings the port up (R95) -/
  ideLost : Bool
  /-- the request object that the DOE mailbox of the port's upstream switch port holds (R92) -/
  doe     : Option DoeProto
  /-- the messages per internal class for which the egress link of a standard port has credit, as it last offered it, less
  what selections have taken since (R221, R222) -/
  link    : List Nat
  deriving DecidableEq, Repr

def PortRt.reset : PortRt :=
  { up := false, layover := false, ref := none, rel := 0, done := 0, beyond := [], events := [], wires := 0,
    sideNp := [], sideCpl := [], ideKeys := 0, l0p := none, named := none, contain := false, wasReset := false,
    fill := 0, fillMsg := false, ideLost := false, doe := none, link := [0, 0, 0, 0, 0, 0, 0, 0] }

/-- Hot-plug state of a vPPB beyond its binding entry (R173, R174, R407). -/
structure VppbRt where
  /-- presence detect changed and data link state changed, as the host reads them -/
  pdc  : Bool
  dlsc : Bool
  /-- an attention request of a managed remove has been signalled -/
  attn : Bool
  /-- a pending unbind: its mode -/
  unbind : Option (Fin 3)
  /-- its type 1 header as the host programs it (R172): command, bus numbers, memory and prefetchable ranges with the upper
  words of the latter -/
  cmd    : BitVec 32
  bus    : BitVec 32
  mem    : BitVec 32
  pref   : BitVec 32
  prefBase : BitVec 32
  prefLimit : BitVec 32
  deriving DecidableEq, Repr

def VppbRt.reset : VppbRt :=
  { pdc := false, dlsc := false, attn := false, unbind := none, cmd := 0, bus := 0, mem := 0, pref := 0, prefBase := 0, prefLimit := 0 }

/-- The device lock token (R410 to R413). -/
structure Lock where
  level  : Nat
  /-- the locked function at level 1; none for registers of the host's own -/
  fn     : Option (BitVec 8)
  /-- the host port that holds the token -/
  holder : Fin 64
  /-- the port of the locked target -/
  target : Fin 64
  /-- the FTC at the grant -/
  since  : BitVec 64
  /-- the MRdLk while it waits to be forwarded to the target (R412) -/
  toFwd  : Option Staged
  deriving DecidableEq, Repr

/-- A completion tracker (R414): tile, requester edge and tag, and target port. -/
structure CplTrk where
  tile : Fin 8
  src  : BitVec 12
  tag  : BitVec 16
  port : Fin 64
  m    : Msg
  /-- its completion has arrived -/
  got  : Bool
  deriving DecidableEq, Repr

/-- The bridge outside the ports. -/
structure BrgSt where
  lock    : Option Lock
  /-- MRdLk requests that wait for the token, in order of arrival -/
  waiters : List Staged
  trks    : List CplTrk
  /-- requests whose trackers ended with a Completer Abort: a later completion is discarded and counted (R413, R415) -/
  late    : List CplTrk
  vppb    : Tab VppbRt
  /-- former holders whose late Unlock is ignored and counted (R413) -/
  former  : List (Fin 64)
  deriving DecidableEq, Repr

def BrgSt.reset : BrgSt := { lock := none, waiters := [], trks := [], late := [], vppb := [], former := [] }

/-- A retrain in progress or asked for (R144, R145). -/
structure Retrain where
  reason : BitVec 8
  width  : BitVec 3
  /-- this end has asked and waits for RETRAIN_ACK -/
  asking : Bool
  /-- in PAUSE: 0 TRAIN, 1 LOCK, 2 PARAM -/
  phase  : Nat
  /-- failed attempts in a row -/
  tries  : Nat
  deriving DecidableEq, Repr

/-- The session state of an interlink port (R130 to R148). -/
structure IlRt where
  txNext  : BitVec 12
  /-- last sequence acknowledged by the partner -/
  acked   : BitVec 12
  /-- the replay buffer: unacknowledged flits in sequence order, with their resend counts -/
  replay  : List (IlFlit × Nat)
  /-- sequences queued to be resent, in order -/
  resend  : List (BitVec 12)
  rxExp   : BitVec 12
  /-- the reorder buffer -/
  rob     : List IlFlit
  /-- sequences still to be named, and named and still missing (R134) -/
  toName  : List (BitVec 12)
  named   : List (BitVec 12)
  /-- the next NAK is a go-back-N for rx_expected (R136) -/
  sendGbn : Bool
  /-- per channel, VC0 to VC5: slots sent, returned by the partner, limit, freed here -/
  sent    : List Nat
  returned : List Nat
  limit   : List Nat
  freed   : List Nat
  /-- per channel, slots freed here whose credit has not been given back yet (R36, R236) -/
  owed    : List Nat
  /-- slots held in the receive pool per channel, and the pool sizes of this session (R129) -/
  occ     : List Nat
  pools   : List Nat
  /-- next channel whose credit count a header carries -/
  crVc    : Nat
  /-- slots handed over by the scheduler and waiting for a flit -/
  txq     : List IlSlot
  /-- the message in progress per channel at the receiver, and its slots so far (R127) -/
  open_   : List Nat
  openM   : List (Option Msg)
  /-- control bodies waiting to be sent -/
  ctrlq   : List IlCtrl
  /-- an acknowledgement is owed soon (R133) -/
  ackSoon : Bool
  /-- the partner's PARAM body, and whether PARAM_ACK was received, agrees to resume, and is being sent -/
  peer    : Option IlParam
  ackRx   : Bool
  ackResume : Bool
  ackTx   : Bool
  /-- PEER_MISMATCH already logged for this link-down (R141) -/
  peerLogged : Bool
  retrain : Option Retrain
  /-- the partner's identity at link-down, for a resume (R142) -/
  sessionIdent : Option (BitVec 64)
  /-- t1 of the TIME_REQ sent and its request ID (R148) -/
  timeReq : Option (BitVec 16 × BitVec 64)
  timeId  : BitVec 16
  /-- its PARAM of this exchange was refused for its node ID (R141) -/
  peerBad : Bool
  /-- the quads equalised at this end, and those in use (R140) -/
  quads   : BitVec 4
  used    : BitVec 4
  /-- slots released by the link that the port cannot release to the core yet (R35, R406) -/
  wait    : List IlSlot
  /-- null slots owed in place of cancelled reservations (R28, R589) -/
  nulls   : Nat
  deriving DecidableEq, Repr

def IlRt.reset : IlRt :=
  { txNext := 0, acked := 4095, replay := [], resend := [], rxExp := 0, rob := [], toName := [], named := [],
    sendGbn := false, sent := [0, 0, 0, 0, 0, 0], returned := [0, 0, 0, 0, 0, 0], limit := [0, 0, 0, 0, 0, 0],
    freed := [0, 0, 0, 0, 0, 0], owed := [0, 0, 0, 0, 0, 0], occ := [0, 0, 0, 0, 0, 0], pools := [0, 0, 0, 0, 0, 0], crVc := 0, txq := [],
    open_ := [0, 0, 0, 0, 0, 0], openM := [none, none, none, none, none, none], ctrlq := [], ackSoon := false, peer := none,
    ackRx := false, ackResume := false, ackTx := false, peerLogged := false, retrain := none, sessionIdent := none, timeReq := none, timeId := 0,
    peerBad := false, quads := 0, used := 0, wait := [], nulls := 0 }

end Sys2Proof.Machine
end

