-- ==== Sys2Proof/Machine/StatePwr.lean ====
section
/-!
DEFINITION. The state of Butre's rail sequencer, wake logic and cellar, of the mode machine, and of the pins they see
(chapters 01, 02, 15).
-/

namespace Sys2Proof.Machine

/-- Where a Standby entry stands (R41). -/
inductive StdPhase where
  | drain | walks | poison | modeReq
  deriving DecidableEq, Repr

/-- A mode transition in progress (R44, R45): its target mode code, its rank, and, on the way to Standby, its phase. -/
structure Trans where
  target : Nat
  rank   : Nat
  std    : Option StdPhase
  deriving DecidableEq, Repr

/-- What the rail sequencer is doing (R523 to R527). -/
inductive Seq where
  | idle
  /-- MODE_REQ is set: the processor's WFI is awaited -/
  | entry
  /-- the save engine copies the keep set -/
  | saving
  /-- channels are disabled in decreasing order; `failed` says that a wake attempt has failed -/
  | down (failed : Bool)
  /-- VR_EN of a channel is up: its power-good is awaited, or, once that has risen, the step after it -/
  | up (ch : Nat) (good : Bool)
  /-- the core PLL's lock is awaited -/
  | pll
  /-- the keep set is being restored -/
  | restore
  /-- the next ACLK edge finishes the wake -/
  | finish
  /-- a failed attempt waits for tRETRY -/
  | retry
  deriving DecidableEq, Repr

/-- A latched wake source (R533): the bits of PWR_WAKE_SOURCE, the lowest bay and the lowest timer. -/
structure WakeSrc where
  sources : Nat
  bay     : Nat
  timer   : Nat
  deriving DecidableEq, Repr

/-- The keep set image in the cellar (R528): the register fields of the keep set, the byte rates given to the policers,
and the line addresses of poison marks (R41). DESIGN CHOICE, safe: log entry 61. -/
structure KeepImg where
  regs  : Tab Nat
  rates : Tab Nat
  marks : List Nat
  deriving DecidableEq, Repr

/-- The control record of the cellar (R529), of which two copies are kept: grant counts per slice and the next device
sequence. The entry pair stands beside it in `PwrSt.pair`. -/
structure CtlRec where
  grants : List Nat
  seq    : BitVec 40
  deriving DecidableEq, Repr

structure PwrSt where
  /-- pins: SYS_RESET# asserted, PERST_IN# asserted, TEST_EN -/
  sysRst : Bool
  perst  : Bool
  testEn : Bool
  /-- the strap balls as last latched (R604) -/
  straps : BitVec 7
  /-- ALERT# driven low by Standby-Held (R525) -/
  alert  : Bool
  seqr   : Seq
  /-- a wake source latched and not yet acted on (R42, R524) -/
  latched : Option WakeSrc
  /-- failed attempts of the running wake -/
  fails  : Nat
  /-- rails were lost with the fabric die on since the last wake (R40, R606 code 0x3) -/
  lost   : Bool
  /-- a wake follows tRETRY after a rail loss with RAIL_RESTART (R531) -/
  restart : Bool
  /-- no Bring-up has loaded the bay parameters since the cold reset (R570) -/
  fresh  : Bool
  trans  : Option Trans
  /-- FTC at the last mode change (GLB_MODE_FTC) -/
  modeFtc : BitVec 64
  /-- the entry pair of R61, and whether ACLK ran on the RC oscillator since -/
  pair   : Option (BitVec 64 × BitVec 48)
  rcSince : Bool
  keep   : Option KeepImg
  /-- the image in the cellar is not valid (R538) -/
  keepBad : Bool
  ctl    : CtlRec
  /-- WAKE_RECORD: AOC at entry, AOC at wake, FTC loaded -/
  wakeRec : BitVec 48 × BitVec 48 × BitVec 64
  /-- the wake restored a keep set: the boot applies it, not the parameters (R429) -/
  wakeBoot : Bool
  /-- the tiles' self-test of this Bring-up has been judged (R641) -/
  tested : Bool
  /-- the failure of this Bring-up to find a reference clock or a good tile has been logged (R19, R40) -/
  mtfLogged : Bool
  /-- the kept directory of this Bring-up has been reconciled (R325) -/
  reconciled : Bool
  /-- FTC pulses output and FTC values captured per GPIO (R74) -/
  pulses : Tab Nat
  captures : Tab (BitVec 64)
  /-- with the fabric die off: the level that each GPIO output holds (1 low, 2 high), and the GPIOs that Butre senses (R610) -/
  gpioHeld : Tab Nat
  gpioWake : BitVec 16
  /-- lost reference clocks: bits 0 to 7, all tiles -/
  refLost : BitVec 8
  deriving DecidableEq, Repr

/-- Butre at VAUX power-on: the rails are off; the pins are low or asserted (log entry 11).
DESIGN CHOICE, unsafe: log entry 11. -/
def PwrSt.reset : PwrSt :=
  { sysRst := false, perst := true, testEn := false, straps := 0, alert := false, seqr := .idle, latched := none, fails := 0,
    lost := false, restart := false, fresh := true, trans := none, modeFtc := 0, pair := none, rcSince := false, keep := none,
    keepBad := false, ctl := { grants := [0, 0, 0, 0, 0, 0, 0, 0], seq := 0 }, wakeRec := (0, 0, 0), wakeBoot := false, tested := false,
    mtfLogged := false, reconciled := false, pulses := [], captures := [], gpioHeld := [], gpioWake := 0, refLost := 0 }

end Sys2Proof.Machine
end

