-- ==== Sys2Proof/Machine/Dev.lean ====
section
/-!
DEFINITION. The device's state, all but the queue of waiting commands: the register file, the counters, the clocks, the
mode and the run-time state of each subsystem.
-/

namespace Sys2Proof.Machine

/-- Major modes (R34), in their code order. -/
inductive Mode where
  | standby | bringUp | service | degraded | quiesce | factory
  deriving DecidableEq, Repr

/-- The clocks and fabric time (R55 to R60): the FTC with its residue modulo 12 and the slew still to apply, and the
always-on counter with its phase against CCLK. -/
structure Clock where
  ftc  : BitVec 64
  res  : Nat
  slew : Int
  /-- CCLK since the last slewed nanosecond -/
  slewAge : Nat
  /-- the counts in CCLK of event timers 4 to 15 that run (R73) -/
  timers : Tab Nat
  /-- the always-on counter (R60) -/
  aoc  : BitVec 48
  /-- its phase against CCLK, in 1,171,875ths of an ACLK edge (R55) -/
  phase : Nat
  deriving DecidableEq, Repr

def Clock.reset : Clock := { ftc := 0, res := 0, slew := 0, slewAge := 0, timers := [], aoc := 0, phase := 0 }

structure Dev where
  /-- the register file: key of field and index to the difference from the reset value -/
  regs   : Tab Nat
  /-- live counters and their shadows, keyed by live address / 8; bit 48 is OVF (R583, R588) -/
  cnt    : Tab Nat
  shadow : Tab Nat
  /-- the clocks and fabric time (R55 to R60) -/
  clk    : Clock
  /-- the power mode (R35) -/
  mode   : Mode
  /-- fault handling (R489 to R520) -/
  flt    : FltSt
  /-- the directory and its tollgates (R257 to R334) -/
  coh    : CohSt
  /-- the Blend engines (R335 to R363) -/
  bld    : BldSt
  /-- the switch core and its schedulers (R163 to R256) -/
  sw     : SwSt
  /-- the run-time state of ports (R81 to R119) -/
  ports  : Tab PortRt
  /-- the run-time state of interlink sessions (R120 to R162) -/
  il     : Tab IlRt
  /-- instances (R364 to R398) -/
  ins    : InsSt
  /-- the I/O bridge (R399 to R427) -/
  brg    : BrgSt
  /-- the management processor (R428 to R465) -/
  mgt    : MgtSt
  /-- the Caravan port (R466 to R488) -/
  car    : CarSt
  /-- the run-time state of bay channels (R546 to R581) -/
  bay    : Tab BayRt
  /-- the bay buses (R572) -/
  bus    : BusSt
  /-- Butre: rails, wakes and the cellar (R521 to R545) -/
  pwr    : PwrSt
  /-- flits sent on interlink ports, oldest first, each with the CRC that it carries -/
  wire   : List (Fin 64 × IlFlit × BitVec 64)
  /-- messages handed to the egress link layers of standard ports, oldest first -/
  out    : List Handed
  /-- the word that the last read of a register through BAR 2 returned -/
  rdata  : BitVec 32
  /-- how many free values the model has taken: the model's own field -/
  freeCtr : Nat
  deriving DecidableEq, Repr

end Sys2Proof.Machine
end

