-- ==== Sys2Proof/Machine/Regs.lean ====
section
/-!
DEFINITION. The register file: reading and writing a field of a register, and resetting the fields of a domain (R8 to
R10). A cell of the file holds the difference of a field from its reset value, so a field at reset has no cell.
-/

namespace Sys2Proof.Machine

def Dom.code : Dom → Nat
  | .butre => 0 | .cold => 1 | .warm => 2 | .port => 3 | .inst => 4

/-- The key of a field's cell: domain, keep set, register, bit and index, so that a reset is a filter on keys. -/
def Fld.key (f : Fld) (i : Nat) : Nat :=
  (((f.dom.code * 2 + (if f.keep then 1 else 0)) * 512 + f.reg.ctorIdx) * 32 + f.lo) * 65536 + i

/-- The domain code of a key. -/
def keyDom (k : Nat) : Nat := k / (65536 * 32 * 512 * 2)

/-- Whether the field of a key is part of the keep set. -/
def keyKeep (k : Nat) : Bool := k / (65536 * 32 * 512) % 2 == 1

/-- The index of a key. -/
def keyIdx (k : Nat) : Nat := k % 65536

/-- A field's value in a register file. -/
def fldGet (r : Tab Nat) (f : Fld) (i : Nat) : Nat := r.get 0 (f.key i) ^^^ f.rst

/-- Write a field; bits beyond its width are dropped. -/
def fldPut (r : Tab Nat) (f : Fld) (i v : Nat) : Tab Nat := r.put 0 (f.key i) ((v % 2 ^ f.w) ^^^ f.rst)

/-- The stored value of field `f`, entry `i`. -/
def Dev.get (d : Dev) (f : Fld) (i : Nat := 0) : Nat := fldGet d.regs f i

/-- Whether a one-bit field reads 1. -/
def Dev.bit (d : Dev) (f : Fld) (i : Nat := 0) : Bool := d.get f i == 1

/-- Write field `f`, entry `i`. -/
def Dev.put (d : Dev) (f : Fld) (i v : Nat) : Dev := { d with regs := fldPut d.regs f i v }

/-- Set a one-bit field. -/
def Dev.set (d : Dev) (f : Fld) (i : Nat := 0) : Dev := d.put f i 1

/-- Add to a field, stopping at its largest value. -/
def Dev.addSat (d : Dev) (f : Fld) (i n : Nat) : Dev := d.put f i (min (d.get f i + n) (2 ^ f.w - 1))

/-- The entries of field `f` that differ from its reset value. -/
def Dev.listed (d : Dev) (f : Fld) : List Nat :=
  d.regs.filterMap fun x => if x.1 / 65536 = f.key 0 / 65536 then some (keyIdx x.1) else none

/-- Return every field of a list to its reset value for one index. -/
def Dev.clearFlds (d : Dev) (fs : List Fld) (i : Nat) : Dev :=
  { d with regs := fs.foldl (fun r f => r.erase (f.key i)) d.regs }


end Sys2Proof.Machine
end

