-- ==== Sys2Proof/Machine/State.lean ====
section
/-!
DEFINITION. The state of the machine: the device and the queue of waiting commands, and its state right after VAUX
power-on.
-/

namespace Sys2Proof.Machine

/-- Why a step stops with a fault. -/
inductive Fault where
  /-- Raised by a command whose list operands no link or bus can carry (a flit of more than four slots, a Caravan block
  of the wrong length). Safe: the spec gives no such command a meaning. -/
  | illFormed (mnemonic : String)
  deriving DecidableEq, Repr

/-- Why a command is not carried out. -/
inductive Refusal where
  /-- Raised by an arm of `exec` whose command has no meaning yet. Safe: nothing is claimed of it. -/
  | notModelled (mnemonic : String)
  deriving DecidableEq, Repr

/-- The device and the queue of commands that wait, first in, first out. -/
structure State where
  dev     : Dev
  pending : List Instr
  deriving DecidableEq, Repr

/-- The device after VAUX power-on: cold reset of everything; Butre runs and the C64 is in Standby (R40).
DESIGN CHOICE, unsafe: log entry 4. -/
def Dev.reset : Dev :=
  { regs := [], cnt := [], shadow := [], clk := Clock.reset, mode := .standby, flt := FltSt.reset, coh := CohSt.reset,
    bld := BldSt.reset, sw := SwSt.reset, ports := [], il := [], ins := InsSt.reset, brg := BrgSt.reset,
    mgt := MgtSt.reset, car := CarSt.reset, bay := [], bus := BusSt.reset,
    pwr := PwrSt.reset, wire := [], out := [], rdata := 0, freeCtr := 0 }

def State.reset : State := { dev := Dev.reset, pending := [] }

end Sys2Proof.Machine
end

