-- ==== Sys2Proof/Machine/Crc.lean ====
section
/-!
DEFINITION. The CRC-32 of IEEE 802.3, which the instance blob (R383), Caravan bursts (R480) and the management processor's
stores use.
-/

namespace Sys2Proof.Machine

/-! ### Bytes -/

/-- The little-endian number in `n` bytes from `off` (R7); bytes beyond the end count as 0. -/
def le (l : List (BitVec 8)) (off n : Nat) : Nat :=
  ((l.drop off).take n).foldr (fun b a => b.toNat + 256 * a) 0

/-- `n` little-endian bytes of a number. -/
def bytes : Nat → Nat → List (BitVec 8)
  | 0, _ => []
  | n + 1, v => BitVec.ofNat 8 v :: bytes n (v / 256)

/-- Words of a list of bytes, four each. -/
def wordsOf (l : List (BitVec 8)) : List Nat := (List.range (l.length / 4)).map fun k => le l (4 * k) 4

/-- One bit of the reflected division by 0xEDB8_8320. -/
def crcBit (c : BitVec 32) : BitVec 32 := if c.getLsbD 0 then (c >>> 1) ^^^ 0xEDB88320 else c >>> 1

/-- One byte. -/
def crcByte (c : BitVec 32) (b : BitVec 8) : BitVec 32 :=
  (List.range 8).foldl (fun c _ => crcBit c) (c ^^^ b.zeroExtend 32)

/-- The CRC-32 of a list of bytes. -/
def crc32 (l : List (BitVec 8)) : BitVec 32 := ~~~ (l.foldl crcByte 0xFFFFFFFF)

end Sys2Proof.Machine
end

