-- ==== Sys2Proof/Machine/Wire.lean ====
section
/-!
DEFINITION. What leaves the C64 as bytes: the internal message (R164, R165, R266), the interlink flit with its CRC-64 (R123 to
R126, R149, R150), and the blocks and burst headers of the Caravan port (R468, R472). Every field of more than one byte is
little-endian (R7).
-/

namespace Sys2Proof.Machine

/-- A list of bytes filled up with zeros to `n`. -/
def padTo (n : Nat) (l : List (BitVec 8)) : List (BitVec 8) := l ++ List.replicate (n - l.length) 0

/-! ### Memory protection (R3) -/

/-- What reading an RS(72,64) codeword finds: `wrong` says that it is miscorrected, unreported. -/
inductive Rs where
  | clean | corr | uncorr | wrong
  deriving DecidableEq, Repr

/-- The bytes of a codeword in error. -/
def cwBytes (e : CwErr) : Nat := ((List.range 72).filter fun j => e.extractLsb' (8 * j) 8 != 0).length

/-- R3: RS(72,64) of minimum distance 9 corrects up to 4 bytes and reports 5 to 8, but for those within 4 bytes of another
codeword. DESIGN CHOICE, safe: log entry 75. -/
def rsRead (e : CwErr) : Rs :=
  let n := cwBytes e
  if n = 0 then .clean
  else if n ≤ 4 then .corr
  else if Config.rsFar e = 0 || (8 < n && Config.rsFar e = 1) then .wrong
  else .uncorr

/-- The bits that an injected mask flips at byte `off` of a codeword (R514). -/
def cwFlip (off : Nat) (mask : BitVec 64) : CwErr := mask.zeroExtend 576 <<< (8 * off)

/-! ### Internal messages -/

/-- The OPCODE of the common header: the C64's own opcodes for the forwarding extension (R266), the opcode that a message carries
through, 0 for CXL.io (R164). The standard's other opcodes lie outside the spec. DESIGN CHOICE, safe: log entry 9. -/
def Op.opcode : Op → Nat
  | .fwdSnp => 0xC0
  | .fwdData => 0xC1
  | .fwdNack => 0xC2
  | .fData => 0xC3
  | .otherReq c _ | .otherRwd c | .otherSnp c | .otherRsp c | .otherDrs c => c.toNat
  | o => if o.cls.code < 5 then (Config.freeByte 0x20 o.ctorIdx).toNat else 0

/-- The code of a colour (R126, R164). -/
def Colour.code : Colour → Nat
  | .green => 0 | .yellow => 1 | .red => 2

/-- The bytes of an internal message (R164, R165). The standard's attribute bits lie outside the spec.
DESIGN CHOICE, safe: log entry 9. -/
def msgBytes (m : Msg) : List (BitVec 8) :=
  let u (n : Nat) : Nat := (Config.freeByte 0x20 (m.op.ctorIdx + n)).toNat
  let inst := match m.inst with | some i => i.val + 1024 | none => 0
  let head := m.dst.toNat + m.src.toNat * 2 ^ 12 + Op.opcode m.op * 2 ^ 24 + m.sseq.toNat * 2 ^ 32 + inst * 2 ^ 64 +
    (if m.poison then 2 ^ 75 else 0) + (if m.mcast then 2 ^ 76 else 0) + m.ldId.toNat * 2 ^ 77 + Colour.code m.colour * 2 ^ 81 +
    m.hops.toNat * 2 ^ 83 + m.tag.toNat * 2 ^ 96 + m.gen.toNat * 2 ^ 112 + m.gseq.toNat * 2 ^ 128
  let addr := bytes 8 (m.addr.toNat % 2 ^ 52 + u 1 * 2 ^ 52)
  let attr := (List.range 8).map fun k => BitVec.ofNat 8 (u (2 + k))
  bytes 24 head ++ match m.cls with
    | .req | .snp => addr ++ attr
    | .rwd => addr ++ attr ++ bytes 64 m.line.toNat
    | .rsp => attr
    | .drs => addr ++ bytes 64 m.line.toNat
    | .ion | .iop | .ioc => addr ++ (List.range 32).map (fun k => BitVec.ofNat 8 (u (10 + k))) ++ m.pay

/-! ### Interlink flits -/

/-- One step of the division by 0x42F0_E1EB_A9EA_3693, for the stream bit `b`. -/
def crc64Bit (c : BitVec 64) (b : Bool) : BitVec 64 :=
  if c.getLsbD 63 != b then (c <<< 1) ^^^ 0x42F0E1EBA9EA3693 else c <<< 1

/-- One byte of the stream, its least significant bit first (R121). -/
def crc64Byte (c : BitVec 64) (b : BitVec 8) : BitVec 64 := (List.range 8).foldl (fun c k => crc64Bit c (b.getLsbD k)) c

/-- The CRC-64 of R125. DEDUCED, unsafe: log entry 72. -/
def crc64 (l : List (BitVec 8)) : BitVec 64 := ~~~ (l.foldl crc64Byte 0xFFFFFFFFFFFFFFFF)

/-- A slot: its header and its part of the message, 56 bytes (R126). -/
def slotBytes (x : IlSlot) : List (BitVec 8) :=
  bytes 4 (x.vc.toNat + x.pos.toNat * 2 ^ 3 + x.colour.toNat * 2 ^ 5 + x.len.toNat * 2 ^ 7 + x.icls.toNat * 2 ^ 13) ++
    padTo 56 (((msgBytes x.m).drop (56 * x.part.toNat)).take x.len.toNat)

/-- A control body, from byte 8 on (R149): subtype, version and fields; every other byte is 0. -/
def ctrlBytes : IlCtrl → List (BitVec 8)
  | .param b => [0x01, 0x01] ++ bytes 2 b.node.toNat ++ bytes 8 b.serial.toNat ++ bytes 2 b.session.toNat ++
      [if b.resume then 1 else 0, b.quads.zeroExtend 8] ++ bytes 2 b.rxExp.toNat ++ b.pools.flatMap (fun n => bytes 2 n.toNat) ++
      b.freed.flatMap fun n => bytes 2 n.toNat
  | .paramAck s r => [0x02, 0x01] ++ bytes 10 0 ++ bytes 2 s.toNat ++ [if r then 1 else 0]
  | .retrainReq w why => [0x03, 0x01, w.zeroExtend 8, why]
  | .retrainAck w => [0x04, 0x01, w.zeroExtend 8]
  | .timeReq id t1 => [0x05, 0x01] ++ bytes 2 id.toNat ++ bytes 8 t1.toNat
  | .timeRsp id t2 t3 => [0x06, 0x01] ++ bytes 2 id.toNat ++ bytes 8 t2.toNat ++ bytes 8 t3.toNat
  | .linkDown why => [0x07, 0x01, why]
  | .unknown t v => [t, v]

/-- TYPE of a flit (R124). -/
def IlBody.type : IlBody → Nat
  | .data _ => 0 | .idle _ => 1 | .ctrl _ => 2 | .replay _ => 3

/-- SLOT_MAP (R123): message slots take the lowest positions. -/
def IlBody.slotMap : IlBody → Nat
  | .data l | .replay l => 2 ^ l.length - 1
  | _ => 0

/-- The slot area: slots, the credit block, or the control body. -/
def IlBody.area : IlBody → List (BitVec 8)
  | .data l | .replay l => l.flatMap slotBytes
  | .idle c => c.flatMap fun n => bytes 2 n.toNat
  | .ctrl c => ctrlBytes c

/-- The header of a flit as a number (R123). -/
def IlHdr.word (h : IlHdr) (type map : Nat) : Nat :=
  type + h.seq.toNat * 2 ^ 2 + h.ack.toNat * 2 ^ 14 + (h.nak.getD 0).toNat * 2 ^ 26 + (if h.nak.isSome then 2 ^ 38 else 0) +
    (if h.gbn then 2 ^ 39 else 0) + h.crVc.toNat * 2 ^ 40 + h.crCount.toNat * 2 ^ 43 + map * 2 ^ 59

/-- Bytes 0 to 247 of a flit (R123). -/
def IlFlit.body248 (f : IlFlit) : List (BitVec 8) :=
  bytes 8 (IlHdr.word f.hdr (IlBody.type f.body) (IlBody.slotMap f.body)) ++ padTo 240 (IlBody.area f.body)

/-- The CRC-64 that belongs to a flit (R125). -/
def IlFlit.crc (f : IlFlit) : BitVec 64 := crc64 (IlFlit.body248 f)

/-- The 256 bytes of a flit with a CRC, least significant byte first (R123, R125). -/
def IlFlit.bytes256 (f : IlFlit) (crc : BitVec 64) : List (BitVec 8) := IlFlit.body248 f ++ bytes 8 crc.toNat

/-! ### Caravan blocks -/

/-- One step of the division by 0x1021, most significant bit first. -/
def crc16Bit (c : BitVec 16) (b : Bool) : BitVec 16 := if c.getLsbD 15 != b then (c <<< 1) ^^^ 0x1021 else c <<< 1

/-- The CRC-16 of R468. DEDUCED, unsafe: log entry 72. -/
def crc16 (l : List (BitVec 8)) : BitVec 16 :=
  l.foldl (fun c b => (List.range 8).foldl (fun c k => crc16Bit c (b.getLsbD (7 - k))) c) 0xFFFF

/-- The 32 bytes of a burst header (R472). -/
def headBytes (h : BurstHead) : List (BitVec 8) :=
  [h.stream, if h.cont then 1 else 0, h.kind, h.version] ++ bytes 4 h.seq.toNat ++ bytes 4 h.off.toNat ++ bytes 4 h.total.toNat ++
    bytes 2 h.node.toNat ++ bytes 2 0 ++ bytes 8 h.ftc.toNat ++ bytes 4 h.crc.toNat

/-- The burst header in the 32 bytes of a HEAD payload, byte k at bits 8k + 7 to 8k (R7, R472); reserved bits are ignored. -/
def headOf (b : BitVec 256) : BurstHead :=
  let at_ (off n : Nat) : BitVec n := b.extractLsb' (8 * off) n
  { stream := at_ 0 8, cont := b.getLsbD 8, kind := at_ 2 8, version := at_ 3 8, seq := at_ 4 32, off := at_ 8 32, total := at_ 12 32,
    node := at_ 16 16, ftc := at_ 20 64, crc := at_ 28 32 }

/-- A block of 64 bytes: its word with TYPE, LEN and CRC, and its payload (R468). -/
def blockBytes (type : Nat) (len : Nat) (pay : List (BitVec 8)) : List (BitVec 8) :=
  let p := padTo 60 pay
  let w := bytes 2 (type + len * 16)
  w ++ bytes 2 (crc16 (w ++ p)).toNat ++ p

/-- A block on the Caravan port (R468). -/
inductive CarBlk where
  | idle | align | head (h : BurstHead) | data (bytes : List (BitVec 8))
  deriving DecidableEq, Repr

/-- The 64 bytes of a block (R468). -/
def CarBlk.bytes : CarBlk → List (BitVec 8)
  | .idle => blockBytes 0 0 []
  | .align => blockBytes 15 0 ((List.replicate 30 [0xA5, 0x5A]).flatten)
  | .head h => blockBytes 1 32 (headBytes h)
  | .data b => blockBytes 2 b.length b

end Sys2Proof.Machine
end

