-- ==== Sys2Proof/Machine/Ops.lean ====
section
/-!
DEFINITION. The operations every subsystem shares: counting an event, reporting a fault or an event to the collector,
home slices and line addresses, and sending a message by the route table.
-/

namespace Sys2Proof

/-- A write of line data. -/
def Op.writes : Op → Bool
  | .wrI | .wrS | .wrA | .otherRwd _ => true
  | _ => false

/-- A response, which carries the SRC_EDGE of its request as DST_EDGE (R167 order 6). -/
def Op.responds (o : Op) : Bool :=
  match o.cls with
  | .rsp | .drs | .ioc => true
  | _ => false

/-- The answers of a host to the directory (R266, R297, R301). -/
def Op.hostAnswer : Op → Bool
  | .biRsp _ | .fwdData | .fwdNack | .biConflict => true
  | _ => false

end Sys2Proof

namespace Sys2Proof.Machine

/-- The fabric die is powered: PWR_STATUS.STATE reads on, or Standby entry has not yet saved the keep set (R527). -/
def Dev.powered (d : Dev) : Bool :=
  d.get F.PWR_STATUS.STATE == 3 || (d.get F.PWR_STATUS.STATE == 1 && (d.pwr.seqr == .entry || d.pwr.seqr == .saving))

/-- The fabric die is on and out of reset: powered, and neither SYS_RESET# nor PERST_IN# is held (R35, R40). -/
def Dev.die (d : Dev) : Bool := d.powered && !d.pwr.sysRst && !d.pwr.perst

/-- What happens on the fabric die happens only while it is on. -/
def Dev.onDie (d : Dev) (f : Dev → Dev) : Dev := if d.die then f d else d

/-! ### Counters (R582 to R587) -/

/-- The counter at a key after `n` more events: 48 bits, OVF (bit 48) set on a wrap. -/
def cntAdd (v n : Nat) : Nat :=
  let s := v % 2 ^ 48 + n
  s % 2 ^ 48 + (if s ≥ 2 ^ 48 || v ≥ 2 ^ 48 then 2 ^ 48 else 0)

/-- Count `n` events in the counter at `key`, its live address divided by 8. -/
def Dev.count (d : Dev) (key : Nat) (n : Nat := 1) : Dev :=
  { d with cnt := d.cnt.modify 0 key (cntAdd · n) }

/-- Keys of the banks of R582: event e of a port, a tile, the device, an egress port, an instance, a bay. -/
def cPort (p e : Nat) : Nat := (0x0B100000 + p * 0x100 + e * 8) / 8
def cTile (t e : Nat) : Nat := (0x0B200000 + t * 0x200 + e * 8) / 8
def cDev (e : Nat) : Nat := (0x0B300000 + e * 8) / 8
def cEgress (p e : Nat) : Nat := (0x0B400000 + p * 0x100 + e * 8) / 8
def cInst (i e : Nat) : Nat := (0x0B500000 + i * 0x10 + e * 8) / 8
def cBay (b e : Nat) : Nat := (0x0B600000 + b * 0x80 + e * 8) / 8

/-! ### Reporting faults and events (R489 to R495) -/

/-- Source units of R490: unit `u` of tile `t`, and device units. -/
def uTile (t u : Nat) : Nat := t * 256 + u
def uPort (p : Nat) : Nat := p / 8 * 256 + p % 8
/-- DEDUCED, unsafe: log entry 6. -/
def uDev (u : Nat) : Nat := 0xF00 + u
def uBay (b : Nat) : Nat := 0xF40 + b

/-- Whether the source of a record waits for room rather than lose it (R492). -/
def Coded.stalls (c : Coded) (policy : Nat) : Bool :=
  match c.what with
  | .event _ => false
  | .fault k =>
    k.fixed || k = .layoverFlush || k = .instSquash || k = .targetTimeout || k = .agentDead ||
      decide (1 ≤ max (c.level.getD 0) policy)

/-- The policy level of a kind (R517): stored as the difference from its default level. -/
def Dev.policyLevel (d : Dev) (k : Kind) : Nat := d.get F.FLT_POLICY.LEVEL k.code ^^^ k.level

/-- Keep a record among Butre's pending records in the cellar (R493). -/
def Dev.pend (d : Dev) (c : Coded) : Dev :=
  if d.flt.butre.length < 64 then { d with flt := { d.flt with butre := d.flt.butre ++ [c] } }
  else ({ d with flt := { d.flt with butreLost := d.flt.butreLost + 1 } }).count (cDev 6)

/-- A coded message reaches the collector with the others of its edge while the collector runs, and Butre's pending
records while it does not (R493). -/
def Dev.offer (d : Dev) (c : Coded) : Dev :=
  if d.flt.running then { d with flt := { d.flt with arr := d.flt.arr ++ [c] } } else d.pend c

/-- Drop a record: it is counted (R492). -/
def Dev.lose (d : Dev) : Dev := (d.addSat F.FLT_LOST.LOST 0 1).count (cDev 6)

/-- R492: a record takes a place in the input queue, waits with its source, or is dropped. -/
def Dev.queueRec (d : Dev) (c : Coded) : Dev :=
  if d.flt.stalled.isEmpty && decide (d.flt.inq.length < 64) then
    { d with flt := { d.flt with inq := d.flt.inq ++ [c] } }
  else if c.stalls (match c.what with | .fault k => d.policyLevel k | .event _ => 0) then
    ({ d with flt := { d.flt with stalled := d.flt.stalled ++ [c] } }).count (cDev 7)
  else
    ({ d with flt := { d.flt with lostSince := d.flt.lostSince + 1 } }).lose

/-- Put a record in its place by source unit ID, after those of the same unit. -/
def insertUnit (c : Coded) : List Coded → List Coded
  | [] => [c]
  | x :: l => if x.unit ≤ c.unit then x :: insertUnit c l else c :: x :: l

/-- A record of a unit of a tile whose fence started on an earlier edge: the tile's units report nothing further, and a
failed self-test reports for the tile (R501, R511, R641). DEDUCED, unsafe: log entry 6. -/
def Dev.muted (old : Dev) (c : Coded) : Bool :=
  decide (c.unit / 256 < 8) && (old.get F.FLT_FENCE_TILE.TILES).testBit (c.unit / 256) && decide (c.what ≠ .fault .tileSelftest)

/-- The end of an edge: the records raised on it reach the input queue in source unit order (R71, R492). `old` is the
device before the edge. DESIGN CHOICE, safe: log entry 1. DEDUCED, unsafe: log entry 6. -/
def Dev.settle (d old : Dev) : Dev :=
  let l := d.flt.arr.foldl (fun a c => insertUnit c a) []
  l.foldl (fun d c => if old.muted c then d.lose else d.queueRec c) { d with flt := { d.flt with arr := [] } }

/-- The command is done: the device it leaves, with its records settled, and the queue as it was.
DESIGN CHOICE, safe: log entry 1. DESIGN CHOICE, unsafe: log entry 65. -/
def State.upd (s : State) (d : Dev) : Host.Outcome State Fault Refusal := .next { s with dev := d.settle s.dev }

/-- Report fault `k` from `unit` for domain index `idx`, at the level `level?` names or at the policy's. -/
def Dev.raise (d : Dev) (k : Kind) (unit idx addr : Nat) (level : Option Nat := none)
    (dom : DomType := k.dom) (recl : Option Recl := none) (injected : Bool := false) : Dev :=
  d.offer { unit := unit, what := .fault k, level := level, dom := dom, idx := idx,
            addr := BitVec.ofNat 64 (addr % 2 ^ 52), recl := recl, injected := injected }

/-- A codeword of `unit` is read with error pattern `e`: the pattern with what FACTORY_INJECT flipped in it, and whether it did
(R513). The injections are then spent. -/
def Dev.injTake (d : Dev) (unit : Nat) (here : Nat → Bool) (e : CwErr) : Dev × CwErr × Bool :=
  let mine := d.flt.injCw.filter fun x => x.1 == unit && here x.2.1
  if mine = [] then (d, e, false)
  else ({ d with flt := { d.flt with injCw := d.flt.injCw.filter fun x => !mine.contains x } },
    mine.foldl (fun e x => e ^^^ cwFlip x.2.2.1 x.2.2.2) e, true)

/-- Report event `e` with its data bytes 0 to 3 and 4 to 11. -/
def Dev.event (d : Dev) (e : Event) (unit : Nat) (data : BitVec 32) (hi : BitVec 64 := 0) : Dev :=
  d.offer { unit := unit, what := .event e, dom := .device, idx := 0, addr := hi, data := data }

/-- Queue a reclaim report record with the device sequence of its cause; a full queue loses it on Caravan, which is counted,
and logged when the queue becomes full (R477). -/
def Dev.report (d : Dev) (r : Recl) (seq : BitVec 40) : Dev :=
  if !(d.get F.CAR_CFG.STREAM_EN).testBit 2 then d
  else if d.flt.reclQ.length < 2048 then
    { d with flt := { d.flt with reclQ := d.flt.reclQ ++ [(r, seq)] } }
  else
    let d := (d.count (cDev 19)).set F.CAR_ERR.OUT_LOST
    if d.flt.qFull.contains 3 then d
    else (({ d with flt := { d.flt with qFull := 3 :: d.flt.qFull } }).set F.CAR_ERR.OVERRUN).raise .carOverrun (uDev 0x05) 0 0x203

/-! ### Lines, slices and sets (R267) -/

/-- The 46-bit line number of a fabric address. -/
def lineOf (addr : Nat) : Nat := addr / 64 % 2 ^ 46

/-- The fabric address of a line. -/
def addrOf (line : Nat) : Nat := line * 64

/-- The exclusive or of the lowest `n` 3-bit groups of a line number. -/
def fold3 : Nat → Nat → Nat
  | 0, _ => 0
  | n + 1, l => (l % 8) ^^^ fold3 n (l / 8)

/-- The home slice of a line. -/
def homeSlice (line : Nat) : Nat := fold3 16 line

/-- The set of a line within its slice, and its tag. -/
def setOf (line : Nat) : Nat := line / 8 % 2 ^ 18
def tagOf (line : Nat) : Nat := line / 2 ^ 21

/-- The line that slice, set and tag name together. -/
def lineFrom (slice set tag : Nat) : Nat :=
  let up := tag * 2 ^ 18 + set
  up * 8 + ((slice ^^^ fold3 15 up) % 8)

/-! ### Ports, roles and edges -/

/-- Role codes of PRT_CFG.ROLE (R109), under the personality that R81 accepts them with. -/
def Dev.isHost (d : Dev) (p : Nat) : Bool := d.get F.PRT_CFG.PERSONALITY p == 1 && d.get F.PRT_CFG.ROLE p == 0
def Dev.isTarget (d : Dev) (p : Nat) : Bool := d.get F.PRT_CFG.PERSONALITY p == 1 && d.get F.PRT_CFG.ROLE p == 1
def Dev.isIl (d : Dev) (p : Nat) : Bool := d.get F.PRT_CFG.PERSONALITY p == 2
def Dev.enabled (d : Dev) (p : Nat) : Bool := d.get F.PRT_CFG.PERSONALITY p != 0

/-- A port that exposes the management function (R83). -/
def Dev.exposes (d : Dev) (p : Nat) : Bool :=
  d.get F.PRT_CFG.PERSONALITY p == 3 || (d.get F.PRT_CFG.PERSONALITY p == 1 && d.get F.PRT_CFG.ROLE p == 3) ||
    (d.isHost p && d.bit F.PRT_CFG.MGMT_FN p)

/-- The edge ID of a port (R211). -/
def Dev.edgeOf (d : Dev) (p : Nat) : BitVec 12 := BitVec.ofNat 12 (d.get F.TIL_PCFG.EDGE_ID p)

/-- The edge ID of the C64's own functions (R605). -/
def Dev.ownEdge (d : Dev) : BitVec 12 := BitVec.ofNat 12 (d.get F.GLB_NODE.FN_EDGE)

/-- Whether tile `t` is fenced (R501). -/
def Dev.tileFenced (d : Dev) (t : Nat) : Bool := (d.get F.FLT_FENCE_TILE.TILES).testBit t

/-- Whether port `p` or its tile is fenced. -/
def Dev.portFenced (d : Dev) (p : Nat) : Bool := d.flt.fences.contains (.port, p) || d.tileFenced (p / 8)

/-- Whether tile `t` is Active (R534): a request to or from a sleeping tile waits (R535). -/
def Dev.awake (d : Dev) (t : Nat) : Bool := d.get F.TIL_PWR_STATUS.STATE t == 0

/-- R535: a demand wakes a sleeping tile, and waits. DEDUCED, unsafe: log entry 40. -/
def Dev.demand (d : Dev) (t : Nat) : Dev :=
  if d.awake t || d.bit F.TIL_PWR_STATUS.WAKING t then d else (d.set F.TIL_PWR_STATUS.WAKING t).count (cTile t 29)

/-! ### Routing (R168) -/

/-- What the route table says of an edge ID. -/
inductive Route where
  | own | port (p : Nat) | miss
  deriving DecidableEq, Repr

/-- The route of an edge ID; a disabled or fenced port is a miss (R170). -/
def Dev.route (d : Dev) (e : BitVec 12) : Route :=
  let i := e.toNat
  if d.bit F.TIL_ROUTE.VALID i then
    if d.bit F.TIL_ROUTE.LOCAL i then .own
    else
      let p := d.get F.TIL_ROUTE.PORT i
      if d.enabled p && !d.portFenced p then .port p else .miss
  else .miss

/-! ### Queues and crossbar outputs (R4, R15, R17, R218) -/

/-- The number of a queue. -/
def queueNo (p cls slot : Nat) : Nat := p * 256 + cls * 32 + slot

/-- R218: service class and tenant slot of a message on egress port `p`; a multicast copy takes its group's CLASS. -/
def Dev.classify (d : Dev) (p : Nat) (m : Msg) : Nat × Nat :=
  if m.mcast then (d.get F.TIL_MCAST.CLASS m.dst.toNat, 0)
  else
    let c := m.cls.code
    let e := d.get F.SCH_CLASSMAP.MAP p / 2 ^ (4 * c) % 16
    let slot := if e / 8 = 1 then d.get F.SCH_SLOTMAP.MAP p / 2 ^ (4 * c) % 16
      else match m.inst with
        | some i => d.get F.INS.SLOT i.val
        | none => 0
    (e % 8, slot)

/-- The queue that a message joins on port `p`. -/
def Dev.queueOf (d : Dev) (p : Nat) (m : Msg) : Nat :=
  let (c, s) := d.classify p m
  queueNo p c s

/-- The queue that stage 3 resolves for a message with this destination; 0 where it joins none. -/
def Dev.queueFor (d : Dev) (x : Dest) (m : Msg) : Nat :=
  match x with
  | .port e => d.queueOf e.val m
  | _ => 0

/-- The service class of a message's crossbar request is 7 (R31). -/
def Dev.strict (d : Dev) (x : Dest) (m : Msg) : Bool :=
  match x with
  | .port e => (d.classify e.val m).1 == 7
  | .mcast g => d.get F.TIL_MCAST.CLASS g.toNat == 7
  | _ => false

/-- R188: the ports that a copy of multicast message `m` goes to. -/
def Dev.members (d : Dev) (m : Msg) : List Nat :=
  let g := m.dst.toNat
  (List.range 64).filter fun e =>
    (d.get F.TIL_MCAST.MEMBERS g).testBit e && !(d.bit F.TIL_PCFG.EDGE_VALID e && d.edgeOf e == m.src) &&
      (d.bit F.TIL_MCAST.ROOT g || decide (e ≠ d.get F.TIL_MCAST.ROOT_PORT g))

/-- The crossbar outputs that a message from tile `t` asks for: that of its destination's tile, and for a multicast message
one per tile with a member copy (R15 to R17). What stage 3 answers itself, and what a function of the C64 takes, crosses its
own tile's. -/
def Dev.outsOf (d : Dev) (t : Nat) (x : Dest) (m : Msg) : List Nat :=
  match x with
  | .port e => [e.val / 8]
  | .slice s _ => [s.val]
  | .fold f => [f.val / 64]
  | .mcast _ =>
    let l := (List.range 8).filter fun o => (d.members m).any fun e => e / 8 == o
    if l = [] then [t] else l
  | _ => [t]

/-- Stage a message of the C64's own from tile `t`: its crossbar request is raised (R15, R16). One that leaves this C64
counts it in HOPS (R164). DEDUCED, unsafe: log entry 20. -/
def Dev.launch (d : Dev) (t : Nat) (x : Dest) (m : Msg) (squash : Bool := false) (q : Option Nat := none)
    (ing : Option (Fin 64) := none) (rel : Nat := 0) : Dev :=
  let m := match x with
    | .port _ | .mcast _ => { m with hops := m.hops + 1 }
    | _ => m
  let want := match x with
    | .answer _ => []
    | _ => d.outsOf t x m
  { d with sw := { d.sw with staged := d.sw.staged ++
    [{ ing := ing, dest := x, m := m, rel := rel, squash := squash, q := q.getD (d.queueFor x m), tile := Fin.ofNat 8 t, want := want }] } }

/-- A route miss is counted and logged in tile `t`, with DST_EDGE, or the group, in the record (R170). -/
def Dev.missed (d : Dev) (t idx : Nat) (m : Msg) : Dev :=
  ((d.count (cTile t 0)).set F.TIL_ERR.ROUTE_MISS t).raise .routeMiss (uTile t 0x10) idx
    (m.dst.toNat + if m.mcast then 2 ^ 12 else 0)

/-- Send a message of the C64's own to its destination edge ID; one that has no route is a route miss, and a request among
them is answered as lost (R170). -/
def Dev.emit (d : Dev) (t : Nat) (m : Msg) : Dev :=
  match d.route m.dst with
  | .own => d.launch t (.own 0) m
  | .port p => d.launch t (.port (Fin.ofNat 64 p)) m
  | .miss =>
    let d := d.missed t (t * 8) m
    match m.cls with
    | .req | .rwd | .ion => d.launch t (.answer .lost) m
    | _ => d

/-! ### Ports, REL and DONE (R406) -/

def Dev.prt (d : Dev) (p : Nat) : PortRt := d.ports.get PortRt.reset p

def Dev.setPrt (d : Dev) (p : Nat) (r : PortRt) : Dev := { d with ports := d.ports.put PortRt.reset p r }

def Dev.ilRt (d : Dev) (p : Nat) : IlRt := d.il.get IlRt.reset p

def Dev.setIl (d : Dev) (p : Nat) (r : IlRt) : Dev := { d with il := d.il.put IlRt.reset p r }

/-- Advance DONE over the completed messages that follow it (R406). -/
def advanceDone : Nat → Nat → List Nat → Nat × List Nat
  | 0, done, b => (done, b)
  | fuel + 1, done, b => if b.contains (done + 1) then advanceDone fuel (done + 1) (b.erase (done + 1)) else (done, b)

/-- The message numbered `n` of port `p` has completed (R406). DEDUCED, unsafe: log entry 17. -/
def Dev.doneMsg (d : Dev) (ing : Option (Fin 64)) (n : Nat) : Dev :=
  match ing with
  | none => d
  | some p =>
    let r := d.prt p.val
    if n ≤ r.done then d
    else
      let b := n :: r.beyond
      let (done, b) := advanceDone b.length r.done b
      d.setPrt p.val { r with done := done, beyond := b }

/-! ### Interlink channels and credit (R126, R128, R130) -/

/-- The virtual channel of an internal class (R128). -/
def vcOf (code : Nat) : Nat := if code < 5 then code else 5

/-- Slots of 56 payload bytes that a message takes (R126). -/
def ilSlots (m : Msg) : Nat := (m.bytes + 55) / 56

/-- The slots of one message, in stream order (R126, R127). A flit takes them at its lowest positions.
DESIGN CHOICE, unsafe: log entry 74. -/
def slotsOf (m : Msg) : List IlSlot :=
  let n := ilSlots m
  (List.range n).map fun k =>
    { vc := BitVec.ofNat 3 (vcOf m.cls.code),
      pos := if n = 1 then 0 else if k = 0 then 1 else if k + 1 = n then 3 else 2,
      colour := BitVec.ofNat 2 (Colour.code m.colour), len := BitVec.ofNat 6 (min 56 (m.bytes - 56 * k)),
      icls := BitVec.ofNat 3 m.cls.code, part := BitVec.ofNat 4 k, m := m }

/-- Entry `v` of a list of six. -/
def six (l : List Nat) (v : Nat) : Nat := l.getD v 0

/-- Set entry `v`. -/
def setSix (l : List Nat) (v n : Nat) : List Nat := l.set v n

/-- `n` slots leave the receive pool of channel `v` of interlink port `p`; their credit is owed to the partner (R130). -/
def Dev.ilFreeN (d : Dev) (p v n : Nat) : Dev :=
  if d.isIl p then
    let r := d.ilRt p
    d.setIl p { r with occ := setSix r.occ v (six r.occ v - n), owed := setSix r.owed v (six r.owed v + n) }
  else d

/-- The slots of a message leave the receive pool. -/
def Dev.ilFree (d : Dev) (p : Nat) (m : Msg) : Dev := d.ilFreeN p (vcOf m.cls.code) (ilSlots m)

/-- A message leaves the staging of its ingress port, whose link credit it held (R182). -/
def Dev.leaves (d : Dev) (ing : Option (Fin 64)) (m : Msg) : Dev :=
  match ing with
  | some p => d.ilFree p.val m
  | none => d

/-- A message ends inside the C64: it leaves its ingress, unless it has done so for a hold queue, and has completed (R406). -/
def Dev.ends (d : Dev) (s : Staged) : Dev := (if s.celled then d else d.leaves s.ing s.m).doneMsg s.ing s.rel

/-- A cell of tile `t` is retired (R184, R185). -/
def Dev.retire (d : Dev) (t : Nat) : Dev := d.put F.TIL_BUF_STATUS.RETIRED t (min (d.get F.TIL_BUF_STATUS.RETIRED t + 1) 64)

/-- Take a free value: the model's counter, and the device with the counter advanced. DESIGN CHOICE, safe: log entry 3. -/
def Dev.fresh (d : Dev) : Nat × Dev := (d.freeCtr, { d with freeCtr := d.freeCtr + 1 })

end Sys2Proof.Machine
end

