-- ==== Sys2Proof/Machine/CohOps.lean ====
section
/-!
DEFINITION. The operations of a directory slice: its arrays, windows and grants, back-invalidates, responses, target
accesses, writeback slots and poison marks (chapters 07 and 08).
-/

namespace Sys2Proof.Machine

/-! ### Slices, entries and holders -/

def Dev.slice (d : Dev) (t : Nat) : Slice := d.coh.slices.get Slice.empty t

def Dev.setSlice (d : Dev) (t : Nat) (s : Slice) : Dev :=
  { d with coh := { d.coh with slices := d.coh.slices.put Slice.empty t s } }

/-- The code of a directory state (R269). -/
def DSt.code : DSt → Nat
  | .u => 0 | .s => 1 | .f => 2 | .x => 3 | .b => 4

/-- An entry as its 128 bits (R268). -/
def Entry.bits (e : Entry) : Nat :=
  e.tag + e.st.code * 2 ^ 25 + e.owner * 2 ^ 28 + e.sharers.toNat * 2 ^ 34 + (if e.poison then 2 ^ 98 else 0) +
    (match e.inst with | some i => i.val * 2 ^ 99 + 2 ^ 125 | none => 0) + e.age * 2 ^ 109 + e.trk * 2 ^ 113

/-- The entry that 128 bits spell; a reserved state reads as U. -/
def Entry.ofBits (b : BitVec 128) : Entry :=
  let n := b.toNat
  { tag := n % 2 ^ 25, owner := n / 2 ^ 28 % 64, sharers := BitVec.ofNat 64 (n / 2 ^ 34), poison := b.getLsbD 98,
    st := match n / 2 ^ 25 % 8 with | 1 => .s | 2 => .f | 3 => .x | 4 => .b | _ => .u
    inst := if b.getLsbD 125 then some (Fin.ofNat 1024 (n / 2 ^ 99)) else none, age := n / 2 ^ 109 % 16, trk := n / 2 ^ 113 % 4096 }

/-- The key of a way of the directory array. -/
def dirKey (t set way : Nat) : Nat := (t * 2 ^ 18 + set) * 16 + way

def Dev.entry (d : Dev) (k : Nat) : Entry := d.coh.dir.get Entry.free k

def Dev.putEntry (d : Dev) (k : Nat) (e : Entry) : Dev :=
  { d with coh := { d.coh with dir := d.coh.dir.put Entry.free k e } }

/-- An entry is valid when it is not a free way: any state but U, or a poison mark (R269). -/
def Entry.valid (e : Entry) : Bool := decide (e.st ≠ .u) || e.poison

/-- The line an entry at key `k` names (R267). -/
def lineAtKey (k tag : Nat) : Nat := lineFrom (k / 16 / 2 ^ 18) (k / 16 % 2 ^ 18) tag

/-- Ways of a set lost with codewords (R316): way w of set `set` of slice `t` is retired. -/
def Dev.wayLost (d : Dev) (t set way : Nat) : Bool :=
  (List.range 16).any fun n =>
    d.bit F.DIR_LOST.VALID (t * 16 + n) && d.get F.DIR_LOST.SET (t * 16 + n) == set &&
      (d.get F.DIR_LOST.CW (t * 16 + n)).testBit (way / 4)

/-- Whether a set is recorded as lost, or its slice was re-initialised since the last warm reset (R317, R502). -/
def Dev.setLost (d : Dev) (t set : Nat) : Bool :=
  d.flt.reinit.getLsbD t ||
    (List.range 16).any fun n => d.bit F.DIR_LOST.VALID (t * 16 + n) && d.get F.DIR_LOST.SET (t * 16 + n) == set

/-- Slice `t` as TILE_REINIT leaves it: nothing under way, directory array and lost set table clear, and every set lost
(R502). -/
def Dev.freshSlice (d : Dev) (t : Nat) : Dev :=
  let d := (List.range 16).foldl (fun d n =>
    d.clearFlds [F.DIR_LOST.SET, F.DIR_LOST.CW, F.DIR_LOST.VALID] (t * 16 + n)) (d.setSlice t Slice.empty)
  { d with
    coh := { d.coh with dir := d.coh.dir.filter fun x => x.1 / 16 / 2 ^ 18 != t }
    flt := { d.flt with reinit := d.flt.reinit ||| BitVec.ofNat 8 (2 ^ t) } }

/-- The key of the entry that holds a line, if one does. -/
def Dev.findKey (d : Dev) (line : Nat) : Option Nat :=
  let t := homeSlice line
  let s := setOf line
  ((List.range 16).find? fun w =>
    let e := d.entry (dirKey t s w)
    e.valid && e.tag == tagOf line && !d.wayLost t s w).map (dirKey t s)

/-- The lowest free way of a line's set. -/
def Dev.freeWay (d : Dev) (line : Nat) : Option Nat :=
  let t := homeSlice line
  let s := setOf line
  ((List.range 16).find? fun w => !(d.entry (dirKey t s w)).valid && !d.wayLost t s w).map (dirKey t s)

/-- The hosts of a sharer mask, in index order. -/
def hostsOf (b : BitVec 64) : List Nat := (List.range 64).filter fun h => b.getLsbD h

def bitOf (h : Nat) : BitVec 64 := BitVec.ofNat 64 (2 ^ h)
def addHost (b : BitVec 64) (h : Nat) : BitVec 64 := b ||| bitOf h
def dropHost (b : BitVec 64) (h : Nat) : BitVec 64 := b &&& ~~~ (bitOf h)

/-- Whether the entry records a host as a holder. -/
def Entry.holds (e : Entry) (h : Nat) : Bool := e.sharers.getLsbD h

/-- Host index `h` is dead (R321). -/
def Dev.dead (d : Dev) (h : Nat) : Bool := (d.get F.DIR_DEAD.DEAD).testBit h

/-- The forwarding extension is in force for host `h` (R265). -/
def Dev.active (d : Dev) (h : Nat) : Bool := (d.get F.DIR_FWD.ACTIVE).testBit h

/-- Naming under R276: the first of the previous owner, the requester and the remaining sharers in index order that
holds the line and has ACTIVE set; none with DIR_CTL.FWD_EN at 0 (R288). Answers the state and the OWNER field. -/
def Dev.name (d : Dev) (prev : Option Nat) (req : Option Nat) (holders : BitVec 64) : DSt × Nat :=
  if holders = 0 then (.u, 0)
  else
    let cands := (prev.toList ++ req.toList ++ hostsOf holders).filter fun h => holders.getLsbD h && d.active h
    if d.bit F.DIR_CTL.FWD_EN then
      match cands with
      | h :: _ => (.f, h)
      | [] => (.s, 0)
    else (.s, 0)

/-- The naming of what is left of an entry when no row calls for a responder: one that stays keeps its part while FWD_EN is
1, one that went is followed under R276, and S stays S (R275, R288, R298). DEDUCED, unsafe: log entry 25. -/
def Dev.leftName (d : Dev) (e : Entry) (hold : BitVec 64) : DSt × Nat :=
  match e.st with
  | .f => if hold.getLsbD e.owner && d.bit F.DIR_CTL.FWD_EN then (.f, e.owner) else d.name none none hold
  | .x => d.name (some e.owner) none hold
  | _ => (.s, 0)

/-- The entry with these holders under a naming; free when no holder and no mark remains. -/
def Entry.settle (e : Entry) (n : DSt × Nat) (holders : BitVec 64) : Entry :=
  if holders = 0 then
    if e.poison then { e with st := .u, owner := 0, sharers := 0, inst := none, trk := 0 } else Entry.free
  else { e with st := n.1, owner := n.2, sharers := holders, trk := 0 }

/-- R272: the touched entry takes age 0, every other valid entry of its set grows older, up to 15. -/
def Dev.touch (d : Dev) (k : Nat) : Dev :=
  (List.range 16).foldl (fun d w =>
    let j := k / 16 * 16 + w
    let e := d.entry j
    if e.valid then d.putEntry j { e with age := if j = k then 0 else min (e.age + 1) 15 } else d) d

/-! ### Windows, grants and addresses -/

/-- Size of window `w` in bytes (R292). -/
def Dev.winSize (d : Dev) (w : Nat) : Nat := 2 ^ (d.get F.WIN.SIZE w + 28)
def Dev.winBase (d : Dev) (w : Nat) : Nat := d.get F.WIN.BASE w * 2 ^ 28
def Dev.winWays (d : Dev) (w : Nat) : Nat := 2 ^ (d.get F.WIN.WAYS w + 1)

/-- The valid window that covers a fabric address. -/
def Dev.windowOf (d : Dev) (addr : Nat) : Option Nat :=
  (List.range 256).find? fun w =>
    d.bit F.WIN.VALID w && decide (d.winBase w ≤ addr) && decide (addr < d.winBase w + d.winSize w)

/-- R258: the target index and target address of an offset of window `w`. -/
def Dev.interleave (d : Dev) (w off : Nat) : Nat × Nat :=
  let g := if d.bit F.WIN.GRAN w then 4096 else 256
  let n := d.winWays w
  let row := off / g
  let j := row % n
  (j, d.get F.WIN.TDPA_BASE (w * 16 + j) * 2 ^ 20 + row / n * g + off % g)

/-- The DPA of a line that no valid translation covers any more: the spec gives none. DESIGN CHOICE, safe: log entry 76. -/
def dpaOpen (addr : Nat) : Nat := (Config.free addr).toNat % 2 ^ 46

/-- R639: the DPA by which host `h` knows a fabric address, through an instance or through a grant. -/
def Dev.dpaOf (d : Dev) (h : Nat) (inst : Option (Fin 1024)) (addr : Nat) : Nat :=
  match inst with
  | some i =>
    let es := (List.range 64).filter fun e =>
      let k := i.val * 64 + e
      let base := d.get F.XLATE.FBASE k * 2 ^ 21
      d.bit F.XLATE.VALID k && decide (base ≤ addr) && decide (addr < base + d.get F.XLATE.SIZE k * 2 ^ 21)
    match es with
    | e :: _ =>
      let k := i.val * 64 + e
      d.get F.INS.AP_BASE i.val * 2 ^ 28 + d.get F.XLATE.AP_OFF k * 2 ^ 21 + (addr - d.get F.XLATE.FBASE k * 2 ^ 21)
    | [] => dpaOpen addr
  | none =>
    let hit (g : Nat) : Bool :=
      let k := h * 32 + g
      let base := d.get F.GRANT.FBASE k * 2 ^ 28
      d.bit F.GRANT.COHERENT k && decide (base ≤ addr) && decide (addr < base + d.get F.GRANT.SIZE k * 2 ^ 28)
    let gs := (List.range 32).filter hit
    -- a grant being revoked still names the host's DPA
    match gs.filter (fun g => d.bit F.GRANT.VALID (h * 32 + g)) ++ gs with
    | g :: _ =>
      let k := h * 32 + g
      d.get F.GRANT.DPA_BASE k * 2 ^ 28 + (addr - d.get F.GRANT.FBASE k * 2 ^ 28)
    | [] => dpaOpen addr

/-- A host whose port holds a valid COHERENT grant or a coherent instance aperture (R317). -/
def Dev.coherentHost (d : Dev) (h : Nat) : Bool :=
  d.isHost h &&
    ((List.range 32).any (fun g => d.bit F.GRANT.VALID (h * 32 + g) && d.bit F.GRANT.COHERENT (h * 32 + g)) ||
      (List.range 1024).any (fun i => d.bit F.INS.VALID i && d.bit F.INS.COH i && d.get F.INS.HOST_PORT i == h))

/-! ### Messages of the tollgate -/

/-- The tag of a target access of slice `t`: its slice, write (1) or read (0), and its slot or tracker number. -/
def tgtTag (t wr id : Nat) : BitVec 16 := BitVec.ofNat 16 (t * 8192 + wr * 4096 + id % 4096)

/-- Send a target the access of a line (R258, R259). A line whose window no longer exists sends nothing. -/
def Dev.toTarget (d : Dev) (t line : Nat) (m : Msg) : Dev :=
  match d.windowOf (addrOf line) with
  | some w =>
    let (j, dpa) := d.interleave w (addrOf line - d.winBase w)
    let k := w * 16 + j
    d.emit t { m with
      dst := BitVec.ofNat 12 (d.get F.WIN.TEDGE k), src := d.ownEdge,
      ldId := if d.bit F.WIN.TLD_VALID k then BitVec.ofNat 4 (d.get F.WIN.TLD_ID k) else 0,
      addr := BitVec.ofNat 64 dpa, inst := none, gen := 0 }
  | none => d

/-- Issue the target read of a tracker. -/
def Dev.readTarget (d : Dev) (t line id : Nat) : Dev := d.toTarget t line { op := .rdI, tag := tgtTag t 0 id }

/-- Send holder `h` a back-invalidate or a forward for a line (R274, R639). -/
def Dev.snoop (d : Dev) (t line h : Nat) (inst : Option (Fin 1024)) (op : Op) : Dev :=
  let c := match op with | .biInv => 39 | .biData => 40 | _ => 41
  (d.count (cTile t c)).emit t
    { op := op, dst := d.edgeOf h, src := d.ownEdge, inst := inst, addr := BitVec.ofNat 64 (d.dpaOf h inst (addrOf line)) }

/-- The hosts of a list that can still answer: a dead host counts as having answered I (R321). -/
def Dev.alive (d : Dev) (hs : List Nat) : List Nat := hs.filter fun h => !d.dead h

/-- Send every living host of a list a back-invalidate. -/
def Dev.snoopAll (d : Dev) (t line : Nat) (inst : Option (Fin 1024)) (op : Op) (hs : List Nat) : Dev :=
  (d.alive hs).foldl (fun d h => d.snoop t line h inst op) d

/-- Answer a request: by the route entry of its SRC_EDGE, with its tag (R167, R168). -/
def Dev.answer (d : Dev) (t : Nat) (m : Msg) (op : Op) (line : BitVec 512 := 0) (poison : Bool := false)
    (pay : List (BitVec 8) := []) : Dev :=
  d.emit t { op := op, dst := m.src, src := d.ownEdge, sseq := m.sseq, inst := m.inst, gen := m.gen, tag := m.tag,
             addr := m.addr, line := line, poison := poison, pay := pay }

/-! ### Writeback slots, the prefetch buffer and poison marks -/

/-- The newest writeback slot that holds a line. -/
def Slice.wbOf (s : Slice) (line : Nat) : Option Wb := (s.wbs.filter fun b => b.line == line).getLast?

/-- The lowest number not in use. -/
def lowest (used : List Nat) (n : Nat) : Nat := ((List.range n).find? fun k => !used.contains k).getD 0

/-- Drop the prefetch buffer line of a written line (R314). -/
def Dev.dropPf (d : Dev) (t line : Nat) : Dev :=
  let s := d.slice t
  let keep := s.pf.filter fun x => x.1 != line
  if keep.length = s.pf.length then d
  else (d.count (cTile t 53) (s.pf.length - keep.length)).setSlice t { s with pf := keep }

/-- A write, not a read or an eviction notice. -/
def TOp.writes (o : TOp) : Bool := match o.m.op with | .wrI | .wrS | .wrA => true | _ => false

/-- The writeback slots in use and those that accepted writes will take when their transactions end (R278). -/
def Slice.slotsUsed (s : Slice) : Nat :=
  s.wbs.length + (s.trks.filter fun k => !k.done && decide (k.job = .demand) && k.op.writes).length

/-- A tracker number that no transaction and no late completion uses (R319). -/
def Slice.newTrk (s : Slice) : Nat := lowest (s.trks.map (·.id) ++ s.late) 4096

/-- Trackers are free beyond those that the waybills reserve (R279). -/
def Slice.trkFree (s : Slice) : Bool := decide (s.trks.length + s.parked.length + s.p.length < 4096)

/-- Put written data in a writeback slot and issue the target write (R278). -/
def Dev.writeSlot (d : Dev) (t : Nat) (b : Wb) : Dev :=
  let s := d.slice t
  let id := lowest (s.wbs.map (·.id) ++ s.late.map (· - 4096)) 512
  let d := d.setSlice t { s with wbs := s.wbs ++ [{ b with id := id }] }
  (d.dropPf t b.line).toTarget t b.line
    { op := .wrI, tag := tgtTag t 1 id, be := b.be, line := b.data, poison := b.poison }

/-- Accept a write's data: slot, target write, and the mark cleared by a full line (R309). -/
def Dev.acceptWrite (d : Dev) (t line : Nat) (o : TOp) : Dev :=
  let d := d.writeSlot t
    { id := 0, line := line, data := o.m.line, be := o.m.be, poison := o.m.poison, through := false, spill := false,
      host := o.host, inst := o.m.inst, fold := o.fold }
  if o.m.be = BitVec.allOnes 64 then
    match d.findKey line with
    | some k =>
      let e := d.entry k
      (if e.poison then d.count (cTile t 55) else d).putEntry k (if e.st = .u then Entry.free else { e with poison := false })
    | none => d
  else d

/-- The slot of a poisoned write-through. -/
def Wb.thru (line : Nat) (spill : Bool) : Wb :=
  { id := 0, line := line, data := 0, be := BitVec.allOnes 64, poison := true, through := true, spill := spill, host := 0,
    inst := none, fold := none }

/-- The poisoned write-through of R307. It waits while no writeback slot is free. DEDUCED, unsafe: log entry 25. -/
def Dev.poisonThrough (d : Dev) (t line : Nat) (spill : Bool := false) : Dev :=
  let s := d.slice t
  if s.slotsUsed < 512 then d.writeSlot t (Wb.thru line spill)
  else d.setSlice t { s with thru := s.thru ++ [(line, spill)] }

/-- A writeback slot is free: the oldest write-through that waits takes it. -/
def Dev.nextThru (d : Dev) (t : Nat) : Dev :=
  let s := d.slice t
  match s.thru with
  | (line, spill) :: l => if s.slotsUsed < 512 then (d.setSlice t { s with thru := l }).writeSlot t (Wb.thru line spill) else d
  | [] => d

/-- Marks a set holds. -/
def Dev.marksIn (d : Dev) (t set : Nat) : List Nat :=
  (List.range 16).filter fun w => (d.entry (dirKey t set w)).poison && !d.wayLost t set w

/-- The bound of R310 on marks per set; every slice uses slice 0's value (R328). -/
def Dev.markLim (d : Dev) : Nat :=
  let v := d.get F.DIR_RECOV_CTL.MARK_LIM
  if v = 0 then 1 else min v 12

/-- The way with the highest age of a list, the lowest way on a tie (R282, R310). -/
def Dev.oldest (d : Dev) (t set : Nat) (ways : List Nat) : Option Nat :=
  let top := (ways.map fun w => (d.entry (dirKey t set w)).age).foldl max 0
  ways.find? fun w => (d.entry (dirKey t set w)).age == top

/-- Set a poison mark on a line (R307, R310): on its entry, in a free way, or waiting for a way or for a spill, which the
following edges of its slice find. -/
def Dev.mark (d : Dev) (line : Nat) (through : Bool) : Dev :=
  let t := homeSlice line
  let old := ((d.findKey line).map fun k => (d.entry k).poison).getD false || (d.slice t).marks.any (fun x => x.1 == line)
  let d := if old then d
    else ({ d with coh := { d.coh with durable := d.coh.durable.filter (· != line) } }).count (cTile t 54)
  let d := if through then d.poisonThrough t line else d
  let s := d.slice t
  if old then d
  else if d.markLim ≤ (d.marksIn t (setOf line)).length then d.setSlice t { s with marks := s.marks ++ [(line, [])] }
  else match d.findKey line, d.freeWay line with
    | some k, _ => d.putEntry k { d.entry k with poison := true }
    | none, some k => (d.putEntry k { Entry.free with tag := tagOf line, poison := true }).touch k
    | none, none => d.setSlice t { s with marks := s.marks ++ [(line, [])] }

/-- The poison mark of a line that has way `k`, with entry `e`, and keeps no holder (R313, R322): it stays there while its set may
hold a further mark, else it waits for a spill (R310). -/
def Dev.markWay (d : Dev) (k line : Nat) (e : Entry) (through : Bool) : Dev :=
  let t := k / 16 / 2 ^ 18
  let d := if e.poison then d
    else ({ d with coh := { d.coh with durable := d.coh.durable.filter (· != line) } }).count (cTile t 54)
  let d := if through then d.poisonThrough t line else d
  if !e.poison && decide (d.markLim ≤ (d.marksIn t (k / 16 % 2 ^ 18)).length) then
    let d := d.putEntry k Entry.free
    d.setSlice t { d.slice t with marks := (d.slice t).marks ++ [(line, [])] }
  else d.putEntry k { Entry.free with tag := e.tag, poison := true, age := e.age }

/-- One FK_ record of chapter 08 with the line's address (R332), with its DIR_ERR bit set. -/
def Dev.cohFault (d : Dev) (k : Kind) (errBit : Fld) (t idx addr : Nat) : Dev :=
  (d.set errBit t).raise k (uTile t 0x13) idx addr

end Sys2Proof.Machine
end

