-- ==== Sys2Proof/Machine/Tollgate.lean ====
section
/-!
DEFINITION. The tollgate: the transactions of a slice from acceptance to their end (R275 to R282, R297 to R306).
-/

namespace Sys2Proof.Machine

/-! ### Trackers -/

def Slice.trk? (s : Slice) (id : Nat) : Option Trk := s.trks.find? fun k => k.id == id

def Dev.setTrk (d : Dev) (t : Nat) (k : Trk) : Dev :=
  let s := d.slice t
  d.setSlice t { s with trks := s.trks.map fun j => if j.id = k.id then k else j }

def Dev.freeTrk (d : Dev) (t id : Nat) : Dev :=
  let s := d.slice t
  d.setSlice t { s with trks := s.trks.filter fun j => j.id != id }

/-- The running transaction on a line. -/
def Slice.trkOn (s : Slice) (line : Nat) : Option Trk := s.trks.find? fun k => !k.done && k.line == line

/-- The transaction that evicts a line (R304). -/
def Slice.evictOn (s : Slice) (line : Nat) : Option Trk :=
  s.trks.find? fun k => match k.evict with
    | some v => v.line == line
    | none => false

/-- Whether a line is busy: under a transaction, being evicted, or waiting for its mark (R280, R304, R310). -/
def Slice.busy (s : Slice) (line : Nat) : Bool :=
  (s.trkOn line).isSome || (s.evictOn line).isSome || s.marks.any (fun x => x.1 == line)

/-- A re-injected request waits for the same release: for the line, or for each free way of the set. -/
def Dev.reinjected (d : Dev) (t : Nat) (on : ParkOn) : Bool :=
  let s := d.slice t
  match on with
  | .line l => s.p.any fun o => lineOf o.m.addr.toNat == l
  | .set n =>
    let free := (List.range 16).filter fun w => !(d.entry (dirKey t n w)).valid && !d.wayLost t n w
    decide (free.length ≤ (s.p.filter fun o => setOf (lineOf o.m.addr.toNat) == n).length)

/-- Re-inject the oldest request parked on a line or on a set, and only that one, unless one has been already (R280). -/
def Dev.release (d : Dev) (t : Nat) (on : ParkOn) : Dev :=
  let s := d.slice t
  match s.parked.find? fun x => decide (x.1 = on) with
  | some x => if d.reinjected t on then d else d.setSlice t { s with parked := s.parked.erase x, p := s.p ++ [x.2] }
  | none => d

/-- A line has left B, and a way of its set may be free (R280, R282). -/
def Dev.released (d : Dev) (t line : Nat) : Dev :=
  (d.release t (.line line)).release t (.set (setOf line))

/-! ### The end of a transaction (R275, R276, R298) -/

/-- The entry after a request ended, from the holders that remain: the "After" column of R275. -/
def Dev.after (d : Dev) (k : Trk) : Entry :=
  let e := { k.before with tag := tagOf k.line }
  let h := k.op.host
  let hold := k.before.sharers
  let prev := if k.before.st = .x then some k.before.owner else none
  let ctx (x : Entry) : Entry := if x.sharers = 0 then x else { x with inst := k.op.m.inst }
  if k.noAdd || !k.op.local_ || k.op.uncached then
    match k.op.m.op with
    | .wrI | .wrS | .wrA => e.settle (.u, 0) 0
    | _ => e.settle (d.leftName k.before hold) hold
  else
    match k.op.m.op with
    | .rdS =>
      let hs := addHost hold h
      if k.before.st = .f && !k.nacked && hold.getLsbD k.before.owner && d.bit F.DIR_CTL.FWD_EN then
        ctx (e.settle (.f, k.before.owner) hs)
      else ctx (e.settle (d.name prev (some h) hs) hs)
    | .rdA | .invA => ctx (e.settle (.x, h) (bitOf h))
    | .wrI => e.settle (.u, 0) 0
    | .wrS => ctx (e.settle (d.name none (some h) (bitOf h)) (bitOf h))
    | .wrA => ctx (e.settle (.x, h) (bitOf h))
    | _ => e.settle (d.leftName k.before hold) hold

/-- The state in which a sharer of an entry holds the line: F for its responder (R269, R273). -/
def Entry.grants (e : Entry) (h : Nat) : Hold := if e.st = .f && e.owner = h then .f else .s

/-- The completion of a request with the state its row grants (R275). -/
def Dev.complete (d : Dev) (t : Nat) (k : Trk) (after : Entry) : Dev :=
  let (line, poison) := k.data.getD (0, false)
  match k.op.m.op with
  | .rdS =>
    if k.noAdd || k.op.uncached || !k.op.local_ then d.answer t k.op.m (.data .i) line poison
    else if after.st = .f && after.owner = k.op.host then d.answer t k.op.m .fData line poison
    else d.answer t k.op.m (.data .s) line poison
  | .rdA => d.answer t k.op.m (.data (if k.noAdd then .i else .e)) line poison
  | .invA =>
    if k.needData then d.answer t k.op.m (.data (if k.noAdd then .i else .e)) line poison
    else d.answer t k.op.m (.cmp .e)
  | .wrS => d.answer t k.op.m (.cmp (after.grants k.op.host))
  | .wrA => d.answer t k.op.m (.cmp .e)
  | .wrI => d.answer t k.op.m (.cmp .i)
  | .cln => d.answer t k.op.m (.cmp .i)
  | _ => d.answer t k.op.m (.data .i) line poison

/-- Raise the prefetch hints of a demand read that read the target (R311). -/
def Dev.hints (d : Dev) (line : Nat) : Dev :=
  match d.windowOf (addrOf line) with
  | some w =>
    if d.bit F.WIN.PF_EN w then
      (List.range (d.get F.WIN.PF_DEPTH w)).foldl (fun d j =>
        let l := line + j + 1
        if addrOf l < d.winBase w + d.winSize w then
          let t := homeSlice l
          let s := d.slice t
          let d := d.count (cTile t 48)
          if s.hints.length < 64 && decide (d.get F.PWR_SAG_STATUS.STAGE < 2) then d.setSlice t { s with hints := s.hints ++ [l] } else d.count (cTile t 49)
        else d) d
    else d
  | none => d

/-- End a transaction: the entry takes its state after, the request is answered, and the line is released. The tracker
stays while a late response is owed (R300). -/
def Dev.finish (d : Dev) (t : Nat) (k : Trk) : Dev :=
  let a := d.after k
  let a := match k.key with
    | some j => { a with poison := (d.entry j).poison, age := (d.entry j).age }
    | none => a
  let a := if a.sharers = 0 && !a.poison then Entry.free else a
  let d := match k.key with
    | some j => d.putEntry j a
    | none => d
  let d := match k.job with
    | .demand =>
      let d := match k.op.m.op with
        | .wrI | .wrS | .wrA => d.acceptWrite t k.line k.op
        | _ => d
      if k.op.fold.isSome then d else d.complete t k a
    | _ => d
  let d := if k.owed = [] then d.freeTrk t k.id else d.setTrk t { k with done := true }
  d.released t k.line

/-! ### Progress of a transaction -/

/-- Take a way for a transaction that needs a new entry: a free one, or the victim of R282. Nothing happens while no
way qualifies. -/
def Dev.takeWay (d : Dev) (t : Nat) (k : Trk) : Dev × Trk :=
  let set := setOf k.line
  let ent (d : Dev) (key : Nat) : Dev :=
    (d.putEntry key { Entry.free with tag := tagOf k.line, st := .b, inst := k.op.m.inst, trk := k.id }).touch key
  match d.freeWay k.line with
  | some key => (ent d key, { k with key := some key, needWay := false })
  | none =>
    let ok := (List.range 16).filter fun w =>
      let e := d.entry (dirKey t set w)
      decide (e.st ≠ .b) && !e.poison && !d.wayLost t set w
    match d.oldest t set ok with
    | some w =>
      let key := dirKey t set w
      let e := d.entry key
      let line := lineFrom t set e.tag
      let hs := d.alive (hostsOf e.sharers)
      let d := (((d.count (cTile t 44)).putEntry key { e with st := .b, trk := k.id }).touch key).snoopAll t line e.inst .biInv hs
      (d, { k with evict := some { key := key, line := line, before := e, bi := hs }, needWay := false })
    | none => (d, k)

/-- Obtain the data of a read: the mark, the writeback slot, the prefetch buffer, or the target (R278, R308, R314). -/
def Dev.fetch (d : Dev) (t : Nat) (k : Trk) : Dev × Trk :=
  let s := d.slice t
  let marked := match k.key with
    | some j => (d.entry j).poison
    | none => match d.findKey k.line with
      | some j => (d.entry j).poison
      | none => false
  let marked := marked || s.marks.any (fun x => x.1 == k.line)
  if marked then (d.count (cTile t 57), { k with data := some (0, true) })
  else match s.wbOf k.line with
    | some b =>
      if b.be = BitVec.allOnes 64 then (d.count (cTile t 43), { k with data := some (b.data, b.poison) })
      else (d, k)
    | none => match s.pf.find? fun x => x.1 == k.line with
      | some x =>
        ((d.count (cTile t 51)).setSlice t { s with pf := s.pf.filter fun y => y.1 != k.line },
          { k with data := some (x.2, false) })
      | none => (((d.readTarget t k.line k.id).hints k.line), { k with reading := true })

/-- Advance a transaction by what is now known. `fuel` bounds its few stages. -/
def Dev.advance : Nat → Dev → Nat → Nat → Dev
  | 0, d, _, _ => d
  | fuel + 1, d, t, id =>
    match (d.slice t).trk? id with
    | none => d
    | some k =>
      if k.done then
        if k.owed = [] then d.freeTrk t id else d
      else if k.quota then d
      else if k.needWay then
        let (d', k') := d.takeWay t k
        let d' := d'.setTrk t k'
        if k'.needWay then d' else Dev.advance fuel d' t id
      else match k.evict with
        | some v =>
          if v.bi = [] then
            let d := d.putEntry v.key { Entry.free with tag := tagOf k.line, st := .b, inst := k.op.m.inst, trk := id }
            let d := d.setTrk t { k with evict := none, key := some v.key, crossed := false }
            Dev.advance fuel (d.release t (.line v.line)) t id
          else d
        | none =>
          -- holders in S or F hold what the target holds (R269); another context and a lost set are served after their
          -- back-invalidates (R271, R317)
          let mayFetch := k.fwd.isNone && (decide (k.bi = []) ||
            ((decide (k.before.st = .s) || decide (k.before.st = .f)) && decide (k.before.inst = k.op.m.inst)))
          if k.needData && k.data.isNone && !k.reading && mayFetch then
            let (d', k') := d.fetch t k
            let d' := d'.setTrk t k'
            if k'.data.isSome then Dev.advance fuel d' t id else d'
          else if k.bi = [] && k.fwd.isNone && !(k.needData && k.data.isNone) then d.finish t k
          else d

/-! ### Acceptance (R271, R275, R302, R317) -/

/-- The row of R275 for a request that opens a transaction: whom to back-invalidate and how, whom to forward to, and
whether data is needed. -/
structure Row where
  bi   : List Nat
  op   : Op
  fwd  : Option Nat
  data : Bool
  deriving DecidableEq, Repr

/-- The request is an RD_S, RD_A or INV_A of another context than the holders of the entry (R271). -/
def TOp.otherCtx (o : TOp) (e : Entry) : Bool :=
  (match o.m.op with | .rdS | .rdA | .invA => true | _ => false) && decide (e.sharers ≠ 0) && decide (e.inst ≠ o.m.inst)

/-- The row that a request meets, from the entry with the requester already removed (R275), its context (R271), and the
hosts a lost set adds (R317). -/
def Dev.row (d : Dev) (o : TOp) (e : Entry) (lost : List Nat) : Row :=
  let hs := hostsOf e.sharers
  let others := hs.filter (· != o.host)
  let fwd (r : Nat) : Row := { bi := [], op := .biInv, fwd := some r, data := true }
  if lost ≠ [] then { bi := lost, op := .biInv, fwd := none, data := decide (o.m.op ≠ .wrI) }
  else if o.otherCtx e then { bi := hs, op := .biInv, fwd := none, data := true }
  else match o.m.op with
    | .rdS | .rdI =>
      if e.st = .x && decide (e.sharers ≠ 0) then { bi := hs, op := .biData, fwd := none, data := true }
      else if o.m.op = .rdS && e.st = .f && d.bit F.DIR_CTL.FWD_EN && e.sharers.getLsbD e.owner && !e.poison then fwd e.owner
      else { bi := [], op := .biInv, fwd := none, data := true }
    | .rdA => { bi := others, op := .biInv, fwd := none, data := true }
    | .invA => { bi := others, op := .biInv, fwd := none, data := !e.holds o.host }
    | _ => { bi := hs, op := .biInv, fwd := none, data := false }

/-- The directory entries of instance `i` in slice `t` (R367). -/
def Dev.insEntries (d : Dev) (t : Nat) (i : Fin 1024) : Nat :=
  (d.coh.dir.filter fun x => decide (x.2.inst = some i) && x.2.valid && x.1 / 16 / 2 ^ 18 == t).length

/-- The request's instance holds its quota of entries in slice `t` (R369). -/
def Dev.dirFull (d : Dev) (t : Nat) (m : Msg) : Bool :=
  match m.inst with
  | some i => decide (d.get F.INS.Q_DIR i.val ≤ d.insEntries t i)
  | none => false

/-- Open a transaction for an accepted request of lane P or Q, or for a write that must first invalidate holders. -/
def Dev.open_ (d : Dev) (t line : Nat) (stamp : BitVec 64) (o : TOp) : Dev :=
  let key := d.findKey line
  let e0 := match key with
    | some j => d.entry j
    | none => Entry.free
  let reads := match o.m.op with
    | .rdS | .rdA | .rdI => true
    | _ => false
  -- R275: a recorded holder that reads again has dropped the line; of another context it is back-invalidated (R271)
  let stale := reads && o.local_ && e0.holds o.host && !o.otherCtx e0
  let e := if stale then
      let hold := dropHost e0.sharers o.host
      let st := if e0.st = .x then DSt.u else if e0.st = .f && e0.owner = o.host then DSt.s else e0.st
      { e0 with sharers := hold, st := if hold = 0 then .u else st }
    else e0
  let lost := if key.isNone && d.setLost t (setOf line) then
      (List.range 64).filter fun h => d.coherentHost h && !(o.local_ && h == o.host) && !d.dead h
    else []
  let r := d.row o e lost
  let ctxInv := o.otherCtx e
  let bi := d.alive r.bi
  let gone := r.bi.filter fun h => d.dead h
  let e1 := { e with sharers := gone.foldl dropHost e.sharers }
  let needs := match o.m.op with
    | .rdS | .rdA | .invA => o.local_ && !o.uncached
    | .wrS | .wrA => true
    | _ => false
  let s := d.slice t
  let id := s.newTrk
  let quota := key.isNone && needs && d.dirFull t o.m
  let k : Trk :=
    { id := id, line := line, job := .demand, op := o, stamp := stamp, key := key, before := e1, bi := bi, owed := [],
      fwd := if (r.fwd.map d.dead).getD false then none else r.fwd, nacked := (r.fwd.map d.dead).getD false,
      evict := none, needWay := key.isNone && needs, quota := quota, reading := false, needData := r.data,
      data := none, done := false, noAdd := false }
  let d := d.setSlice t { s with trks := s.trks ++ [k] }
  let d := match key with
    | some j => (d.putEntry j { e0 with st := .b, trk := id }).touch j
    | none => d
  -- R307, R321: the dead owner of a line takes its data with it
  let d := if e.st = .x && decide (e.sharers ≠ 0) && d.dead e.owner then d.mark line true else d
  let d := if lost = [] then d else d.count (cTile t 59) lost.length
  let d := if ctxInv then d.count (cTile t 45) bi.length else d
  let d := d.snoopAll t line e0.inst r.op bi
  let d := match k.fwd with
    | some r => d.snoop t line r e0.inst .fwdSnp
    | none => d
  d.advance 8 t id

/-- An acceptance touches the entry of its line, if there is one (R272). -/
def Dev.touchLine (d : Dev) (line : Nat) : Dev :=
  match d.findKey line with
  | some k => d.touch k
  | none => d

/-- A write accepted on a line that is not busy (R275, R317). -/
def Dev.runWrite (d : Dev) (t line : Nat) (stamp : BitVec 64) (o : TOp) : Dev :=
  let key := d.findKey line
  let e := match key with
    | some j => d.entry j
    | none => Entry.free
  let owner := o.local_ && e.st = .x && e.owner = o.host
  let genuine := key.isNone && d.setLost t (setOf line) && o.local_
  let bad := decide (o.m.op ≠ .wrI) && (o.uncached || (!owner && !genuine))
  let d := if bad then d.cohFault .cohProtocol F.DIR_ERR.COH_PROTOCOL t o.host (addrOf line) else d
  let o := if bad then { o with m := { o.m with op := .wrI } } else o
  if owner then
    let e' := match o.m.op with
      | .wrS => e.settle (d.name none (some o.host) (bitOf o.host)) (bitOf o.host)
      | .wrA => e
      | _ => e.settle (.u, 0) 0
    let d := match key with
      | some j => (d.putEntry j e').touch j
      | none => d
    let d := d.acceptWrite t line o
    let d := d.answer t o.m (.cmp (match o.m.op with | .wrS => e'.grants o.host | .wrA => .e | _ => .i))
    d.released t line
  else if e.sharers = 0 && !(key.isNone && d.setLost t (setOf line) && o.m.op = .wrI) && o.m.op = .wrI then
    let d := (d.touchLine line).acceptWrite t line o
    let d := if o.fold.isSome then d else d.answer t o.m (.cmp .i)
    d.released t line
  else if o.m.op = .wrI then d.open_ t line stamp o
  else
    -- a genuine writeback to a lost set: recorded as a holder once it has a way
    let s := d.slice t
    let id := s.newTrk
    let k : Trk :=
      { id := id, line := line, job := .demand, op := o, stamp := stamp, key := none, before := Entry.free, bi := [],
        owed := [], fwd := none, nacked := false, evict := none, needWay := true, quota := false, reading := false,
        needData := false, data := none, done := false, noAdd := false }
    (d.setSlice t { s with trks := s.trks ++ [k] }).advance 8 t id

/-- A clean eviction notice accepted on a line that is not busy (R275, R308). -/
def Dev.runCln (d : Dev) (t line : Nat) (o : TOp) : Dev :=
  let d := if o.uncached then d.cohFault .cohProtocol F.DIR_ERR.COH_PROTOCOL t o.host (addrOf line) else d
  let d := match d.findKey line with
    | some j =>
      let e := d.entry j
      if o.local_ && !o.uncached && e.holds o.host then
        let hold := dropHost e.sharers o.host
        (d.putEntry j (e.settle (d.leftName e hold) hold)).touch j
      else d
    | none => d
  (d.answer t o.m (.cmp .i)).released t line

/-- Count an acceptance by kind (R296). -/
def acceptCtr : Op → Nat
  | .rdS => 30 | .rdA => 31 | .rdI => 32 | .invA => 33 | .cln => 35 | _ => 34

/-- Take the next order stamp of slice `t` (R47, R280). -/
def Dev.stamp (d : Dev) (t : Nat) : BitVec 64 × Dev :=
  let n := d.get F.DIR_STAMP.COUNT t
  (BitVec.ofNat 64 (t * 2 ^ 61 + n), d.put F.DIR_STAMP.COUNT t (n + 1))

/-- Carry out an accepted operation on a line that is not busy. -/
def Dev.run (d : Dev) (t : Nat) (o : TOp) : Dev :=
  let line := lineOf o.m.addr.toNat
  let (st, d) := d.stamp t
  let d := d.count (cTile t (acceptCtr o.m.op))
  match o.m.op with
  | .wrI | .wrS | .wrA => d.runWrite t line st o
  | .cln => d.runCln t line o
  | .rdS | .rdA | .rdI | .invA =>
    if o.uncached && decide (o.m.op ≠ .rdI) then
      -- R263, R285
      let d := d.cohFault .cohProtocol F.DIR_ERR.COH_PROTOCOL t o.host (addrOf line)
      if o.m.op = .invA then (d.answer t o.m (.cmp .i)).released t line
      else (d.answer t o.m (.data .i) 0 true).released t line
    else d.open_ t line st o
  | _ => d

/-- A write or eviction notice that joins the running transaction of its line (R280, R299, R300, R306). -/
def Dev.join (d : Dev) (t : Nat) (o : TOp) : Dev :=
  let line := lineOf o.m.addr.toNat
  let (_, d) := d.stamp t
  let d := (d.count (cTile t (acceptCtr o.m.op))).touchLine line
  let s := d.slice t
  match o.m.op with
  | .cln =>
    let d := if o.uncached then d.cohFault .cohProtocol F.DIR_ERR.COH_PROTOCOL t o.host (addrOf line) else d
    let d := d.answer t o.m (.cmp .i)
    if o.uncached then d
    else match s.trkOn line with
    | some k =>
      if k.bi.contains o.host then
        let k := { k with bi := k.bi.erase o.host, owed := k.owed ++ [(o.host, line)],
                          before := { k.before with sharers := dropHost k.before.sharers o.host } }
        ((d.count (cTile t 46)).setTrk t k).advance 8 t k.id
      else if k.fwd = some o.host then d
      else d.setTrk t { k with before := { k.before with sharers := dropHost k.before.sharers o.host } }
    | none =>
      match s.evictOn line with
      | some k =>
        match k.evict with
        | some v =>
          if v.bi.contains o.host then
            let k := { k with evict := some { v with bi := v.bi.erase o.host }, owed := k.owed ++ [(o.host, line)] }
            ((d.count (cTile t 46)).setTrk t k).advance 8 t k.id
          else d
        | none => d
      | none => d
  | _ =>
    let k? := s.trks.find? fun k => (k.line == line && k.bi.contains o.host) || match k.evict with
      | some v => v.line == line && v.bi.contains o.host
      | none => false
    let bad := decide (o.m.op ≠ .wrI) && (o.uncached || k?.isNone)
    let d := if bad then d.cohFault .cohProtocol F.DIR_ERR.COH_PROTOCOL t o.host (addrOf line) else d
    let o := if bad then { o with m := { o.m with op := .wrI } } else o
    let d := match k? with
      | some k => d.setTrk t { k with crossed := true }
      | none => d
    let d := d.acceptWrite t line o
    let d := d.answer t o.m (.cmp (match o.m.op with | .wrS => .s | .wrA => .e | _ => .i))
    -- a read of the line that waits for its holder takes the data from the slot (R299)
    match s.trkOn line with
    | some k => if k.job = .demand then d.advance 8 t k.id else d
    | none => d

/-- Whether the sender of a write takes part in its line's transaction (R280). -/
def Slice.participant (s : Slice) (line h : Nat) : Bool :=
  match s.trkOn line with
  | some k => k.before.holds h || k.bi.contains h || k.fwd == some h
  | none =>
    match s.evictOn line with
    | some k => match k.evict with
      | some v => v.before.holds h || v.bi.contains h
      | none => false
    | none => false

/-! ### Lane R (R277, R285, R297 to R300) -/

/-- A host's answer to a back-invalidate. `keep` leaves it a sharer, otherwise it is removed (R298). -/
def Dev.biAnswer (d : Dev) (t line h : Nat) (keep : Bool) : Dev :=
  let s := d.slice t
  match s.trks.find? fun k => k.line == line && k.bi.contains h with
  | some k =>
    let hold := if keep then k.before.sharers else dropHost k.before.sharers h
    let k := { k with bi := k.bi.erase h, before := { k.before with sharers := hold } }
    (d.setTrk t k).advance 8 t k.id
  | none =>
    let late := match s.trks.find? fun k => k.owed.contains (h, line) with
      | some k => ((d.count (cTile t 58)).setTrk t { k with owed := k.owed.erase (h, line) }).advance 8 t k.id
      | none => d.cohFault .cohProtocol F.DIR_ERR.COH_PROTOCOL t h (addrOf line)
    match s.evictOn line with
    | some k =>
      match k.evict with
      | some v =>
        if v.bi.contains h then
          let k := { k with evict := some { v with bi := v.bi.erase h } }
          (d.setTrk t k).advance 8 t k.id
        else late
      | none => late
    | none => late

/-- FWD_DATA or FWD_NACK from the responder (R275, R298). -/
def Dev.fwdAnswer (d : Dev) (t line h : Nat) (data : Option (BitVec 512 × Bool)) : Dev :=
  match (d.slice t).trks.find? fun k => k.line == line && k.fwd == some h with
  | some k =>
    match data with
    | some x => (d.setTrk t { k with fwd := none, data := some x }).advance 8 t k.id
    | none =>
      let k := { k with fwd := none, nacked := true,
                        before := { k.before with sharers := dropHost k.before.sharers h } }
      (((d.count (cTile t 42)).count (cTile t 46)).setTrk t k).advance 8 t k.id
  | none => d.cohFault .cohProtocol F.DIR_ERR.COH_PROTOCOL t h (addrOf line)

/-- A fold's result write has ended at the target (R349); `bad` when it timed out (R348). -/
def Dev.foldWrote (d : Dev) (f l : Nat) (bad : Bool) : Dev :=
  let r := d.bld.folds.get FoldRt.empty f
  let d := { d with bld := { d.bld with folds := d.bld.folds.put FoldRt.empty f { r with writing := r.writing.erase l } } }
  if bad && !(r.acc.get (0, false) l).2 then d.addSat F.FOLD.POISONED f 1 else d

/-- R285: a target completion that no request asked for is logged, discarded and counted. Its record names the line of the
tracker that its tag names; else the address is open. DEDUCED, safe: log entry 21. -/
def Dev.unasked (d : Dev) (t port : Nat) (line : Option Nat) : Dev :=
  (d.count (cTile (port / 8) 7)).cohFault .cohProtocol F.DIR_ERR.COH_PROTOCOL t port
    ((line.map addrOf).getD (Config.faultAddr Kind.cohProtocol.code port).toNat)

/-- The completion of a target write: its slot is free (R278), a spilled mark frees its way (R310). -/
def Dev.wrote (d : Dev) (t id port : Nat) : Dev :=
  let s := d.slice t
  match s.wbs.find? fun b => b.id == id with
  | none =>
    if s.late.contains (4096 + id) then
      (d.count (cTile t 61)).setSlice t { s with late := s.late.erase (4096 + id) }
    else d.unasked t port none
  | some b =>
    let d := d.setSlice t { s with wbs := s.wbs.erase b }
    let d := if b.through then
        { d with coh := { d.coh with keepMarks := d.coh.keepMarks.erase b.line, durable := d.coh.durable ++ [b.line] } }
      else d
    let d := d.nextThru t
    let d := match b.fold with
      | some (f, l) => d.foldWrote f l false
      | none => d
    let d := if b.spill then
        match d.findKey b.line with
        | some k => (d.putEntry k Entry.free).released t b.line
        | none => d
      else d
    -- a read that waited for a partial slot goes on (R278)
    match (d.slice t).trkOn b.line with
    | some k => d.advance 8 t k.id
    | none => d

/-- The return of a target read (R275, R313). -/
def Dev.readReturn (d : Dev) (t id port : Nat) (data : BitVec 512) (poison : Bool) : Dev :=
  let s := d.slice t
  match s.trks.find? fun k => k.id == id && k.reading with
  | none =>
    if s.late.contains id then (d.count (cTile t 61)).setSlice t { s with late := s.late.erase id }
    else d.unasked t port ((s.trk? id).map (·.line))
  | some k =>
    match k.job with
    | .prefetch =>
      let d := d.freeTrk t id
      let d := match k.key with
        | some j =>
          if poison then
            (d.markWay j k.line { Entry.free with tag := tagOf k.line } false).cohFault .specReadErr F.DIR_ERR.SPEC_READ_ERR t t (addrOf k.line + 1)
          else
            let d := d.putEntry j Entry.free
            d.setSlice t { d.slice t with pf := (d.slice t).pf ++ [(k.line, data)] }
        | none => d
      d.released t k.line
    | _ => (d.setTrk t { k with reading := false, data := some (data, poison) }).advance 8 t id

/-- Absorb one response of lane R. -/
def Dev.absorb (d : Dev) (t : Nat) (r : RIn) : Dev :=
  match r.m.op, r.host with
  | .biRsp h, some p => d.biAnswer t r.line p (decide (h ≠ .i))
  | .fwdData, some p => d.fwdAnswer t r.line p (some (r.m.line, r.m.poison))
  | .fwdNack, some p => d.fwdAnswer t r.line p none
  | .data _, _ => d.readReturn t (r.m.tag.toNat % 4096) r.port r.m.line r.m.poison
  | .cmp _, _ => d.wrote t (r.m.tag.toNat % 4096) r.port
  | _, _ => d

/-- Back-invalidate the holders `hs` of an entry that is not under a transaction. -/
def Dev.flushEntry (d : Dev) (k : Nat) (e : Entry) (hs : List Nat) : Dev :=
  let t := k / 16 / 2 ^ 18
  let line := lineAtKey k e.tag
  let s := d.slice t
  let id := s.newTrk
  let o : TOp := { m := { op := .rdI, addr := BitVec.ofNat 64 (addrOf line) }, host := 0, local_ := false, tile := t,
                   uncached := true, fold := none }
  let live := d.alive hs
  let gone := hs.filter fun h => d.dead h
  let tr : Trk :=
    { id := id, line := line, job := .flush, op := o, stamp := 0, key := some k,
      before := { e with sharers := gone.foldl dropHost e.sharers }, bi := live, owed := [], fwd := none, nacked := false,
      evict := none, needWay := false, quota := false, reading := false, needData := false, data := none, done := false,
      noAdd := true }
  let d := d.putEntry k { e with st := .b, trk := id }
  let d := d.setSlice t { s with trks := s.trks ++ [tr] }
  (d.snoopAll t line e.inst .biInv live).advance 8 t id

/-- R310: spill the mark with the highest age among those whose spill has not been tried for `x`: a poisoned write-through, and
its way is free when that completes, at once if one has completed already. One spill of a set runs at a time. -/
def Dev.spillMark (d : Dev) (t : Nat) (x : Nat × List Nat) : Dev × Nat × List Nat :=
  let set := setOf x.1
  let lineOfWay (w : Nat) : Nat := lineFrom t set (d.entry (dirKey t set w)).tag
  let s := d.slice t
  if s.wbs.any (fun b => b.spill && setOf b.line == set) || s.thru.any (fun y => y.2 && setOf y.1 == set) then (d, x)
  else
    let ms := (d.marksIn t set).filter fun w => decide ((d.entry (dirKey t set w)).st = .u)
    let left := ms.filter fun w => !x.2.contains (lineOfWay w)
    match d.oldest t set (if left = [] then ms else left) with
    | some w =>
      let l := lineOfWay w
      let d := d.count (cTile t 56)
      (if d.coh.durable.contains l then (d.putEntry (dirKey t set w) Entry.free).released t l else d.poisonThrough t l true,
        x.1, if left = [] then [l] else x.2 ++ [l])
    | none => (d, x)

/-- R310: go on placing a mark that waits: a spill of the oldest mark while the set holds MARK_LIM, else on the entry of the
line, in a free way, or in the way of a victim of R282. None once it is placed. -/
def Dev.placeMark (d : Dev) (t : Nat) (x : Nat × List Nat) : Dev × Option (Nat × List Nat) :=
  let set := setOf x.1
  let has := ((d.findKey x.1).map fun k => (d.entry k).poison).getD false
  if has then (d, none)
  else if d.markLim ≤ (d.marksIn t set).length then
    let (d, y) := d.spillMark t x
    (d, some y)
  else match d.findKey x.1, d.freeWay x.1 with
    | some k, _ => (d.putEntry k { d.entry k with poison := true }, none)
    | none, some k => ((d.putEntry k { Entry.free with tag := tagOf x.1, poison := true }).touch k, none)
    | none, none =>
      if (d.slice t).trks.any (fun k => k.job = .flush && setOf k.line == set) || !(d.slice t).trkFree then (d, some x)
      else
        let ok := (List.range 16).filter fun w =>
          let e := d.entry (dirKey t set w)
          decide (e.st ≠ .b) && !e.poison && !d.wayLost t set w
        match d.oldest t set ok with
        | some w =>
          let e := d.entry (dirKey t set w)
          ((d.count (cTile t 44)).flushEntry (dirKey t set w) e (hostsOf e.sharers), some x)
        | none => (d, some x)

/-- Every mark of slice `t` that waits for a way. A line whose mark is placed is no longer busy. -/
def Dev.placeMarks (d : Dev) (t : Nat) : Dev :=
  (d.slice t).marks.foldl (fun d x =>
    let (d, y) := d.placeMark t x
    let s := d.slice t
    match y with
    | some y => d.setSlice t { s with marks := s.marks.map fun z => if z.1 = x.1 then y else z }
    | none => (d.setSlice t { s with marks := s.marks.filter fun z => z.1 != x.1 }).release t (.line x.1)) d

/-! ### The edge (R279, R280) -/

/-- The heads of the write inputs, one per source tile, in the order of arrival. -/
def Slice.wHeads (s : Slice) : List TOp :=
  s.w.foldl (fun l o => if l.any fun x => x.tile == o.tile then l else l ++ [o]) []

/-- A write that is accepted in lane W: its line is free or its sender takes part in the transaction, and no earlier write of
its sender to the line waits at a request input (R280). -/
def Slice.staysW (s : Slice) (o : TOp) : Bool :=
  let line := lineOf o.m.addr.toNat
  (!s.busy line || (o.local_ && s.participant line o.host)) &&
    !((s.q ++ s.parked.map (·.2) ++ s.p).any fun x =>
      x.host == o.host && lineOf x.m.addr.toNat == line && (x.writes || x.m.op = .cln) && x.fold.isNone)

/-- Move the other heads of the write inputs to the request inputs (R280). -/
def Dev.moveWrites (d : Dev) (t : Nat) : Dev :=
  let s := d.slice t
  let go := s.wHeads.filter fun o => !s.staysW o
  d.setSlice t { s with w := go.foldl List.erase s.w, q := s.q ++ go }

/-- The heads of the request inputs, one per source tile. -/
def Slice.qHeads (s : Slice) : List TOp :=
  (List.range 8).filterMap fun t => s.q.find? fun o => o.tile == t

/-- Lane Q's pick: the first host index at or after the pointer. -/
def Slice.qPick (s : Slice) (ptr : Nat) : Option TOp :=
  let hs := s.qHeads
  let best := (hs.map fun o => (o.host + 64 - ptr % 64) % 64).foldl min 64
  hs.find? fun o => (o.host + 64 - ptr % 64) % 64 == best

/-- Whether a request that needs a new entry finds a way of its set that qualifies (R282, R305). -/
def Dev.wayOk (d : Dev) (t : Nat) (o : TOp) : Bool :=
  let line := lineOf o.m.addr.toNat
  (d.findKey line).isSome || (d.freeWay line).isSome ||
    (match o.m.op with | .rdS | .rdA | .invA => !o.local_ || o.uncached | _ => true) ||
    (List.range 16).any fun w =>
      let e := d.entry (dirKey t (setOf line) w)
      decide (e.st ≠ .b) && !e.poison && !d.wayLost t (setOf line) w

/-- What lane W takes: a head that stays, with a free writeback slot. -/
def Slice.wPick (s : Slice) : Option TOp := if s.slotsUsed < 512 then s.wHeads.find? s.staysW else none

/-- A write that finds no free writeback slot. DEDUCED, unsafe: log entry 25. -/
def Slice.noSlot (s : Slice) (o : TOp) : Bool := o.writes && decide (512 ≤ s.slotsUsed)

/-- What lane P takes: its head, once its line is free and a way qualifies (R280, R305). -/
def Dev.pPick (d : Dev) (t : Nat) : Option TOp :=
  let s := d.slice t
  match s.p with
  | o :: _ => if s.busy (lineOf o.m.addr.toNat) || !d.wayOk t o || s.noSlot o then none else some o
  | [] => none

/-- One edge of slice `t`'s tollgate: responses are absorbed, then one operation is taken in lane order. -/
def Dev.tollgate (d : Dev) (t : Nat) : Dev :=
  let rs := (d.slice t).r
  let d := d.setSlice t { d.slice t with r := [] }
  let d := rs.foldl (fun d r => d.absorb t r) d
  -- requests that waited for their instance's quota (R369)
  let d := (d.slice t).trks.foldl (fun d k =>
    if k.quota && !d.dirFull t k.op.m then (d.setTrk t { k with quota := false }).advance 8 t k.id else d) d
  -- marks that wait for a way (R310) and transactions that wait for one (R282)
  let d := d.placeMarks t
  let d := (d.slice t).trks.foldl (fun d k => if k.needWay then d.advance 8 t k.id else d) d
  let w := (d.slice t).wPick
  let d := d.moveWrites t
  let s := d.slice t
  match w with
  | some o =>
    let d := d.setSlice t { s with w := s.w.erase o }
    if s.busy (lineOf o.m.addr.toNat) then d.join t o else d.run t o
  | none =>
    match d.pPick t with
    | some o => (d.setSlice t { s with p := s.p.tail }).run t o
    | none =>
      match s.qPick (d.get F.DIR_PTR.PTR t) with
      | none => d
      | some o =>
        let line := lineOf o.m.addr.toNat
        let used := s.parked.length + s.p.length
        let ptr (d : Dev) := d.put F.DIR_PTR.PTR t ((o.host + 1) % 64)
        let take (d : Dev) := d.setSlice t { d.slice t with q := (d.slice t).q.erase o }
        if s.busy line then
          if used ≥ 256 then d.count (cTile t 37)
          else
            let d := ptr (take d)
            (d.count (cTile t 36)).setSlice t { d.slice t with parked := (d.slice t).parked ++ [(.line line, o)] }
        else if 4096 - s.trks.length ≤ used then d.count (cTile t 38)
        else if s.noSlot o then d
        else if !d.wayOk t o then
          if used ≥ 256 then d.count (cTile t 37)
          else
            let d := ptr (take d)
            (d.count (cTile t 36)).setSlice t { d.slice t with parked := (d.slice t).parked ++ [(.set (setOf line), o)] }
        else (ptr (take d)).run t o

end Sys2Proof.Machine
end

