-- ==== Sys2Proof/Machine/BlendOps.lean ====
section
/-!
DEFINITION. The auxiliary partition (R76, R77) and the Blend engine: its arithmetic (R337, R338), combining in rank order
(R342), staging (R345, R346), results, notices and abandonment (R348 to R354).
-/

namespace Sys2Proof.Machine

/-! ### The auxiliary partition -/

/-- Cells of a function in use. -/
def Dev.auxUsed (d : Dev) (t : Nat) : AuxFn → Nat
  | .straggler => d.get F.TIL_AUX_STATUS0.STRAG_USED t
  | .blend => d.get F.TIL_AUX_STATUS0.BLEND_USED t
  | .telemetry => d.get F.TIL_AUX_STATUS1.TELEM_USED t

/-- The floor of a function, in cells (R186). -/
def Dev.auxFloor (d : Dev) (t : Nat) : AuxFn → Nat
  | .straggler => d.get F.TIL_AUX_CFG.STRAG_FLOOR t * 256
  | .blend => d.get F.TIL_AUX_CFG.BLEND_FLOOR t * 256
  | .telemetry => d.get F.TIL_AUX_CFG.TELEM_FLOOR t * 256

/-- R76: the floor of a function and the unreserved remainder of tile `t` hold `n` cells for it. -/
def Dev.auxHas (d : Dev) (t : Nat) (f : AuxFn) (n : Nat) : Bool :=
  let need (g : AuxFn) : Nat := max (d.auxUsed t g + if g = f then n else 0) (d.auxFloor t g)
  decide (need .straggler + need .blend + need .telemetry ≤ d.get F.TIL_AUX_CFG.SIZE t * 256)

/-- A multicast message waits for straggler cells of tile `t` (R77, R189). -/
def Dev.stragWaits (d : Dev) (t : Nat) : Bool :=
  let wants (m : Msg) : Bool := ((d.members m).any fun e => e / 8 == t) && !d.auxHas t .straggler m.cells
  let mc (x : Dest) : Bool := match x with | .mcast _ => true | _ => false
  (d.sw.staged.any fun s => mc s.dest && wants s.m) || d.sw.pipe.any fun x => mc x.dest && wants x.m

/-- A contribution to an open fold of tile `t` waits for a staging cell (R77, R346). -/
def Dev.blendWaits (d : Dev) (t : Nat) : Bool :=
  d.bld.folds.any fun x => x.1 / 64 == t && !x.2.held.isEmpty && d.get F.FOLD.STATE x.1 == 1

/-- R76: a function finds `n` cells: in its own floor first, then in the remainder, which a waiting function of higher priority
takes before it. -/
def Dev.auxCan (d : Dev) (t : Nat) (f : AuxFn) (n : Nat) : Bool :=
  d.auxHas t f n && (decide (d.auxUsed t f + n ≤ d.auxFloor t f) || match f with
    | .straggler => true
    | .blend => !d.stragWaits t
    | .telemetry => !d.stragWaits t && !d.blendWaits t)

/-- Set the cells a function uses. -/
def Dev.auxSet (d : Dev) (t : Nat) (f : AuxFn) (n : Nat) : Dev :=
  match f with
  | .straggler => d.put F.TIL_AUX_STATUS0.STRAG_USED t n
  | .blend => d.put F.TIL_AUX_STATUS0.BLEND_USED t n
  | .telemetry => d.put F.TIL_AUX_STATUS1.TELEM_USED t n

def Dev.auxTake (d : Dev) (t : Nat) (f : AuxFn) (n : Nat) : Dev := d.auxSet t f (d.auxUsed t f + n)
def Dev.auxFree (d : Dev) (t : Nat) (f : AuxFn) (n : Nat) : Dev := d.auxSet t f (d.auxUsed t f - n)

/-! ### Arithmetic -/

/-- A floating-point format: exponent and fraction bits. -/
structure FpFmt where
  e : Nat
  m : Nat

def fp32 : FpFmt := ⟨8, 23⟩
def bf16 : FpFmt := ⟨8, 7⟩
def fp16 : FpFmt := ⟨5, 10⟩

def FpFmt.sign (f : FpFmt) (x : Nat) : Bool := x.testBit (f.e + f.m)
def FpFmt.exp (f : FpFmt) (x : Nat) : Nat := x / 2 ^ f.m % 2 ^ f.e
def FpFmt.frac (f : FpFmt) (x : Nat) : Nat := x % 2 ^ f.m
def FpFmt.inf (f : FpFmt) : Nat := (2 ^ f.e - 1) * 2 ^ f.m
def FpFmt.nan (f : FpFmt) : Nat := f.inf + 2 ^ (f.m - 1)
def FpFmt.isNan (f : FpFmt) (x : Nat) : Bool := f.exp x == 2 ^ f.e - 1 && f.frac x != 0
def FpFmt.isInf (f : FpFmt) (x : Nat) : Bool := f.exp x == 2 ^ f.e - 1 && f.frac x == 0

/-- A finite value as a multiple of the format's least subnormal. -/
def FpFmt.int (f : FpFmt) (x : Nat) : Int :=
  let mag : Nat := if f.exp x = 0 then f.frac x else (2 ^ f.m + f.frac x) * 2 ^ (f.exp x - 1)
  if f.sign x then -(mag : Int) else mag

/-- Round a magnitude, a multiple of the least subnormal, to nearest even: exponent and fraction bits. -/
def FpFmt.round (f : FpFmt) (n : Nat) : Nat :=
  if n < 2 ^ (f.m + 1) then n
  else
    let k := Nat.log2 n - f.m
    let q := n / 2 ^ k
    let r := n % 2 ^ k
    let half := 2 ^ (k - 1)
    let q := if r > half || (r = half && q % 2 = 1) then q + 1 else q
    min (k * 2 ^ f.m + q) f.inf

/-- R338: the exact sum, rounded once. -/
def FpFmt.add (f : FpFmt) (a b : Nat) : Nat :=
  if f.isNan a || f.isNan b then f.nan
  else if f.isInf a then (if f.isInf b && f.sign a != f.sign b then f.nan else a)
  else if f.isInf b then b
  else
    let s := f.int a + f.int b
    let neg := if s = 0 then f.sign a && f.sign b else decide (s < 0)
    f.round s.natAbs + (if neg then 2 ^ (f.e + f.m) else 0)

/-- The order of R338: −0 below +0. -/
def FpFmt.key (f : FpFmt) (x : Nat) : Int :=
  let mag := x % 2 ^ (f.e + f.m)
  if f.sign x then -(mag : Int) - 1 else mag

def FpFmt.pick (f : FpFmt) (least : Bool) (a b : Nat) : Nat :=
  if f.isNan a || f.isNan b then f.nan
  else if decide (f.key a ≤ f.key b) = least then a else b

/-- The bytes of an element of a type (R337). -/
def elemBytes (ty : Nat) : Nat := if ty = 1 || ty = 2 then 2 else if ty = 0 || ty = 3 then 4 else 8

/-- R338: one operator on two elements. -/
def elemOp (ty op a b : Nat) : Nat :=
  let w := elemBytes ty * 8
  let sgn (x : Nat) : Int := if (ty = 3 || ty = 4) && x.testBit (w - 1) then (x : Int) - 2 ^ w else x
  let fmt := if ty = 0 then fp32 else if ty = 1 then bf16 else fp16
  match op with
  | 0 => if ty < 3 then fmt.add a b else (a + b) % 2 ^ w
  | 1 => if ty < 3 then fmt.pick true a b else if sgn a ≤ sgn b then a else b
  | 2 => if ty < 3 then fmt.pick false a b else if sgn a ≤ sgn b then b else a
  | 3 => a &&& b
  | 4 => a ||| b
  | _ => a ^^^ b

/-- Combine two lines element by element (R342). -/
def combine (ty op : Nat) (a b : BitVec 512) : BitVec 512 :=
  let w := elemBytes ty * 8
  BitVec.ofNat 512 ((List.range (512 / w)).foldl (fun acc k =>
    acc + elemOp ty op (a.toNat / 2 ^ (k * w) % 2 ^ w) (b.toNat / 2 ^ (k * w) % 2 ^ w) * 2 ^ (k * w)) 0)

/-! ### Folds -/

def Dev.foldRt (d : Dev) (f : Nat) : FoldRt := d.bld.folds.get FoldRt.empty f

def Dev.setFoldRt (d : Dev) (f : Nat) (r : FoldRt) : Dev := { d with bld := { d.bld with folds := d.bld.folds.put FoldRt.empty f r } }

/-- A Blend fault (R356). -/
def Dev.foldFault (d : Dev) (k : Kind) (bit : Fld) (f : Nat) (rank : Option Nat) (line cause : Nat) : Dev :=
  (d.set bit (f / 64)).raise k (uTile (f / 64) 0x14) f
    (f + (match rank with | some r => r * 2 ^ 10 + 2 ^ 16 | none => 0) + line * 2 ^ 18 + cause * 2 ^ 28)

/-- The rank that a message's source binds in fold `f` (R340). -/
def Dev.rankOf (d : Dev) (f : Nat) (m : Msg) : Option Nat :=
  (List.range (d.get F.FOLD.RANKS f)).find? fun r =>
    let k := f * 64 + r
    d.get F.FOLD_RANK.EDGE k == m.src.toNat &&
      match m.inst with
      | some i => d.bit F.FOLD_RANK.INST_VALID k && d.get F.FOLD_RANK.INSTANCE k == i.val
      | none => !d.bit F.FOLD_RANK.INST_VALID k

/-- Send a multicast message of the C64's own (R188): on the root with the next group sequence, elsewhere toward the
root. -/
def Dev.mcastSend (d : Dev) (t : Nat) (m : Msg) : Dev :=
  let g := m.dst.toNat
  let r := d.get F.TIL_MCAST.ROOT_PORT g
  if !d.bit F.TIL_MCAST.VALID g then d.missed t (t * 8) m
  else if d.bit F.TIL_MCAST.ROOT g then
    let n := d.get F.TIL_MCAST.GSEQ g
    (d.put F.TIL_MCAST.GSEQ g (n + 1)).launch t (.mcast m.dst) { m with gseq := BitVec.ofNat 32 n }
  else if d.enabled r && !d.portFenced r then d.launch t (.port (Fin.ofNat 64 r)) m
  else d.missed t (t * 8) m

/-- Little-endian bytes of the notice (R350). -/
def noticeBytes (f epoch status cause pois : Nat) (ftc : BitVec 64) : List (BitVec 8) :=
  [BitVec.ofNat 8 f, BitVec.ofNat 8 (f / 256), BitVec.ofNat 8 epoch, BitVec.ofNat 8 (epoch / 256), BitVec.ofNat 8 status,
    BitVec.ofNat 8 cause, BitVec.ofNat 8 pois, BitVec.ofNat 8 (pois / 256)] ++
    (List.range 8).map fun k => BitVec.ofNat 8 (ftc.toNat / 256 ^ k)

/-- R350: the notice, if enabled. -/
def Dev.notice (d : Dev) (f status : Nat) : Dev :=
  if d.bit F.FOLD.NOTIFY_EN f then
    d.mcastSend (f / 64)
      { op := .mWr, dst := BitVec.ofNat 12 (d.get F.FOLD.NOTIFY_GROUP f), src := d.ownEdge, mcast := true,
        addr := BitVec.ofNat 64 (d.get F.FOLD.NOTIFY_ADDR f),
        pay := noticeBytes f (d.get F.FOLD.EPOCH f) status (d.get F.FOLD.CAUSE f) (d.get F.FOLD.POISONED f) d.clk.ftc }
  else d

/-- R348: issue the result write of a line to its home tollgate. -/
def Dev.foldResult (d : Dev) (f l : Nat) : Dev :=
  let r := d.foldRt f
  let (data, poison) := r.acc.get (0, false) l
  let addr := (d.get F.FOLD.RES f + l) * 64
  let t := f / 64
  let h := homeSlice (lineOf addr)
  let o : TOp := { m := { op := .wrI, addr := BitVec.ofNat 64 addr, src := d.ownEdge, dst := d.ownEdge, line := data, poison := poison },
                   host := 8 * t, local_ := false, tile := t, uncached := true, fold := some (f, l) }
  let d := d.setFoldRt f { r with writing := r.writing ++ [l] }
  let d := (d.setSlice h { d.slice h with q := (d.slice h).q ++ [o] }).count (cTile t 20)
  if poison then (d.addSat F.FOLD.POISONED f 1).count (cTile t 24) else d

/-- Combine rank `rk`'s data into line `l`, which has reached that rank (R342). `bad`: the accumulator or the staged block is
uncorrectable; rank 0 reads neither (R344). -/
def Dev.foldCombine (d : Dev) (f rk l : Nat) (data : BitVec 512) (poison bad : Bool) : Dev :=
  let r := d.foldRt f
  let bad := bad && decide (rk ≠ 0)
  let (a, p) := r.acc.get (0, false) l
  let v := if rk = 0 then data else combine (d.get F.FOLD.TYPE f) (d.get F.FOLD.OP f) a data
  let pois := (decide (rk ≠ 0) && p) || poison || bad
  let logIt := (poison || bad) && !(r.poisLog.get false l)
  let d := d.setFoldRt f { r with
    acc := r.acc.put (0, false) l (v, pois), cnt := r.cnt.put 0 l (rk + 1), poisLog := r.poisLog.put false l (r.poisLog.get false l || poison || bad) }
  let d := if logIt then d.foldFault .blendPoison F.BLD_TILE_ERR.POISON f (some rk) l 0 else d
  if rk + 1 = d.get F.FOLD.RANKS f then
    let d := (d.put F.FOLD.LINES_DONE f (d.get F.FOLD.LINES_DONE f + 1)).foldResult f l
    if d.get F.FOLD.LINES_DONE f = d.get F.FOLD.LINES f then d.put F.FOLD.STATE f 2 else d
  else d

/-- Whether a rank's staged cell for the lines around `l` holds a block. -/
def FoldRt.cellHeld (r : FoldRt) (rk l : Nat) : Bool :=
  r.staged.any fun x => x.1 % 64 == rk && x.1 / 64 / 4 == l / 4

/-- R346: stage a block, taking a cell in shared mode; none when no cell is available. -/
def Dev.foldStage (d : Dev) (f rk l : Nat) (data : BitVec 512) (poison : Bool) : Option Dev :=
  let r := d.foldRt f
  let t := f / 64
  let put (d : Dev) (cells : Nat) : Dev :=
    (d.setFoldRt f { r with staged := r.staged.put none (l * 64 + rk) (some (data, poison)), cells := cells }).count (cTile t 18)
  if d.bit F.FOLD.STAGE_RES f || r.cellHeld rk l then some (put d r.cells)
  else if d.auxCan t .blend 1 then some (put (d.auxTake t .blend 1) (r.cells + 1))
  else none

/-- Take a staged block out, freeing its cell in shared mode with its last block. -/
def Dev.foldUnstage (d : Dev) (f rk l : Nat) : Dev :=
  let r := d.foldRt f
  let r' := { r with staged := r.staged.erase (l * 64 + rk) }
  if d.bit F.FOLD.STAGE_RES f || r'.cellHeld rk l then d.setFoldRt f r'
  else (d.auxFree (f / 64) .blend 1).setFoldRt f { r' with cells := r.cells - 1 }

/-- Record that rank `rk` has written line `l` in this epoch. -/
def Dev.foldWritten (d : Dev) (f rk l : Nat) : Dev :=
  let r := d.foldRt f
  let w := r.written.put false (l * 64 + rk) true
  let d := d.setFoldRt f { r with written := w }
  if (w.filter fun x => x.1 % 64 == rk).length = d.get F.FOLD.LINES f then
    d.put F.FOLD.RANKS_IN f (d.get F.FOLD.RANKS_IN f ||| 2 ^ rk)
  else d

/-- R341: a request that a fold window answers as a violation. -/
def Dev.foldViol (d : Dev) (f : Nat) (m : Msg) (k : Kind) (bit : Fld) (l : Nat) : Dev :=
  let t := f / 64
  let d := (d.count (cTile t 23)).foldFault k bit f (d.rankOf f m) l 0
  match m.op with
  | .rdS | .rdA | .rdI | .otherReq _ true => d.answer t m (.data .i) 0 true
  | .mRd | .mRdLk | .ioRd | .ioWr | .cfgRd | .cfgWr | .atomic => d.answer t m (.cpl .ur)
  | _ => if m.cls = .req || m.cls = .rwd then d.answer t m (.cmp .i) else d

/-- R341, R342: the engine takes a request to fold `f`. Answers none while the contribution is held. -/
def Dev.foldTake (d : Dev) (f : Nat) (m : Msg) (bad : Bool) : Option Dev :=
  let t := f / 64
  let l := (m.addr.toNat - d.get F.FOLD.FWIN f * 2 ^ 16) / 64
  let full := decide (m.op = .wrI) && decide (m.be = BitVec.allOnes 64)
  let st := d.get F.FOLD.STATE f
  if !full then some (d.foldViol f m .blendType F.BLD_TILE_ERR.TYPE l)
  else if st = 2 && d.bit F.FOLD.AUTO_REARM f then none
  else if st ≠ 1 then some (d.foldViol f m .blendRankViol F.BLD_TILE_ERR.RANK_VIOL l)
  else match d.rankOf f m with
    | none => some (d.foldViol f m .blendRankViol F.BLD_TILE_ERR.RANK_VIOL l)
    | some rk =>
      let r := d.foldRt f
      if r.written.get false (l * 64 + rk) then some (d.foldViol f m .blendRankViol F.BLD_TILE_ERR.RANK_VIOL l)
      else if rk = r.cnt.get 0 l then
        some ((((d.foldWritten f rk l).count (cTile t 17)).answer t m (.cmp .i)).foldCombine f rk l m.line m.poison bad)
      else
        (d.foldStage f rk l m.line m.poison).map fun d => ((d.foldWritten f rk l).count (cTile t 17)).answer t m (.cmp .i)

/-- Requeue held contributions of a fold at the engine's input, in order. -/
def Dev.foldRequeue (d : Dev) (f : Nat) : Dev :=
  let r := d.foldRt f
  let d := d.setFoldRt f { r with held := [] }
  { d with bld := { d.bld with inq := r.held.map (fun s => (f, s)) ++ d.bld.inq } }

/-- R354: abandon an open fold with a cause. -/
def Dev.foldAbandon (d : Dev) (f cause : Nat) : Dev :=
  let r := d.foldRt f
  let acc := (d.get F.FOLD.LINES f + 3) / 4
  let d := if d.bit F.FOLD.STAGE_RES f then d.setFoldRt f { r with acc := [], staged := [] }
    else (d.auxFree (f / 64) .blend (r.cells - acc)).setFoldRt f { r with acc := [], staged := [], cells := min r.cells acc }
  let d := ((d.put F.FOLD.STATE f 4).put F.FOLD.CAUSE f cause).count (cTile (f / 64) 22)
  ((d.foldFault .blendAbandon F.BLD_TILE_ERR.ABANDON f none 0 cause).notice f 2).foldRequeue f

/-- R354 causes 0x2 and 0x3: abandon every open fold with a rank that `pick` selects and that is not complete. -/
def Dev.foldAbandonBy (d : Dev) (cause : Nat) (pick : Nat → Bool) : Dev :=
  (List.range 512).foldl (fun d f =>
    if d.get F.FOLD.STATE f = 1 && (List.range (d.get F.FOLD.RANKS f)).any (fun r =>
        !(d.get F.FOLD.RANKS_IN f).testBit r && pick (f * 64 + r)) then d.foldAbandon f cause
    else d) d

/-- R354 cause 0x4: a tile fence abandons its open folds. One that has just entered DONE stays there (R351, R355). -/
def Dev.foldFence (d : Dev) (t : Nat) : Dev :=
  (List.range 64).foldl (fun d k =>
    let f := t * 64 + k
    if d.get F.FOLD.STATE f = 1 || d.get F.FOLD.STATE f = 2 then d.foldAbandon f 4
    else if d.get F.FOLD.STATE f = 3 && d.bit F.FOLD.AUTO_REARM f then d.setFoldRt f { d.foldRt f with stays := true }
    else d) d

end Sys2Proof.Machine
end

