-- ==== Sys2Proof/Machine/Lost.lean ====
section
/-!
DEFINITION. The answers the C64 makes in place of a lost target: the lost-target flush rules (R199 to R201), and the
answers to route misses (R170).
-/

namespace Sys2Proof.Machine

/-- The 64-byte lines that `n` bytes from `a` touch. -/
def linesOf (a n : Nat) : List Nat :=
  if n = 0 then [] else (List.range ((a + n - 1) / 64 - a / 64 + 1)).map fun k => (a / 64 + k) * 64

/-- R200: one FK_LAYOVER_FLUSH record for a discarded write, with its reclaim report record (R474). -/
def Dev.flushRec (d : Dev) (unit port addr : Nat) (src : BitVec 12) : Dev :=
  d.raise .layoverFlush unit port addr none .port
    (some { ty := 0x14, b1 := 0xFF, lines := 1, addr := BitVec.ofNat 64 (addr % 2 ^ 52), src := src })

/-- R200: the records of a discarded write, one per 64-byte line that it touches. -/
def Dev.flushLines (d : Dev) (unit port addr n : Nat) (src : BitVec 12) : Dev :=
  (linesOf addr n).foldl (fun d a => d.flushRec unit port a src) d

/-- R199: a target access of this C64's own tollgates is flushed: a read returns poison, a window write is completed,
and its line marked poisoned. -/
def Dev.lostOwn (d : Dev) (m : Msg) : Dev :=
  let tag := m.tag.toNat
  let t := tag / 8192
  let id := tag % 4096
  if tag / 4096 % 2 = 0 then d.readReturn t id 0 0 true
  else match (d.slice t).wbs.find? fun b => b.id == id with
    | some b => (d.wrote t id 0).mark b.line false
    | none => d

/-- The completion `m` of a tracked request leaves, or is discarded: its tracker is free (R414). -/
def Dev.endTrk (d : Dev) (m : Msg) : Dev :=
  if m.cls = .ioc then
    { d with brg := { d.brg with trks := d.brg.trks.filter fun (k : CplTrk) => !(k.got && k.src == m.dst && k.tag == m.tag) } }
  else d

/-- R199: the answer the lost-target flush rules give a message, seen from `port` of unit `unit`; `t` is the tile that
counts it in CORE_FLUSH_ANSWERED. AtomicOps and messages with data have no row in R199.
DESIGN CHOICE, unsafe: log entry 71. -/
def Dev.lostAnswer (d : Dev) (unit port : Nat) (m : Msg) : Dev :=
  let t := port / 8
  let d := d.count (cTile t 6)
  let own := decide (m.src = d.ownEdge)
  match m.op with
  | .rdS | .rdA | .rdI => if own then d.lostOwn m else d.answer t m (.data .i) 0 true
  | .otherReq _ true => d.answer t m (.data .i) 0 true
  | .invA | .cln | .otherReq _ false => d.answer t m (.cmp .i)
  | .wrI | .wrS | .wrA | .fwdData | .otherRwd _ =>
    let d := d.flushLines unit port (m.addr.toNat % 2 ^ 52 / 64 * 64) 64 m.src
    if own then d.lostOwn m else d.answer t m (.cmp .i)
  | .mRd | .mRdLk | .atomic => d.answer t m (.cplD .sc) 0 true
  | .cfgRd | .ioRd => d.answer t m (.cpl .ur)
  | .cfgWr | .ioWr =>
    (d.flushRec unit port (m.addr.toNat % 2 ^ 51 + 2 ^ 51) m.src).answer t m (.cpl .ca)
  | .mWr => d.flushLines unit port (m.addr.toNat % 2 ^ 52) m.pay.length m.src
  | .msg _ | .msgD _ | .intx _ _ | .errMsg _ | .unlock => d
  | .biInv | .biData | .fwdSnp | .otherSnp _ | .cmp _ | .biRsp _ | .fwdNack | .biConflict | .biConflictAck | .otherRsp _
  | .data _ | .fData | .otherDrs _ | .cpl _ | .cplD _ => d.endTrk m

/-- R170: a route miss at ingress port `p`: counted, logged with DST_EDGE (bit 12 for a multicast group), answered; a posted
write that it discards is recorded (R200). -/
def Dev.routeMiss (d : Dev) (p : Nat) (m : Msg) : Dev :=
  let t := p / 8
  let d := ((d.count (cTile t 0)).set F.TIL_ERR.ROUTE_MISS t).raise .routeMiss (uTile t 0x10) p
    (m.dst.toNat + if m.mcast then 2 ^ 12 else 0)
  match m.cls with
  | .ion => d.answer t m (.cpl .ur)
  | .req | .rwd => d.lostAnswer (uTile t 0x10) p m
  | _ => if m.op = .mWr then d.flushLines (uTile t 0x10) p (m.addr.toNat % 2 ^ 52) m.pay.length m.src else d.endTrk m

/-- R201: FK_MSG_MALFORMED at ingress port `p`, with the line's address for an opcode of the forwarding extension (R285).
DEDUCED, safe: log entry 21. -/
def Dev.badMsg (d : Dev) (p : Nat) (op : Op) (addr : Nat) : Dev :=
  let a := match op with
    | .fwdSnp | .fwdData | .fwdNack | .fData => addrOf (lineOf addr)
    | _ => (Config.faultAddr Kind.msgMalformed.code p).toNat
  (d.set F.TIL_ERR.MALFORMED (p / 8)).raise .msgMalformed (uTile (p / 8) 0x10) p a

/-- R201: a malformed message at ingress port `p` is logged, and answered or discarded and counted as the lost-target flush rules
say for its kind. -/
def Dev.malformed (d : Dev) (p : Nat) (m : Msg) : Dev :=
  (d.badMsg p m.op m.addr.toNat).lostAnswer (uTile (p / 8) 0x10) p m

end Sys2Proof.Machine
end

