-- ==== Sys2Proof/Machine/Recovery.lean ====
section
/-!
DEFINITION. Recovery in the directory slices: held answers, timeouts, prefetch, scrub, dead agents, back-invalidating
walks and the reconciliation after an L3 fault (R297, R301, R311 to R325).
-/

namespace Sys2Proof.Machine

/-- Fold an operation over the eight slices. -/
def Dev.eachSlice (d : Dev) (f : Dev → Nat → Dev) : Dev := (List.range 8).foldl f d

/-! ### Answers held at the ingress (R297, R301) -/

/-- Whether a write or eviction notice for a line that came from host `h` before its message of release number `rel` is not yet
accepted: it stands in the pipeline, in a hold queue or at the tollgate (R297). -/
def Dev.unaccepted (d : Dev) (h rel line : Nat) : Bool :=
  let s := d.slice (homeSlice line)
  let wr (m : Msg) : Bool := lineOf m.addr.toNat == line && match m.op with | .wrI | .wrS | .wrA | .cln => true | _ => false
  let mine (o : TOp) : Bool := o.host == h && o.local_ && wr o.m
  let home (x : Dest) : Bool := match x with | .slice _ _ => true | _ => false
  s.w.any mine || s.q.any mine || s.parked.any (fun x => mine x.2) || s.p.any mine ||
    (d.sw.pipe.any fun x => x.port.val == h && decide (x.rel < rel) && home x.dest && wr x.m) ||
    (d.sw.pols.any fun x => match x.2 with
      | some y => y.hold.any fun z => decide (z.ing.map (·.val) = some h) && decide (z.rel < rel) && home z.dest && wr z.m
      | none => false)

/-- Hand a host's answer to the tollgate of its line. -/
def Dev.toLaneR (d : Dev) (h : Nat) (m : Msg) : Dev :=
  let line := lineOf m.addr.toNat
  let t := homeSlice line
  let s := d.slice t
  d.setSlice t { s with r := s.r ++ [{ host := some h, port := h, m := m, line := line }] }

/-- Take a host's answer at its ingress port: held while earlier writes for its line are not accepted (R297). -/
def Dev.hostAnswer (d : Dev) (h rel : Nat) (m : Msg) : Dev :=
  if d.unaccepted h rel (lineOf m.addr.toNat) then { d with coh := { d.coh with held := d.coh.held ++ [(h, rel, m)] } }
  else d.toLaneR h m

/-- Release the first held answer of host `h` for a line once nothing earlier is unaccepted (R297). -/
def Dev.releaseHeld (d : Dev) (h line : Nat) : Dev :=
  match d.coh.held.find? fun x => x.1 == h && lineOf x.2.2.addr.toNat == line with
  | some x =>
    if d.unaccepted h x.2.1 line then d
    else ({ d with coh := { d.coh with held := d.coh.held.erase x } }).toLaneR h x.2.2
  | none => d

/-- R301: answer a BIConflict once the host's earlier requests for the line have completed and their completions have
been handed to the egress link layer: none is running, queued for its port or staged toward it. -/
def Dev.conflictAck (d : Dev) (h line : Nat) : Dev :=
  match d.coh.conflicts.find? fun x => x.1 == h && x.2 == line with
  | some x =>
    let t := homeSlice line
    let running := (d.slice t).trks.any fun k => k.line == line && k.op.local_ && k.op.host == h && !k.done && k.job = .demand
    let isCmp (m : Msg) : Bool := m.dst == d.edgeOf h && lineOf m.addr.toNat == line &&
      match m.cls with | .rsp | .drs => true | _ => false
    let staged := d.sw.staged.any fun s => isCmp s.m
    let queued := (List.range 256).any fun q =>
      match d.sw.queues.get none (h * 256 + q) with
      | some qu => qu.msgs.any fun x => isCmp x.m
      | none => false
    if running || staged || queued then d
    else
      ({ d with coh := { d.coh with conflicts := d.coh.conflicts.erase x } }).emit t
        { op := .biConflictAck, dst := d.edgeOf h, src := d.ownEdge, addr := BitVec.ofNat 64 (d.dpaOf h none (addrOf line)) }
  | none => d

/-! ### Dead agents (R320 to R323) -/

/-- Clear a host's settings of the forwarding extension (R265). -/
def Dev.clearFwd (d : Dev) (h : Nat) : Dev :=
  let d := d.clearFlds [F.FWDV.OPC_FWD_SNP, F.FWDV.OPC_F_DATA, F.FWDV.OPC_FWD_DATA, F.FWDV.OPC_FWD_NACK,
    F.FWDV.ENABLE, F.FWDV.ACTIVE] h
  d.put F.DIR_FWD.ACTIVE 0 (if (d.get F.DIR_FWD.ACTIVE).testBit h then d.get F.DIR_FWD.ACTIVE - 2 ^ h else d.get F.DIR_FWD.ACTIVE)

/-- R321: complete every back-invalidate and forward to `h` as if it had answered I. A line that `h` held in X is marked
(R307), so that a requester which waits on it receives poisoned data (R308). DEDUCED, unsafe: log entry 25. -/
def Dev.deadAnswers (d : Dev) (t h : Nat) : Dev :=
  (d.slice t).trks.foldl (fun d k0 =>
    match (d.slice t).trk? k0.id with
    | none => d
    | some k =>
      let heldX := k.before.st = DSt.x && k.before.owner == h && k.bi.contains h && !k.crossed
      let lostV := match k.evict with
        | some v => if v.before.st = DSt.x && v.before.owner == h && v.bi.contains h && !k.crossed then some v.line else none
        | none => none
      let k := { k with bi := k.bi.filter (· != h), owed := k.owed.filter (·.1 != h),
                        fwd := if k.fwd = some h then none else k.fwd,
                        nacked := k.nacked || k.fwd == some h,
                        before := { k.before with sharers := dropHost k.before.sharers h },
                        evict := k.evict.map fun v => { v with bi := v.bi.filter (· != h) } }
      let d := d.setTrk t k
      let d := (if heldX then d.mark k.line true else d).advance 8 t k.id
      match lostV with
      | some l => d.mark l true
      | none => d) d

/-- R321: answer the parked and queued requests of `h` under the lost-target flush rules. -/
def Dev.deadRequests (d : Dev) (t h : Nat) : Dev :=
  let s := d.slice t
  let mine (o : TOp) : Bool := o.local_ && o.host == h
  let gone := (s.parked.map (·.2) ++ s.p ++ s.q).filter mine
  let d := d.setSlice t { s with parked := s.parked.filter (fun x => !mine x.2), p := s.p.filter (fun o => !mine o),
                                 q := s.q.filter (fun o => !mine o) }
  gone.foldl (fun d o => d.lostAnswer (uTile t 0x13) h o.m) d

/-- R321: before DIR_DEAD is set, each tollgate takes the responses and writebacks of `h` that are offered. -/
def Dev.deadTake (d : Dev) (t h : Nat) : Dev :=
  let s := d.slice t
  let d := d.setSlice t { s with r := s.r.filter (fun r => r.host != some h), w := s.w.filter (fun o => !(o.local_ && o.host == h)) }
  let d := (s.w.filter fun o => o.local_ && o.host == h).foldl (fun d o =>
    if (d.slice t).noSlot o then d
    else if (d.slice t).busy (lineOf o.m.addr.toNat) then d.join t o else d.run t o) d
  (s.r.filter fun r => r.host == some h).foldl (fun d r => d.absorb t r) d

/-- R321, R387: the held requests of the instances of host `h` are answered under the lost-target flush rules. -/
def Dev.deadHeld (d : Dev) (h : Nat) : Dev :=
  d.sw.pols.foldl (fun d x =>
    match x.2 with
    | some p =>
      if d.bit F.INS.VALID x.1 && d.get F.INS.HOST_PORT x.1 = h then
        let d := { d with sw := { d.sw with pols := d.sw.pols.put none x.1 (some { p with hold := [] }) } }
        p.hold.foldl (fun d y => (d.lostAnswer (uTile (h / 8) 0x10) h y.m).doneMsg y.ing y.rel) d
      else d
    | none => d) d

/-- R320, R321: declare host `h` a dead agent with a cause, all but its port. A host already dead is left alone. -/
def Dev.declareDead (d : Dev) (h cause : Nat) : Dev :=
  if d.dead h then d
  else
    let d := (d.set F.DIR_ERR.AGENT_DEAD (h / 8)).raise .agentDead (uTile (h / 8) 0x13) h (h + cause * 256)
    let d := d.eachSlice fun d t => d.deadTake t h
    let d := d.put F.DIR_DEAD.DEAD 0 (d.get F.DIR_DEAD.DEAD + 2 ^ h)
    let d := { d with coh := { d.coh with
      held := d.coh.held.filter (fun x => x.1 != h), conflicts := d.coh.conflicts.filter (fun x => x.1 != h),
      biEn := dropHost d.coh.biEn h,
      walks := d.coh.walks ++ [(⟨.dead (Fin.ofNat 64 h), [], 0⟩ : Walk)] } }
    let d := d.eachSlice fun d t => (d.put F.DIR_RECLAIM.BUSY t 1).put F.DIR_RECLAIM.HOST t h
    let d := d.eachSlice fun d t => (d.deadAnswers t h).deadRequests t h
    ((d.clearFwd h).deadHeld h).foldAbandonBy 2 fun k => d.get F.FOLD_RANK.EDGE k == d.get F.TIL_PCFG.EDGE_ID h

/-- The device sequence of the newest logged record of a kind for a domain index, and whether there is one (R324). -/
def Dev.lastSeq (d : Dev) (k : Kind) (idx : Nat) : Option (BitVec 40) :=
  (((d.flt.log.filterMap (·.2)).filter fun r => decide (r.c.what = .fault k) && r.c.idx == idx).map (·.seq)).foldl
    (fun b s => match b with | some x => some (if x < s then s else x) | none => some s) none

/-- R322: what the reclaim does to one entry that records `h`. Answers whether the line was poisoned. -/
def Dev.reclaimEntry (d : Dev) (h k : Nat) (e : Entry) : Dev × Bool :=
  let t := k / 16 / 2 ^ 18
  if e.st = .b || !e.holds h then (d, false)
  else
    let d := d.count (cTile t 62)
    let line := lineAtKey k e.tag
    let hold := dropHost e.sharers h
    if e.st = .x then
      let d := d.markWay k line e true
      (d.put F.DIR_RECLAIM.POISONED t (min (d.get F.DIR_RECLAIM.POISONED t + 1) 0xFFFFFF), true)
    else
      let n : DSt × Nat := if e.st = .f then (if e.owner ≠ h then (.f, e.owner) else d.name none none hold) else (.s, 0)
      ((d.putEntry k (e.settle n hold)).released t line, false)

/-- R322: walk every slice for a dead host; the poisoned lines, merged when consecutive, go on the reclaim report. -/
def Dev.deadWalk (d : Dev) (h : Nat) : Dev × List (Nat × Nat × Option (Fin 1024)) :=
  let d := d.eachSlice fun d t => d.put F.DIR_RECLAIM.POISONED t 0
  d.coh.dir.foldl (fun (acc : Dev × List (Nat × Nat × Option (Fin 1024))) x =>
    let e := acc.1.entry x.1
    let (d, pois) := acc.1.reclaimEntry h x.1 e
    if pois then
      let line := lineAtKey x.1 e.tag
      match acc.2.getLast? with
      | some (l, n, i) => if l + n = line ∧ i = e.inst then (d, acc.2.dropLast ++ [(l, n + 1, i)]) else (d, acc.2 ++ [(line, 1, e.inst)])
      | none => (d, [(line, 1, e.inst)])
    else (d, acc.2)) (d, [])

/-! ### Timeouts (R277, R300, R319) -/

/-- A back-invalidate, forward or owed response of host `h` on a line is outstanding, and no answer of `h` for it has come
(R67, R284). -/
def Dev.owes (d : Dev) (h line : Nat) : Bool :=
  let s := d.slice (homeSlice line)
  let came (m : Msg) : Bool := m.op.hostAnswer && lineOf m.addr.toNat == line
  !(s.r.any fun r => r.host == some h && r.line == line) && !(d.coh.held.any fun x => x.1 == h && came x.2.2) &&
  !(d.sw.pipe.any fun x => x.port.val == h && came x.m) &&
  s.trks.any fun k =>
    (k.line == line && (k.bi.contains h || k.fwd == some h)) || k.owed.contains (h, line) ||
      match k.evict with
      | some v => v.line == line && v.bi.contains h
      | none => false

/-- The port through which a window line's target is reached. -/
def Dev.targetPort (d : Dev) (line : Nat) : Nat :=
  match d.windowOf (addrOf line) with
  | some w =>
    let (j, _) := d.interleave w (addrOf line - d.winBase w)
    match d.route (BitVec.ofNat 12 (d.get F.WIN.TEDGE (w * 16 + j))) with
    | .port p => p
    | _ => 0
  | none => 0

/-- R313, R319: tTGT expires on the target read of tracker `id` of slice `t`. -/
def Dev.readTimeout (d : Dev) (t id : Nat) : Dev :=
  let s := d.slice t
  match s.trks.find? fun k => k.id == id && k.reading with
  | none => d
  | some k =>
    let spec := decide (k.job = .prefetch)
    let d := (d.set F.DIR_ERR.TARGET_TIMEOUT t).raise .targetTimeout (uTile t 0x13) (d.targetPort k.line)
      (addrOf k.line + if spec then 1 else 0)
    let d := d.setSlice t { d.slice t with late := (d.slice t).late ++ [id] }
    if spec then
      let d := d.freeTrk t id
      let d := match k.key with
        | some j => d.putEntry j Entry.free
        | none => d
      d.released t k.line
    else
      (d.setTrk t { k with reading := false, noAdd := true, data := some (0, true) }).advance 8 t id

/-- R319: tTGT expires on the target write of writeback slot `id` of slice `t`. -/
def Dev.writeTimeout (d : Dev) (t id : Nat) : Dev :=
  let s := d.slice t
  match s.wbs.find? fun b => b.id == id with
  | none => d
  | some b =>
    let d := (d.set F.DIR_ERR.TARGET_TIMEOUT t).raise .targetTimeout (uTile t 0x13) (d.targetPort b.line)
      (addrOf b.line + 2) none .port
      (some { ty := 0x12, b1 := b.host, inst := b.inst, lines := 1, addr := BitVec.ofNat 64 (addrOf b.line) })
    let s := d.slice t
    let d := (d.setSlice t { s with wbs := s.wbs.erase b, late := s.late ++ [4096 + id] }).nextThru t
    let d := match b.fold with
      | some (f, l) => d.foldWrote f l true
      | none => d
    let d := d.mark b.line false
    match (d.slice t).trkOn b.line with
    | some k => d.advance 8 t k.id
    | none => d

/-! ### Prefetch (R312 to R314) -/

/-- R312: on an idle edge, accept the first hint of slice `t` or drop it. -/
def Dev.acceptHint (d : Dev) (t : Nat) : Dev :=
  let s := d.slice t
  match s.hints with
  | [] => d
  | line :: hs =>
      let d := d.setSlice t { s with hints := hs }
      let room := (d.findKey line).isNone && !s.busy line && (s.wbOf line).isNone &&
        !(s.pf.any fun x => x.1 == line) && decide (s.parked.length + s.p.length < 4096 - s.trks.length) &&
        decide (s.pf.length + (s.trks.filter fun k => k.job = .prefetch).length < 1024)
      match d.freeWay line with
      | some k =>
        if room then
          let id := s.newTrk
          let e := { Entry.free with tag := tagOf line, st := .b, trk := id }
          let o : TOp := { m := { op := .rdI, addr := BitVec.ofNat 64 (addrOf line) }, host := 0, local_ := false, tile := t,
                           uncached := true, fold := none }
          let tr : Trk :=
            { id := id, line := line, job := .prefetch, op := o, stamp := 0, key := some k, before := Entry.free, bi := [],
              owed := [], fwd := none, nacked := false, evict := none, needWay := false, quota := false, reading := true,
              needData := true, data := none, done := false, noAdd := false }
          let d := d.putEntry k e
          let d := d.setSlice t { d.slice t with trks := (d.slice t).trks ++ [tr] }
          (d.count (cTile t 50)).readTarget t line id
        else d.count (cTile t 49)
      | none => d.count (cTile t 49)

/-- R314: a buffered line has lived for tPF_LIFE. -/
def Dev.expirePf (d : Dev) (t line : Nat) : Dev :=
  let s := d.slice t
  if s.pf.any fun x => x.1 == line then
    (d.count (cTile t 52)).setSlice t { s with pf := s.pf.filter fun x => x.1 != line }
  else d

/-! ### Scrub and lost sets (R315 to R318) -/

/-- The lost set table's slot of a set, or a free one. -/
def Dev.lostSlot (d : Dev) (t set : Nat) : Option Nat :=
  let has (n : Nat) : Bool := d.bit F.DIR_LOST.VALID (t * 16 + n)
  match (List.range 16).find? fun n => has n && d.get F.DIR_LOST.SET (t * 16 + n) == set with
  | some n => some n
  | none => (List.range 16).find? fun n => !has n

/-- The codewords of a set that are lost already (R316). -/
def Dev.lostCws (d : Dev) (t set : Nat) : Nat :=
  match (List.range 16).find? fun n => d.bit F.DIR_LOST.VALID (t * 16 + n) && d.get F.DIR_LOST.SET (t * 16 + n) == set with
  | some n => d.get F.DIR_LOST.CW (t * 16 + n)
  | none => 0

/-- The ways of codeword `c` of a set (R316). -/
def cwWays (t set c : Nat) : List Nat := (List.range 4).map fun j => dirKey t set (4 * c + j)

/-- A codeword whose ways hold anything: a transaction of theirs completes on its tracker's own state (R316). -/
def Dev.dropWays (d : Dev) (t : Nat) (ways : List Nat) (e : Nat → Entry) : Dev :=
  let s := d.slice t
  let d := d.setSlice t { s with trks := s.trks.map fun k =>
    if (k.key.map fun j => ways.contains j).getD false then { k with key := none } else k }
  ways.foldl (fun d k => d.putEntry k (e k)) d

/-- An uncorrectable codeword `c` of a set (R316, R318). -/
def Dev.rowUncorr (d : Dev) (t set c : Nat) (inj : Bool) : Dev :=
  let cw := d.lostCws t set
  let cw' := cw ||| 2 ^ c
  let d' := d.set F.DIR_ERR.DIR_UNCORR t
  match d.lostSlot t set with
  | some n =>
    if cw' = 15 then d'.raise .dirUncorr (uTile t 0x13) t (set + c * 2 ^ 20) (some 2) (injected := inj)
    else
      let i := t * 16 + n
      let d := ((d'.put F.DIR_LOST.SET i set).put F.DIR_LOST.CW i cw').put F.DIR_LOST.VALID i 1
      (d.dropWays t (cwWays t set c) fun _ => Entry.free).raise .dirUncorr (uTile t 0x13) t (set + c * 2 ^ 20) none .sliceWays
        (some { ty := 0x11, b1 := t, lines := 0, addr := BitVec.ofNat 64 set }) inj
  | none => d'.raise .dirUncorr (uTile t 0x13) t (set + c * 2 ^ 20) (some 2) (injected := inj)

/-- Codeword `c` of a set is read (R3, R315, R316): one lost already is not; the entries of a miscorrected one are free values.
DESIGN CHOICE, safe: log entry 75. -/
def Dev.readCw (d : Dev) (t set c : Nat) (e : CwErr) : Dev :=
  if (d.lostCws t set).testBit c then d
  else
    let (d, e, inj) := d.injTake (uTile t 0x13) (fun a => a == set * 4 + c) e
    match rsRead e with
    | .clean => d
    | .corr =>
      (d.set F.DIR_ERR.DIR_CORR t).raise .dirCorr (uTile t 0x13) t (set + c * 2 ^ 20) (injected := inj)
    | .uncorr => d.rowUncorr t set c inj
    | .wrong =>
      let (n, d) := d.fresh
      d.dropWays t (cwWays t set c) fun k => Entry.ofBits ((Config.free n).extractLsb' (128 * (k % 4)) 128)

/-- A set row is read, by the scrub or by a look-up, with these errors over its four codewords. -/
def Dev.readRow (d : Dev) (t set : Nat) (errs : List CwErr) : Dev :=
  (List.range 4).foldl (fun d c => d.readCw t set c (errs.getD c 0)) d

/-- R315: the scrub reads the next set row of slice `t`. -/
def Dev.scrubRow (d : Dev) (t : Nat) (errs : List CwErr) : Dev :=
  let s := d.slice t
  ((d.count (cTile t 60)).setSlice t { s with scrub := (s.scrub + 1) % 2 ^ 18 }).readRow t s.scrub errs

/-! ### Walks that back-invalidate (R295, R369, R380) -/

/-- The holders that a walk back-invalidates at a line. -/
def Dev.walkPick (d : Dev) (why : WalkWhy) (line : Nat) (e : Entry) : List Nat :=
  let inWin (w : Nat) : Bool := d.winBase w ≤ addrOf line && addrOf line < d.winBase w + d.winSize w
  match why with
  | .flush h w => if (w.map fun w => inWin w.val).getD true then
      (match h with | some h => if e.holds h.val then [h.val] else [] | none => hostsOf e.sharers) else []
  | .destroy w => if inWin w.val then hostsOf e.sharers else []
  | .revoke p _ lo hi => if e.holds p.val && e.inst.isNone && decide (lo ≤ line) && decide (line < hi) then [p.val] else []
  | .freeze i | .quota i => if e.inst = some i then hostsOf e.sharers else []
  | .dead _ | .clear _ _ _ => []

/-- Visit the entries a walk has left: one under a transaction, or of a slice with no free tracker, is visited again later, and of
any other the selected holders are back-invalidated. Counts the lines. -/
def Dev.walkOn (d : Dev) (w : Walk) : Dev × Walk :=
  w.left.foldl (fun (acc : Dev × Walk) k =>
    let e := acc.1.entry k
    if e.st = .b then (acc.1, { acc.2 with left := acc.2.left ++ [k] })
    else
      let hs := if e.valid then acc.1.walkPick w.why (lineAtKey k e.tag) e else []
      if hs = [] then acc
      else if !(acc.1.slice (k / 16 / 2 ^ 18)).trkFree then (acc.1, { acc.2 with left := acc.2.left ++ [k] })
      else (acc.1.flushEntry k e hs, { acc.2 with count := acc.2.count + 1 })) (d, { w with left := [] })

/-- A walk's outstanding back-invalidates. -/
def Dev.walkBusy (d : Dev) : Bool := d.coh.slices.any fun x => x.2.trks.any fun k => k.job = .flush && !k.done

/-- Start a walk over the whole directory. -/
def Dev.walkStart (d : Dev) (why : WalkWhy) : Dev :=
  let (d, w) := d.walkOn { why := why, left := d.coh.dir.map (·.1), count := 0 }
  { d with coh := { d.coh with walks := d.coh.walks ++ [w] } }

/-- Go on with the walk for a reason. Answers its count once it has ended, and the device without it. -/
def Dev.walkEnd (d : Dev) (why : WalkWhy) : Dev × Option Nat :=
  match d.coh.walks.find? fun w => decide (w.why = why) with
  | none => (d, none)
  | some w =>
    let (d, w') := d.walkOn w
    let rest := d.coh.walks.filter fun x => decide (x.why ≠ why)
    if w'.left = [] && !d.walkBusy then ({ d with coh := { d.coh with walks := rest } }, some w'.count)
    else ({ d with coh := { d.coh with walks := rest ++ [w'] } }, none)

/-- The device sequence of the newest L3 record in the log, 0 with none: what caused a recovery (R324). -/
def Dev.l3Seq (d : Dev) : BitVec 40 :=
  (((d.flt.log.filterMap (·.2)).filter fun r => r.level == 3).map (·.seq)).foldl (fun a s => if a < s then s else a) 0

/-! ### Reconciliation after a kept directory (R325) -/

/-- R325 step 1: every entry in B returns to its earlier holders with a mark and a write-through, and every line named
by a kept writeback slot tag is marked; all go on the reclaim report as type 0x12. -/
def Dev.reconcileLost (d : Dev) : Dev :=
  let b := d.coh.dir.filterMap fun x => if x.2.st = .b then some (x.1, x.2) else none
  let d := b.foldl (fun d x =>
    let line := lineAtKey x.1 x.2.tag
    let n := d.name none none x.2.sharers
    (d.putEntry x.1 { x.2 with st := if x.2.sharers = 0 then .u else n.1, owner := n.2, trk := 0 }).mark line true) d
  let d := b.foldl (fun d x => d.report
    { ty := 0x12, b1 := 0xFF, inst := x.2.inst, lines := 1, addr := BitVec.ofNat 64 (addrOf (lineAtKey x.1 x.2.tag)) } d.l3Seq) d
  let d := d.coh.keepTags.foldl (fun d l => (d.mark l true).report
    { ty := 0x12, b1 := 0xFF, lines := 1, addr := BitVec.ofNat 64 (addrOf l) } d.l3Seq) d
  { d with coh := { d.coh with keepTags := [] } }

end Sys2Proof.Machine
end

