-- ==== Sys2Proof/Machine/Pipe.lean ====
section
/-!
DEFINITION. The messages of the core pipeline that are undone or dropped before their commit: which slots of which messages
go (R26, R49, R177), and what the C64 takes back of them (R49, R179).
-/

namespace Sys2Proof.Machine

/-- A message past stage 3 as the pipeline holds it. -/
def PMsg.staged (x : PMsg) : Staged :=
  { ing := some x.port, dest := x.dest, m := x.m, rel := x.rel, id := x.id, q := x.q, tile := Fin.ofNat 8 (x.port.val / 8), resv := x.resv }

/-- A slot whose CRC verdict is open. -/
def PSlot.open_ (x : PSlot) : Bool := !x.crc && !x.done

/-- The slots of port `p` in the pipeline whose verdict is open. -/
def Dev.openSlots (d : Dev) (p : Nat) : List PSlot :=
  (d.sw.pipe.filter fun x => x.port.val == p).flatMap fun x => x.slots.filter PSlot.open_

/-- The slots of a message that an undo from slot number `c` on takes away. -/
def PMsg.lost (c : Nat) (x : PMsg) : List PSlot := x.slots.filter fun y => y.open_ && decide (c ≤ y.id)

/-- The message without them: they are to be released again after the replay (R177). -/
def PMsg.cut (c : Nat) (x : PMsg) : PMsg :=
  { x with slots := x.slots.filter (fun y => !(y.open_ && decide (c ≤ y.id))), more := x.more + (x.lost c).length }

/-- The undo takes every slot the message had. -/
def PMsg.wholly (c : Nat) (x : PMsg) : Bool := x.slots.all fun y => y.open_ && decide (c ≤ y.id)

/-- The CRC verdict of flit `f` of port `p` passes. -/
def Dev.passFlit (d : Dev) (p f : Nat) : Dev :=
  { d with sw := { d.sw with pipe := d.sw.pipe.map fun x =>
    if x.port.val = p then { x with slots := x.slots.map fun y => if y.flit = f then { y with crc := true } else y } else x } }

/-- A policer; one without an entry has its reset buckets. -/
def Dev.pol (d : Dev) (i : Nat) : Pol :=
  (d.sw.pols.get none i).getD { tc := 0, tp := 0x240 * 256, hold := [], metered := false }

def Dev.setPol (d : Dev) (i : Nat) (x : Pol) : Dev :=
  { d with sw := { d.sw with pols := d.sw.pols.put none i (if x = { tc := 0, tp := 0x240 * 256, hold := [], metered := false } then none else some x) } }

/-- Messages that go out of the pipeline leave the hold queues in which stage 3 gave them a place. -/
def Dev.unhold (d : Dev) (l : List PMsg) : Dev :=
  l.foldl (fun d x => match x.pol with
    | some i =>
      let y := d.pol i
      let h := y.hold.filter fun s => !(s.spec && s.id == x.id)
      d.setPol i { y with hold := h, metered := y.metered && decide (h.head? = y.hold.head?) }
    | none => d) d

/-- Change every message of the pipeline. -/
def Dev.setPipe (d : Dev) (f : PMsg → PMsg) : Dev := { d with sw := { d.sw with pipe := d.sw.pipe.map f } }

/-- The per-source sequences of discarded messages are assigned again, from the lowest on (R26, R49). -/
def Dev.unseq (d : Dev) (l : List PMsg) : Dev :=
  match l.find? (·.seqd) with
  | some x => { d with sw := { d.sw with sseq := d.sw.sseq.put 0 x.m.src.toNat x.m.sseq.toNat } }
  | none => d

/-- A message of port `p` that is not whole: a slot has not come, or has no verdict. -/
def PMsg.partial (x : PMsg) (p : Nat) : Bool := x.port.val == p && (x.more != 0 || x.slots.any PSlot.open_)

/-- At a link-down of port `p`, discard the messages of the pipeline that will not become whole: each counts as completed, and
a header-early reservation among them is released and counted (R179). -/
def Dev.dropMsgs (d : Dev) (p : Nat) (go : PMsg → Bool) : Dev :=
  let gone := d.sw.pipe.filter go
  let d := { d with sw := { d.sw with pipe := d.sw.pipe.filter fun x => !go x } }
  let d := (d.unhold gone).unseq gone
  gone.foldl (fun d x =>
    let d := if x.heIo && x.resv then d.count (cTile (p / 8) 1) else d
    d.doneMsg (some x.port) x.rel) d

/-- Discard the messages of port `p` that are not whole. -/
def Dev.dropPartial (d : Dev) (p : Nat) : Dev := d.dropMsgs p (·.partial p)

end Sys2Proof.Machine
end

