-- ==== Sys2Proof/Machine/SwOps.lean ====
section
/-!
DEFINITION. Operations of the core pipeline that the link layers share: slot positions on a standard port (R585, R589) and
the undo of speculation (R26 to R28, R49, R281).
-/

namespace Sys2Proof.Machine

/-- The slot positions of a flit of standard port `p`: 4 in 256-byte flits, 1 in a 68-byte one, 0 without flits (R589). -/
def Dev.flitSlots (d : Dev) (p : Nat) : Nat :=
  match d.get F.PRT_STATUS.FLIT p with | 0 => 0 | 1 => 1 | _ => 4

/-- One slot position of a standard port goes to slot counter `e`, with message content or without; a flit that it fills
counts as sent (R585, R589). DESIGN CHOICE, unsafe: log entry 70. -/
def Dev.stdSlot (d : Dev) (p e : Nat) (msg : Bool) : Dev :=
  let d := d.count (cPort p e)
  let r := d.prt p
  let k := d.flitSlots p
  if k = 0 then d
  else if r.fill + 1 < k then d.setPrt p { r with fill := r.fill + 1, fillMsg := r.fillMsg || msg }
  else
    let d := { d with flt := { d.flt with injLink := d.flt.injLink.put 0 p (d.flt.injLink.get 0 p - 1) } }
    (d.setPrt p { r with fill := 0, fillMsg := false }).count (cPort p (if r.fillMsg || msg then 4 else 6))

/-- `n` slot positions in turn. -/
def Dev.stdSlots (d : Dev) (p e n : Nat) (msg : Bool) : Dev := (List.range n).foldl (fun d _ => d.stdSlot p e msg) d

/-- The null slots that replace `n` cancelled egress slots of a message: each counts as Wasted, on an interlink when its flit
is sent (R28, R589). -/
def Dev.nullSlots (d : Dev) (x : PMsg) (n : Nat) : Dev :=
  match x.dest with
  | .port e =>
    if !x.resv then d
    else if d.isIl e.val then d.setIl e.val { d.ilRt e.val with nulls := (d.ilRt e.val).nulls + n }
    else d.stdSlots e.val 1 n false
  | _ => d

/-- One message that an undo from slot number `c` on reaches: null slots for its cancelled reservation, which for
header-early I/O stands while its first slot does (R178), and its directory look-up dropped, with the first slot (R281,
R296). -/
def Dev.undoMsg (d : Dev) (c : Nat) (x : PMsg) : Dev :=
  let d := if x.heIo && !x.wholly c then d else d.nullSlots x (x.lost c).length
  match x.dest with
  | .slice t _ => if x.look && x.wholly c then d.count (cTile t.val 47) else d
  | _ => d

/-- R26, R28, R49: undo the slots of port `p` whose verdict is open, from slot number `c` on. A message without a slot left
is discarded: its per-source sequence and its release number are assigned again. -/
def Dev.undoFrom (d : Dev) (p c : Nat) : Dev :=
  let hit := d.sw.pipe.filter fun x => x.port.val == p && !(x.lost c).isEmpty
  let gone := hit.filter (·.wholly c)
  let d := { d with sw := { d.sw with pipe := d.sw.pipe.filterMap fun (x : PMsg) =>
    if x.port.val ≠ p || (x.lost c).isEmpty then some x else if x.wholly c then none else some (x.cut c) } }
  let d := ((hit.foldl (fun d x => d.undoMsg c x) d).unhold gone).unseq gone
  match gone with
  | x :: _ => d.setPrt p { d.prt p with rel := x.rel - 1 }
  | [] => d

/-- R26, R49: the verdict of flit `f` of port `p` fails: its slots, and those of later flits of the port, are undone. -/
def Dev.undoFlit (d : Dev) (p f : Nat) : Dev :=
  match (((d.openSlots p).filter fun y => y.flit == f).map (·.id)).min? with
  | some c => d.undoFrom p c
  | none => d

/-- At a link-down no open verdict of port `p` comes any more. -/
def Dev.undoOpen (d : Dev) (p : Nat) : Dev := d.undoFrom p 0

end Sys2Proof.Machine
end

