-- ==== Sys2Proof/Machine/PortOps.lean ====
section
/-!
DEFINITION. The operations of a port that other subsystems share: completion counts and events (R406 to R409), the end of
a lock (R413), the flush and the reset of a port (R103, R198, R199), and the link-down declaration (R102, R146, R194 to
R196).
-/

namespace Sys2Proof.Machine

/-! ### Training -/

/-- In Bring-up, ports train once the firmware has applied the configuration (R429); after a third recovery only those that
expose the management function (R508). -/
def Dev.trainOk (d : Dev) (p : Nat) : Bool :=
  (d.mode != .bringUp || d.get F.MGT_FW_STATUS.STATE == 2) &&
    (d.flt.holdL3.isNone || d.exposes p)

/-! ### Events -/

/-- An event arises at its source behind the messages up to number `n` (R406). A hot-plug event already pending on its vPPB
merges (R409). -/
def Dev.ariseAt (d : Dev) (p n : Nat) (w : EvWhat) : Dev :=
  let r := d.prt p
  let merges := match w with
    | .hotplug _ _ => r.events.any fun e => decide (e.what = w)
    | _ => false
  if merges then d.count (cTile (p / 8) 10)
  else d.setPrt p { r with events := r.events ++ [{ stamp := n, what := w }] }

/-- An event arises at its source: stamped with REL (R406). -/
def Dev.arise (d : Dev) (p : Nat) (w : EvWhat) : Dev := d.ariseAt p (d.prt p).rel w

/-- The vPPBs bound to an edge ID, or being unbound from it (R214). -/
def Dev.boundTo (d : Dev) (e : BitVec 12) : List (Nat × Nat) :=
  (List.range 64).flatMap fun h => if d.isHost h then
      ((List.range 32).filter fun v => let i := h * 32 + v
        v != 0 && d.get F.TIL_VPPB.STATE i ≥ 2 && d.get F.TIL_VPPB.TARGET_EDGE i == e.toNat).map fun v => (h, v)
    else []

/-- A hot-plug event of source port `p` on every vPPB bound to edge ID `e`. -/
def Dev.hotplugEdge (d : Dev) (p : Nat) (e : BitVec 12) : Dev :=
  (d.boundTo e).foldl (fun d x => d.arise p (.hotplug (Fin.ofNat 64 x.1) (Fin.ofNat 32 x.2))) d

/-- A hot-plug event of target port `p` on every vPPB bound to it (R407). -/
def Dev.hotplug (d : Dev) (p : Nat) : Dev := d.hotplugEdge p (d.edgeOf p)

/-! ### Outstanding requests -/

/-- Requests handed to the partner of port `p` and not answered (R199). -/
def Dev.outst (d : Dev) (p : Nat) : List Msg := d.sw.outst.get [] p

def Dev.setOutst (d : Dev) (p : Nat) (l : List Msg) : Dev := { d with sw := { d.sw with outst := d.sw.outst.put [] p l } }

/-! ### Locks -/

/-- A request of the lock holder still outstanding at the locked target gets a Completer Abort (R413). -/
def Dev.abortLocked (d : Dev) (l : Lock) : Dev :=
  let e := l.target.val
  let gone := (d.outst e).filter fun m => m.cls = .ion && m.src == d.edgeOf l.holder.val
  let d := d.setOutst e ((d.outst e).filter fun m => !gone.contains m)
  gone.foldl (fun d m =>
    let k : CplTrk := { tile := Fin.ofNat 8 (e / 8), src := m.src, tag := m.tag, port := l.target, m := m, got := false }
    ({ d with brg := { d.brg with trks := d.brg.trks.erase k, late := d.brg.late ++ [k] } }).answer (e / 8) m (.cpl .ca)) d

/-- R413: end the locked sequence with a cause, as at a timeout. -/
def Dev.endLock (d : Dev) (cause : Nat) : Dev :=
  match d.brg.lock with
  | none => d
  | some l =>
    let t := l.holder.val / 8
    let d := { d with brg := { d.brg with lock := none, former := d.brg.former ++ [l.holder] } }
    let d := if l.level = 2 then
        (d.emit t { op := .unlock, dst := d.edgeOf l.target.val, src := d.edgeOf l.holder.val }).abortLocked l
      else d
    let d := match l.toFwd with
      | some x => (d.answer t x.m (.cpl .ca)).doneMsg x.ing x.rel
      | none => d
    (d.set F.BRG_ERR.LOCK_TIMEOUT).raise .brgLockTimeout (uTile t 0x15) l.holder.val
      (l.holder.val + (if l.level = 2 then l.target.val else l.holder.val) * 64 + cause * 4096)

/-- Send an event's message to host port `h`, for the queue of class EVT_CLASS, tenant slot 0 (R407). -/
def Dev.toHost (d : Dev) (h : Nat) (m : Msg) : Dev :=
  d.launch (h / 8) (.port (Fin.ofNat 64 h)) { m with dst := d.edgeOf h, src := d.ownEdge }
    (q := some (queueNo h (d.get F.BRG_CTL.EVT_CLASS 0) 0))

/-- A message-signalled interrupt to host `h`, which chose its address and data, outside the spec (R407). -/
def Dev.msi (d : Dev) (h : Nat) : Dev :=
  let (a, d) := d.fresh
  let (b, d) := d.fresh
  d.toHost h { op := .mWr, addr := (Config.free a).truncate 64, pay := bytes 4 (Config.free b).toNat }

/-! ### Multicast copies (R190) -/

/-- The copy of stored message `id` toward `p` is gone: the cell is freed with the last copy of the tile. -/
def Dev.mcDrop (d : Dev) (id : Nat) (p : Fin 64) (sent : Bool) : Dev :=
  match d.sw.mc.find? fun c => c.id == id with
  | none => d
  | some c =>
    let c' := { c with waiting := c.waiting.filter (· != p), started := c.started || sent }
    if c'.waiting = [] then
      let d := { d with sw := { d.sw with mc := d.sw.mc.filter fun x => x.id != id } }
      let d := if c.bad then d.retire c.tile.val else d
      d.put F.TIL_AUX_STATUS0.STRAG_USED c.tile.val (d.get F.TIL_AUX_STATUS0.STRAG_USED c.tile.val - c.cells)
    else { d with sw := { d.sw with mc := d.sw.mc.map fun x => if x.id = id then c' else x } }

/-! ### Messages past stage 3 -/

/-- Take what `pick` picks out of the hold queues, of what waits for the crossbar or for admission, of the requests that wait for
the lock, and of the contributions at the Blend engines. A hold queue's place of a message still in the pipeline stays. -/
def Dev.takeStaged (d : Dev) (pick : Staged → Bool) : List Staged × Dev :=
  let go (s : Staged) : Bool := pick s && !s.spec
  let l := (d.sw.pols.flatMap fun x => match x.2 with | some y => y.hold.filter go | none => []) ++ d.sw.staged.filter go ++
    d.brg.waiters.filter go ++ (d.bld.inq.map (·.2)).filter go ++ d.bld.folds.flatMap fun x => x.2.held.filter go
  let d := d.sw.pols.foldl (fun d x =>
    let y := d.pol x.1
    let h := y.hold.filter fun s => !go s
    d.setPol x.1 { y with hold := h, metered := y.metered && decide (h.head? = y.hold.head?) }) d
  let d := d.bld.folds.foldl (fun d x => d.setFoldRt x.1 { d.foldRt x.1 with held := (d.foldRt x.1).held.filter fun s => !go s }) d
  (l, { d with sw := { d.sw with staged := d.sw.staged.filter fun s => !go s },
               brg := { d.brg with waiters := d.brg.waiters.filter fun s => !go s },
               bld := { d.bld with inq := d.bld.inq.filter fun x => !go x.2 } })

/-- Take the whole messages of the pipeline that `pick` picks; their places in hold queues go with them. -/
def Dev.takePipe (d : Dev) (pick : PMsg → Bool) : List PMsg × Dev :=
  let go (x : PMsg) : Bool := pick x && !x.partial x.port.val
  let l := d.sw.pipe.filter go
  (l, ({ d with sw := { d.sw with pipe := d.sw.pipe.filter fun x => !go x } }).unhold l)

/-- Where a message is answered as lost: its egress port, or its ingress. -/
def Dest.seen (x : Dest) (ing : Option (Fin 64)) : Nat :=
  match x with
  | .port e => e.val
  | _ => (ing.getD 0).val

/-- A message past stage 3 is answered as lost, and has completed (R199, R406). -/
def Dev.loseMsg (d : Dev) (s : Staged) : Dev :=
  let p := s.dest.seen s.ing
  (d.lostAnswer (uTile (p / 8) 0x10) p s.m).ends s

/-! ### Flush and reset of a port -/

/-- An egress queue; one without an entry is empty with a full bucket. -/
def Dev.queue (d : Dev) (q : Nat) : Queue :=
  (d.sw.queues.get none q).getD Queue.empty

def Dev.setQueue (d : Dev) (q : Nat) (x : Queue) : Dev :=
  { d with sw := { d.sw with queues := d.sw.queues.put none q (if x = Queue.empty then none else some x) } }

/-- The doorbell of the host mailbox of port `p` is cleared (R615, R616). -/
def Dev.clearHostBell (d : Dev) (p : Nat) : Dev :=
  let b := d.get F.MGT_MBX_HOST.BELL
  d.put F.MGT_MBX_HOST.BELL 0 (if b.testBit p then b - 2 ^ p else b)

/-- R103: reset the port-domain fields of port `p`, its virtual time and start tags (R226), its per-source sequence, its virtual wires (R408), the host's
extension settings (R265) and the doorbell of its mailbox (R616). -/
def Dev.portReset (d : Dev) (p : Nat) : Dev :=
  let r := d.prt p
  let d := { d with regs := d.regs.filter fun x => !(keyDom x.1 == 3 && keyIdx x.1 == p) }
  let d := d.put F.SCH_PORT_VT.VT p 0
  let d := d.sw.queues.foldl (fun d x =>
    if x.1 / 256 = p then d.setQueue x.1 { d.queue x.1 with start := 0, setAt := 0, stale := false } else d) d
  let d := if d.isHost p then
      let d := d.clearFwd p
      { d with sw := { d.sw with sseq := d.sw.sseq.erase (d.edgeOf p).toNat } }
    else d
  let d := if d.isTarget p then
      (List.range 4).foldl (fun d k => if r.wires.getLsbD k then d.arise p (.intx (Fin.ofNat 4 k) false) else d) d
    else d
  (d.setPrt p { d.prt p with wires := 0, wasReset := true }).clearHostBell p

/-- Requests of port `p`'s partner are answered as lost: their trackers end (R414), and a later response is discarded (R174,
R199). -/
def Dev.loseReqs (d : Dev) (p : Nat) (l : List Msg) : Dev :=
  let mine (k : CplTrk) : Bool := k.port.val == p && !k.got && l.any fun m => m.src == k.src && m.tag == k.tag
  let d := d.setOutst p ((d.outst p).filter fun m => !l.contains m)
  let d := { d with
    brg := { d.brg with trks := d.brg.trks.filter fun k => !mine k }
    sw := { d.sw with lost := d.sw.lost.put [] p (d.sw.lost.get [] p ++ l) } }
  l.foldl (fun d m => d.lostAnswer (uTile (p / 8) 0x11) p m) d

/-- Answer one flushed queue message of port `p` (R199): its copy is dropped, its ingress port counts it done. -/
def Dev.flushMsg (d : Dev) (p : Nat) (x : QMsg) : Dev :=
  let d := match x.mc with
    | some id => d.mcDrop id (Fin.ofNat 64 p) false
    | none => d
  (d.lostAnswer (uTile (p / 8) 0x11) p x.m).doneMsg x.ing x.rel

/-- Every message queued for port `p`, in queue order, and the device without them. -/
def Dev.takeQueued (d : Dev) (p : Nat) : List QMsg × Dev :=
  let r := d.prt p
  let mine := d.sw.queues.filter fun x => x.1 / 256 == p
  let msgs := mine.flatMap fun x => match x.2 with
    | some q => q.msgs
    | none => []
  let d := mine.foldl (fun d x =>
    let q := d.queue x.1
    let d := d.setQueue x.1 { q with msgs := [], headOff := 0, bad := false }
    if q.bad then d.retire (p / 8) else d) d
  (msgs ++ r.sideNp.map (·.2) ++ r.sideCpl.map (·.2), d.setPrt p { d.prt p with sideNp := [], sideCpl := [] })

/-- The messages whose last slot is among some slots. -/
def lastSlots (l : List IlSlot) : List Msg := (l.filter fun s => s.pos.toNat % 3 = 0).map (·.m)

/-- What an interlink still holds for its partner that no outstanding request stands for, in its replay buffer and waiting
slots: posted messages, snoops and responses (R142, R199). -/
def IlRt.unsent (r : IlRt) : List Msg :=
  (lastSlots (r.txq ++ r.replay.flatMap fun f => match f.1.body with
    | .data s | .replay s => s
    | _ => [])).filter fun m => !(m.cls = .req || m.cls = .rwd || m.cls = .ion)

/-- R198, R199: flush port `p` with a cause. -/
def Dev.flushPort (d : Dev) (p cause : Nat) : Dev :=
  let d := (d.set F.TIL_ERR.LAYOVER (p / 8)).raise .layoverExpire (uTile (p / 8) 0x11) p (p + cause * 256)
  let d := (d.dropPartial p).setPrt p { d.prt p with layover := false, ref := none }
  let (msgs, d) := d.takeQueued p
  let d := msgs.foldl (fun d x => d.flushMsg p x) d
  let d := d.loseReqs p (d.outst p)
  let il := d.ilRt p
  let d := if d.isIl p then
      let d := il.unsent.foldl (fun d m => d.lostAnswer (uTile (p / 8) 0x11) p m) d
      d.setIl p { il with replay := [], txq := [], resend := [], rob := [], toName := [], named := [] }
    else d
  let target := d.isTarget p
  let d := d.portReset p
  let d := { d with brg := { d.brg with trks := d.brg.trks.filter fun (k : CplTrk) => k.port.val != p } }
  let d := if d.isHost p then d.declareDead p 2 else d
  if target then d.hotplug p else d

/-! ### Link-down -/

/-- The layover window of port `p` in µs (R113): values above 1,000,000 act as 1,000,000. -/
def Dev.window (d : Dev) (p : Nat) : Nat := min (d.get F.PRT_LAYOVER.WINDOW_US p) 1000000

/-- R196: the last `n` messages handed to port `p` that the partner has not acknowledged. Their memory and cache
messages go back to the head of their queues in order; their CXL.io messages are answered as lost. -/
def Dev.takeBack (d : Dev) (p n : Nat) : Dev :=
  let mine := (d.out.filter fun h => h.port.val == p).reverse.take n
  -- newest first, so that the oldest ends at the head
  mine.foldl (fun d h =>
    match h.x.m.cls with
    | .ion => d.loseReqs p [h.x.m]
    | .iop | .ioc => d.lostAnswer (uTile (p / 8) 0x11) p h.x.m
    | _ =>
      let d := d.setOutst p ((d.outst p).erase h.x.m)
      let q := d.queue h.q
      let x : QMsg := { h.x with mc := none, again := true }
      d.setQueue h.q { q with msgs := x :: q.msgs }) d

/-- The reason, the count, the log and the status fields of a link-down (R102, R114). RATE, WIDTH_NOW and FLIT keep their last
values while the port is down in its layover. DESIGN CHOICE, unsafe: log entry 74. -/
def Dev.downFields (d : Dev) (p reason : Nat) : Dev :=
  let d := ((d.put F.PRT_DOWN_INFO.REASON p reason).addSat F.PRT_DOWN_INFO.COUNT p 1).raise .linkDown (uPort p) p
    (Config.faultAddr Kind.linkDown.code p).toNat
  let d := d.clearFlds [F.PRT_STATUS.DL_ACTIVE, F.PRT_STATUS.ID_CONFIRMED, F.PRT_STATUS.IDE_ACTIVE, F.PRT_IDE.PENDING] p
  ((d.put F.PRT_STATUS.LTSSM p (if reason = 5 then 8 else if reason = 6 then 7 else 0)).put F.SCH_PORT_CFG.UNIT_TIME p 0).put
    F.PIDV.VALID p 0

/-- An interlink's state at a link-down: DOWN, or DISABLED; the exchange in progress is dropped. -/
def Dev.downIl (d : Dev) (p reason : Nat) : Dev :=
  if d.isIl p then
    (d.put F.PRT_IL_STATUS.STATE p (if reason = 6 || reason = 8 then 7 else 0)).setIl p { d.ilRt p with
      retrain := none, ctrlq := [], peer := none, ackRx := false, ackResume := false, ackTx := false, peerLogged := false, peerBad := false, timeReq := none }
  else d

/-- A partial TLP, which a link-down discards (R179). -/
def PMsg.partialTlp (x : PMsg) (p : Nat) : Bool :=
  x.partial p && match x.m.cls with
    | .ion | .iop | .ioc => true
    | _ => false

/-- The slots of the pipeline whose verdict can no longer come: on a standard port their messages are discarded; on an
interlink they are undone, and a message that keeps a slot waits for a resume (R142), but for a partial TLP (R179). Then the
port's link state, with the reference identity of its layover (R106). DEDUCED, unsafe: log entry 17. -/
def Dev.downRt (d : Dev) (p : Nat) (ref : Option (BitVec 64)) : Dev :=
  let d := if d.isIl p then
      let d := d.undoOpen p
      let d := (d.sw.pipe.filter (·.partialTlp p)).foldl (fun d x => d.ilFreeN p (vcOf x.m.cls.code) x.slots.length) d
      d.dropMsgs p (·.partialTlp p)
    else d.dropPartial p
  d.setPrt p { d.prt p with up := false, l0p := none, named := none, ideKeys := 0, ref := ref }

/-- A link-down of the holder's port or of the locked target ends the locked sequence (R413). -/
def Dev.downLock (d : Dev) (p : Nat) : Dev :=
  match d.brg.lock with
  | some l => if l.holder.val = p || (l.level = 2 && l.target.val = p) then d.endLock 4 else d
  | none => d

/-- R102, R146: declare port `p` down with a reason: the reason and the log, the identity reference (R106), the lock
(R413), and the layover window or the flush (R194). A port already down is left alone. `unacked`: the messages that the partner has not
acknowledged (R196), none where the command does not report them: their number is then a free value (log entry 77). -/
def Dev.linkDown (d : Dev) (p reason : Nat) (unacked : Option Nat := none) : Dev :=
  if !(d.prt p).up then d
  else
    let ref := if d.bit F.PRT_STATUS.ID_CONFIRMED p then some (BitVec.ofNat 64 (d.get F.PRT_PARTNER_ID.ID p)) else none
    let d := ((((d.downFields p reason).downIl p reason).downRt p ref).downLock p)
    let d := if d.isIl p then d
      else match unacked with
        | some n => d.takeBack p n
        | none =>
          if d.out.any (fun h => h.port.val == p) then
            { d.takeBack p (Config.unacked d.freeCtr p) with freeCtr := d.freeCtr + 1 }
          else d
    let win := if reason = 5 || reason = 6 || reason = 8 then 0 else d.window p
    if win = 0 then d.flushPort p 4 else d.setPrt p { d.prt p with layover := true }

/-- R194: an event that ends a running layover window as a window of 0. -/
def Dev.endLayover (d : Dev) (p : Nat) : Dev := if (d.prt p).layover then d.flushPort p 4 else d

/-- R321: a dead-agent declaration also takes the host's port down with reason 0x8 until its walks end. -/
def Dev.killHost (d : Dev) (h cause : Nat) : Dev :=
  if d.dead h then d
  else
    let d := d.declareDead h cause
    if (d.prt h).up then
      ({ d with coh := { d.coh with deadDown := addHost d.coh.deadDown h } }).linkDown h 8
    else d

end Sys2Proof.Machine
end

