-- ==== Sys2Proof/Machine/PwrOps.lean ====
section
/-!
DEFINITION. Wake sources and Butre's pending records (R42, R493, R524, R526, R533).
-/

namespace Sys2Proof.Machine

/-- A record that Butre keeps in the cellar until the collector takes it (R493), whether or not the collector runs. -/
def Dev.pendFault (d : Dev) (k : Kind) (unit idx addr : Nat) : Dev :=
  d.pend { unit := unit, what := .fault k, dom := k.dom, idx := idx, addr := BitVec.ofNat 64 (addr % 2 ^ 52) }

/-- FK_MODE_TRANSITION_FAIL, whose address field no chapter lays out. -/
def modeFailAddr : Nat := (Config.faultAddr Kind.modeTransitionFail.code 0).toNat

def Dev.modeFail (d : Dev) : Dev := d.raise .modeTransitionFail (uDev 0x00) 0 modeFailAddr

/-! ### Wake sources (R533) -/

/-- Two sources: all bits, the lowest bay and the lowest timer. -/
def WakeSrc.join (a b : WakeSrc) : WakeSrc :=
  let pick (bit x y : Nat) : Nat :=
    if a.sources.testBit bit then (if b.sources.testBit bit then min x y else x) else y
  { sources := a.sources ||| b.sources, bay := pick 2 a.bay b.bay, timer := pick 3 a.timer b.timer }

/-- Latch a source. -/
def Dev.latch (d : Dev) (w : WakeSrc) : Dev :=
  { d with pwr := { d.pwr with latched := some (match d.pwr.latched with
    | some v => v.join w
    | none => w) } }

/-- R524 step 1: the latched source starts a wake. The regulator comes up at 0.72 V, so the fused level is no longer
applied (R522). -/
def Dev.wakeStart (d : Dev) : Dev :=
  match d.pwr.latched with
  | none => d
  | some w =>
    let d := d.put F.PWR_WAKE_SOURCE.SOURCES 0 (w.sources ||| if d.pwr.lost then 0x80 else 0)
    let d := (d.put F.PWR_WAKE_SOURCE.BAY_IDX 0 w.bay).put F.PWR_WAKE_SOURCE.TIMER_IDX 0 w.timer
    let d := ((d.put F.PWR_AVS.APPLIED 0 0).put F.PWR_STATUS.STATE 0 2).put F.PWR_STATUS.EN 0 1
    { d with pwr := { d.pwr with latched := none, restart := false, seqr := .up 0 false } }

/-- A wake waits only for SYS_PWROK (R524). -/
def Dev.wakeIfGood (d : Dev) : Dev :=
  if d.get F.PWR_STATUS.STATE = 0 && d.bit F.PWR_STATUS.PWROK then d.wakeStart else d

/-- A wake source fires: a wake in Standby, a latched source while the rails go down (R42), and else only a record of it
(R46, R526, R538). -/
def Dev.wakeSrc (d : Dev) (w : WakeSrc) : Dev :=
  match d.get F.PWR_STATUS.STATE with
  | 0 => (d.latch w).wakeIfGood
  | 1 => d.latch (if d.bit F.PWR_CTL.MODE_REQ then { w with sources := w.sources ||| 0x100 } else w)
  | _ => d.put F.PWR_WAKE_SEEN.SOURCES 0 (d.get F.PWR_WAKE_SEEN.SOURCES ||| w.sources)

/-- A source without a bay or a timer. -/
def Dev.wakeBit (d : Dev) (bits : Nat) : Dev := d.wakeSrc { sources := bits, bay := 0, timer := 0 }

/-- A bay wakes: presence, ALERT# or a fault, each with its own enable and the bay's bit. -/
def Dev.wakeBay (d : Dev) (en : Fld) (b : Nat) : Dev :=
  if d.bit en && (d.get F.PWR_WAKE_BAY_EN.BAYS).testBit b then d.wakeSrc { sources := 4, bay := b, timer := 0 } else d

/-- R526: PWR_WAKE_RESULT clears, and ALERT# rises. -/
def Dev.clearResult (d : Dev) : Dev :=
  let d := d.clearFlds [F.PWR_WAKE_RESULT.RESULT, F.PWR_WAKE_RESULT.RETRIES, F.PWR_WAKE_RESULT.FAIL_CH,
    F.PWR_WAKE_RESULT.KEEP_BAD, F.PWR_WAKE_RESULT.NO_WFI] 0
  { d with pwr := { d.pwr with alert := false } }

/-- The highest channel whose VR_EN is up. -/
def Dev.topCh (d : Dev) : Option Nat := [5, 4, 3, 2, 1, 0].find? fun c => (d.get F.PWR_STATUS.EN).testBit c

/-- The next channel to enable after channel `c` (R523). -/
def Dev.nextCh (d : Dev) (c : Nat) : Option Nat :=
  (List.range 6).find? fun k => decide (c < k) && (d.get F.PWR_RAIL_CFG.CH_EN ||| 0xF).testBit k

/-- R525: the wake attempt fails on channel `ch`, or 7 for the PLL: what was enabled is disabled in turn. -/
def Dev.attemptFail (d : Dev) (ch : Nat) : Dev :=
  let d := (d.put F.PWR_WAKE_RESULT.FAIL_CH 0 ch).count (cDev 21)
  let n := d.pwr.fails + 1
  let d := { d with pwr := { d.pwr with fails := n, seqr := .down true } }
  if n < 4 then d
  else
    let d := ((d.put F.PWR_STATUS.STATE 0 4).put F.PWR_WAKE_RESULT.RESULT 0 3).put F.PWR_WAKE_RESULT.RETRIES 0 3
    ({ d with pwr := { d.pwr with alert := true, fails := 0 } }).pendFault .wakeFail (uDev 0x10) 0 (ch + 3 * 16 + 256)

end Sys2Proof.Machine
end

