-- ==== Sys2Proof/Machine/BayOps.lean ====
section
/-!
DEFINITION. The bay channels (R546 to R571): their events, trips, feeds, changes of feed and power-off. A feed is `false`
for A and `true` for B.
-/

namespace Sys2Proof.Machine

def Dev.bayRt (d : Dev) (b : Nat) : BayRt := d.bay.get BayRt.reset b

def Dev.setBayRt (d : Dev) (b : Nat) (r : BayRt) : Dev := { d with bay := d.bay.put BayRt.reset b r }

/-- BAY_STATUS.STATE (R550). -/
def Dev.baySt (d : Dev) (b : Nat) : Nat := d.get F.BAY_STATUS.STATE b

def Dev.setBaySt (d : Dev) (b st : Nat) : Dev := d.put F.BAY_STATUS.STATE b st

def Dev.bayFeed (d : Dev) (b : Nat) : Bool := d.bit F.BAY_STATUS.FEED_ACT b

/-! ### Events and wakes -/

/-- The bay's port, where one is named. -/
def Dev.bayPort (d : Dev) (b : Nat) : Option Nat :=
  if d.bit F.BAY_CFG.PORT_VALID b then some (d.get F.BAY_CFG.PORT b) else none

/-- A bay event record: through the bridge at the bay's port while the fabric die is on (R407, R562), else to Butre. -/
def Dev.bayEvent (d : Dev) (b : Nat) (e : Event) (level : Nat) : Dev :=
  let data := BitVec.ofNat 32 (b + level * 256)
  match d.bayPort b with
  | some p => if d.die then d.arise p (.record e.code (uBay b) data 0) else d.event e (uBay b) data
  | none => d.event e (uBay b) data

/-- Drop PG, and PERST# with it (R554). -/
def Dev.dropPg (d : Dev) (b : Nat) : Dev := (d.put F.BAY_STATUS.PG b 0).put F.BAY_STATUS.PERST b 1

/-- Turn every gate of bay `b` off: PG and PERST# fall and the fault timer stops. -/
def Dev.gatesOff (d : Dev) (b : Nat) : Dev := (d.dropPg b).put F.BAY_STATUS.FLT_RUN b 0

/-- Note what Butre measures at bay `b`. -/
def Dev.measure (d : Dev) (b isns vout : Nat) : Dev := (d.put F.BAY_MEAS.ISNS b isns).put F.BAY_MEAS.VOUT b vout

/-! ### Trips (R556, R573) -/

/-- The retries are used up: a further trip locks out. -/
def Dev.bayExhausted (d : Dev) (b : Nat) : Bool :=
  d.get F.BAY_CFG.RETRY_LIM b != 15 && d.get F.BAY_STATUS.RETRIES b == d.get F.BAY_CFG.RETRY_LIM b

/-- The address field of a bay fault. -/
def Dev.bayAddr (d : Dev) (b isns vout : Nat) : Nat :=
  b + d.get F.BAY_STATUS.FEED_ACT b * 2 ^ 5 + (if (d.bayRt b).retry then 2 ^ 6 else 0) +
    (if d.bayExhausted b then 2 ^ 7 else 0) + d.baySt b * 2 ^ 8 + isns % 1024 * 2 ^ 12 + vout % 1024 * 2 ^ 22

/-- Bay `b` trips with a fault: the record, its error bit and its count, then TRIP or LOCKOUT; the fault may wake. -/
def Dev.bayTrip (d : Dev) (b : Nat) (k : Kind) (bit : Fld) (cnt : Option Nat) (isns vout : Nat) : Dev :=
  let exh := d.bayExhausted b
  let d := ((d.measure b isns vout).set bit b).raise k (uBay b) b (d.bayAddr b isns vout)
  let d := match cnt with
    | some e => d.count (cBay b e)
    | none => d
  let d := (d.gatesOff b).setBayRt b BayRt.reset
  let d := if exh then ((d.setBaySt b 8).put F.BAY_CTL.ON_REQ b 0).set F.BAY_ERR.LOCKOUT b else d.setBaySt b 7
  d.wakeBay F.PWR_WAKE_EN.BAY_FAULT b

/-! ### Feeds and slots (R552, R558, R559) -/

def Dev.feedGood (d : Dev) (f : Bool) : Bool := d.bit (if f then F.BAY_FEED_STATUS.B_GOOD else F.BAY_FEED_STATUS.A_GOOD)

def Dev.feedFitted (d : Dev) (f : Bool) : Bool := d.bit (if f then F.BAY_FEED_CFG.B_FITTED else F.BAY_FEED_CFG.A_FITTED)

/-- The allowed feeds of bay `b`, in order. -/
def Dev.feedsOf (d : Dev) (b : Nat) : List Bool :=
  match d.get F.BAY_CFG.FEED b with
  | 0 => [false] | 1 => [true] | 2 => [false, true] | _ => [true, false]

/-- The first allowed feed that is good. -/
def Dev.pickFeed (d : Dev) (b : Nat) : Option Bool := (d.feedsOf b).find? d.feedGood

/-- A precharge slot of a feed is free. -/
def Dev.slotFree (d : Dev) (f : Bool) : Bool :=
  decide (((List.range 32).filter fun b => d.baySt b == 2 && d.bayFeed b == f).length < d.get F.BAY_FEED_CFG.PRE_MAX)

/-- Enter PRECHARGE on a feed. -/
def Dev.precharge (d : Dev) (b : Nat) (f : Bool) (retry : Bool) : Dev :=
  ((d.put F.BAY_STATUS.FEED_ACT b (if f then 1 else 0)).setBaySt b 2).setBayRt b { BayRt.reset with retry := retry }

/-- Start bay `b`: PRECHARGE on the first good feed with a free slot, else WAIT. -/
def Dev.bayStart (d : Dev) (b : Nat) (retry : Bool) : Dev :=
  let wait : Dev := (d.setBaySt b 1).setBayRt b { BayRt.reset with retry := retry }
  match d.pickFeed b with
  | some f => if d.slotFree f then d.precharge b f retry else wait
  | none => wait

/-- OFF becomes WAIT with ON_REQ set, EN and confirmed presence (R550). -/
def Dev.bayWait (d : Dev) (b : Nat) : Dev :=
  if d.baySt b = 0 && d.bit F.BAY_CTL.ON_REQ b && d.bit F.BAY_CFG.EN b && d.bit F.BAY_STATUS.PRSNT b then d.setBaySt b 1 else d

/-! ### Changes of feed (R560, R561) -/

/-- Break before make toward a feed; `ramp`: the bay was not yet in ON (R571). -/
def Dev.feedSwitch (d : Dev) (b : Nat) (f : Option Bool) (ramp : Bool) : Dev :=
  ((d.setBaySt b 6).put F.BAY_STATUS.FLT_RUN b 0).setBayRt b { d.bayRt b with toFeed := f, direct := false, ramp := ramp, qual := false }

/-- A bay in ON leaves a feed that is no longer allowed, or returns to its preferred feed. -/
def Dev.bayFeedCheck (d : Dev) (b : Nat) : Dev :=
  if d.baySt b ≠ 5 then d
  else if !(d.feedsOf b).contains (d.bayFeed b) then d.feedSwitch b (d.pickFeed b) false
  else if d.bit F.BAY_CFG.REVERT b then
    match (d.feedsOf b).head? with
    | some f => if f != d.bayFeed b && d.feedGood f then d.feedSwitch b (some f) false else d
    | none => d
  else d

/-- A bay that runs on a feed, or has begun to, loses it. -/
def Dev.bayFeedLost (d : Dev) (b : Nat) : Dev :=
  let d := d.set F.BAY_ERR.FEED_LOSS b
  let ramp := match d.baySt b with
    | 5 => false
    | 6 => (d.bayRt b).ramp
    | _ => true
  match d.pickFeed b with
  | some f => d.feedSwitch b (some f) ramp
  | none => ((d.gatesOff b).setBaySt b 1).setBayRt b BayRt.reset

/-- The bays powered from a feed: PRECHARGE to ON, and SWITCH once its new gate is driven. -/
def Dev.baysOn (d : Dev) (f : Bool) : List Nat :=
  (List.range 32).filter fun b => d.bayFeed b == f &&
    (match d.baySt b with
      | 2 | 3 | 4 | 5 => true
      | 6 => (d.bayRt b).direct
      | _ => false)

/-- R558: a feed is no longer good: the bays on it switch or wait, and a bay that was changing feed waits once no allowed feed is
good (R560, R571); one record names the bays on it, unless none was powered or the feed is not fitted. -/
def Dev.feedLost (d : Dev) (f log : Bool) : Dev :=
  let d := d.put (if f then F.BAY_FEED_STATUS.B_GOOD else F.BAY_FEED_STATUS.A_GOOD) 0 0
  let l := d.baysOn f
  let d := match l with
    | [] => d
    | b :: _ =>
      if log then d.raise .bayFeedLoss (uBay b) b (b + (if f then 2 ^ 5 else 0) + (l.foldl (fun a k => a + 2 ^ k) 0) * 2 ^ 20) else d
  let d := l.foldl Dev.bayFeedLost d
  let d := ((List.range 32).filter fun b => d.baySt b == 6 && (d.pickFeed b).isNone).foldl (fun d b =>
    ((d.gatesOff b).setBaySt b 1).setBayRt b { BayRt.reset with retry := (d.bayRt b).retry }) d
  match l with
  | [] => d
  | b :: _ => if log then d.wakeBay F.PWR_WAKE_EN.BAY_FAULT b else d

/-! ### Power-off and fences (R500, R565, R567) -/

/-- The bay is OFF. -/
def Dev.bayOff (d : Dev) (b : Nat) (cycle : Bool) : Dev :=
  ((d.gatesOff b).setBaySt b 0).setBayRt b { BayRt.reset with cycle := cycle }

/-- Step 1 of a managed power-off, which does nothing in OFF, LOCKOUT and FENCED (R567, R580); a bay that waits in TRIP has
its gates off already (R571). With `cycle` the bay powers on afterwards, also from OFF and LOCKOUT.
DEDUCED, unsafe: log entry 41. -/
def Dev.bayDown (d : Dev) (b : Nat) (cycle : Bool) : Dev :=
  let off (d : Dev) : Dev := d.put F.BAY_CTL.ON_REQ b 0
  match d.baySt b with
  | 0 | 8 => if cycle then d.setBayRt b { d.bayRt b with cycle := true } else d
  | 9 => d
  | 7 => (off d).bayOff b cycle
  | 0xA => (off d).setBayRt b { d.bayRt b with cycle := cycle }
  | _ =>
    ((((off d).put F.BAY_STATUS.PERST b 1).put F.BAY_STATUS.FLT_RUN b 0).setBaySt b 0xA).setBayRt b { BayRt.reset with cycle := cycle }

/-- The L1 action on a bay. -/
def Dev.bayFence (d : Dev) (b : Nat) : Dev :=
  (((d.gatesOff b).setBaySt b 9).put F.BAY_CTL.ON_REQ b 0).setBayRt b BayRt.reset

/-- BAY_POWER on, in a state that allows it. -/
def Dev.bayOn (d : Dev) (b : Nat) : Dev :=
  if d.baySt b = 5 then d
  else
    let d := (d.set F.BAY_CTL.ON_REQ b).put F.BAY_STATUS.RETRIES b 0
    match d.baySt b with
    | 0 => (d.setBaySt b 1).setBayRt b BayRt.reset
    | 7 => d.bayStart b false
    | 8 => (d.setBaySt b 1).setBayRt b BayRt.reset
    | _ => d

/-- Whether BAY_POWER on is allowed. -/
def Dev.bayMayOn (d : Dev) (b : Nat) : Bool :=
  d.bit F.BAY_CFG.EN b && d.bit F.BAY_STATUS.PRSNT b && d.baySt b != 9

end Sys2Proof.Machine
end

