-- ==== Sys2Proof/Machine/Params.lean ====
section
/-!
DEFINITION. Register words and the persistent parameters (R448 to R451): which register word each parameter word is,
reading and writing register words, staging values, and applying a bank. The IDs are those of R450 and of the chapters it
names; the layout inside the areas 0x3000 to 0x30FF and of the arrays is the model's (log entry 12).
-/

namespace Sys2Proof.Machine

/-! ### Register words -/

/-- A field as software sees it: the policy levels are stored as the difference from their defaults (R517). -/
def Dev.val (d : Dev) (f : Fld) (i : Nat := 0) : Nat :=
  if f = F.FLT_POLICY.LEVEL then d.get f i ^^^ ((Kind.ofCode i).map Kind.level).getD 0 else d.get f i

/-- Set a field to the value software sees. -/
def Dev.setVal (d : Dev) (f : Fld) (i v : Nat) : Dev :=
  if f = F.FLT_POLICY.LEVEL then d.put f i (v ^^^ ((Kind.ofCode i).map Kind.level).getD 0) else d.put f i v

/-- The word that runs of bits of entry `i` make. -/
def Dev.runsWord (d : Dev) (runs : List BitRun) (i : Nat) : Nat :=
  runs.foldl (fun a r => a + d.val r.fld i / 2 ^ r.src % 2 ^ r.w * 2 ^ r.lo) 0

/-- Write a word through runs of bits of entry `i`: each run replaces its bits of its field. -/
def Dev.putRuns (d : Dev) (runs : List BitRun) (i v : Nat) : Dev :=
  runs.foldl (fun d r =>
    let old := d.val r.fld i
    let part := old / 2 ^ r.src % 2 ^ r.w
    d.setVal r.fld i (old - part * 2 ^ r.src + v / 2 ^ r.lo % 2 ^ r.w * 2 ^ r.src)) d

/-- A register word as it is stored. -/
def Dev.word (d : Dev) (r : Reg) (i : Nat := 0) : Nat := d.runsWord r.layout i

/-- Store a register word. -/
def Dev.putWord (d : Dev) (r : Reg) (i v : Nat) : Dev := d.putRuns r.layout i v

/-- The bits that a register word defines. -/
def Reg.mask (r : Reg) : Nat := r.layout.foldl (fun a x => a + (2 ^ x.w - 1) * 2 ^ x.lo) 0

/-! ### The catalogue of parameters (R450) -/

/-- The size of a parameter in bytes; none for an ID the firmware does not know. DESIGN CHOICE, unsafe: log entry 12. -/
def paramSize (id : Nat) : Option Nat :=
  if id = 1 || id = 2 || id = 0x13 then some 2
  else if 0x10 ≤ id && id ≤ 0x12 then some 1
  else if id = 0x20 || id = 0x80 then some 4
  else if 0x1000 ≤ id && id < 0x1400 then
    if id % 16 < 7 then some 4 else if id % 16 = 7 then some 12 else none
  else if id = 0x2000 then some (4096 * 4)
  else if id = 0x2001 then some (64 * 32 * 4)
  else if id = 0x2002 then some (4096 * 16)
  else if id = 0x2003 then some (8 * 4)
  else if id = 0x3000 || id = 0x3001 then some 4
  else if id = 0x3002 then some (64 * 12)
  else if id = 0x3003 then some (16384 * 12)
  else if id = 0x3004 then some (1024 * 24)
  else if id = 0x4000 || id = 0x4001 then some 4
  else if id = 0x4002 then some (256 * 256)
  else if id = 0x4003 then some (64 * 32 * 16)
  else if id = 0x7000 then some 4
  else if id = 0x7001 then some (64 * 16)
  else if 0x8000 ≤ id && id < 0x8100 then ((Kind.ofCode (id - 0x8000)).map fun _ => 4)
  else if 0x9000 ≤ id && id ≤ 0x9005 then some 4
  else if 0x9100 ≤ id && id < 0x9142 then some 4
  else none

/-- Every parameter ID the firmware knows, in increasing order (PARAM_LIST). DESIGN CHOICE, unsafe: log entry 12. -/
def paramIds : List Nat :=
  [1, 2, 0x10, 0x11, 0x12, 0x13, 0x20, 0x80] ++
  (List.range 64).flatMap (fun p => (List.range 8).map fun k => 0x1000 + p * 16 + k) ++
  [0x2000, 0x2001, 0x2002, 0x2003, 0x3000, 0x3001, 0x3002, 0x3003, 0x3004, 0x4000, 0x4001, 0x4002, 0x4003, 0x7000, 0x7001] ++
  ((List.range 256).filter fun k => (Kind.ofCode k).isSome).map (0x8000 + ·) ++
  (List.range 6).map (0x9000 + ·) ++ (List.range 66).map (0x9100 + ·)

/-- Whether a parameter is an array (PARAM_LIST). -/
def paramArray (id : Nat) : Bool := decide ((paramSize id).getD 0 > 12)

/-- The bits of the register file that word `w` of parameter `id` sets, with their entry.
DESIGN CHOICE, unsafe: log entry 12. -/
def paramRuns (id w : Nat) : List BitRun × Nat :=
  let low (n : Nat) (r : Reg) := r.layout.filter fun x => decide (x.lo < n)
  if id = 1 then ([⟨F.GLB_NODE.NODE_ID, 0, 0, 16⟩], 0)
  else if id = 2 then ([⟨F.GLB_NODE.FN_EDGE, 0, 0, 12⟩], 0)
  else if id = 0x11 then ([⟨F.MGT_XPORT.BMC_MONITOR, 0, 0, 1⟩], 0)
  else if id = 0x12 then (low 4 .MGT_XPORT, 0)
  else if id = 0x20 then (Reg.layout .FLT_CTL, 0)
  else if id = 0x80 then (Reg.layout .CAR_CFG, 0)
  else if 0x1000 ≤ id && id < 0x1400 then
    let p := (id - 0x1000) / 16
    (match id % 16 with
      | 0 => Reg.layout .PRT_CFG | 1 => Reg.layout .PRT_L0P | 2 => low 2 .PRT_IDE | 3 => Reg.layout .TIL_PCFG
      | 4 => Reg.layout .PRT_LAYOVER | 5 => Reg.layout .PRT_IL_CFG | 6 => Reg.layout .PRT_IL_PEER
      | 7 => match w with
        | 0 => Reg.layout .PRT_IL_VCPOOL0 | 1 => Reg.layout .PRT_IL_VCPOOL1 | _ => Reg.layout .PRT_IL_VCPOOL2
      | _ => [], p)
  else if id = 0x2000 then (Reg.layout .TIL_ROUTE, w)
  else if id = 0x2001 then (Reg.layout .TIL_VPPB, w)
  else if id = 0x2002 then
    (match w % 4 with
      | 0 => Reg.layout .TIL_MCAST0 | 1 => Reg.layout .TIL_MCAST1 | 2 => Reg.layout .TIL_MCAST2 | _ => [], w / 4)
  else if id = 0x2003 then (Reg.layout .TIL_AUX_CFG, w)
  else if id = 0x3000 then (Reg.layout .SCH_CTL, 0)
  else if id = 0x3001 then (low 16 .SCH_HIST_CFG, 0)
  else if id = 0x3002 then
    (match w % 3 with
      | 0 => Reg.layout .SCH_CLASSMAP | 1 => Reg.layout .SCH_SLOTMAP | _ => low 11 .SCH_PORT_CFG, w / 3)
  else if id = 0x3003 then
    (match w % 3 with
      | 0 => Reg.layout .QUEUE0 | 1 => Reg.layout .QUEUE1 | _ => Reg.layout .QUEUE2, w / 3)
  else if id = 0x3004 then
    (match w % 6 with
      | 0 => Reg.layout .POL0 | 1 => Reg.layout .POL1 | 2 => Reg.layout .POL2 | 3 => Reg.layout .POL3
      | 4 => Reg.layout .POL4 | _ => [⟨F.POL.HOLD_MAX, 0, 0, 16⟩], w / 6)
  else if id = 0x4000 then (Reg.layout .DIR_CTL, 0)
  else if id = 0x4001 then (Reg.layout .DIR_RECOV_CTL, 0)
  else if id = 0x4002 then
    let k := w % 64
    if k = 0 then (Reg.layout .WIN0, w / 64)
    else if k = 1 then (Reg.layout .WIN1, w / 64)
    else if 4 ≤ k && k < 36 then
      (if k % 2 = 0 then Reg.layout .WIN_TGT else Reg.layout .WIN_TDPA, w / 64 * 16 + (k - 4) / 2)
    else ([], 0)
  else if id = 0x4003 then
    (match w % 4 with
      | 0 => Reg.layout .GRANT0 | 1 => Reg.layout .GRANT1 | 2 => Reg.layout .GRANT2 | _ => Reg.layout .GRANT3, w / 4)
  else if id = 0x7000 then (Reg.layout .BRG_CTL, 0)
  else if id = 0x7001 then
    (match w % 4 with
      | 0 => Reg.layout .MCA0 | 1 => Reg.layout .MCA1 | 2 => Reg.layout .MCA2 | _ => [], w / 4)
  else if 0x8000 ≤ id && id < 0x8100 then (Reg.layout .FLT_POLICY, id - 0x8000)
  else if 0x9000 ≤ id && id ≤ 0x9005 then
    (match id - 0x9000 with
      | 0 => Reg.layout .PWR_RAIL_CFG | 1 => Reg.layout .PWR_WAKE_EN | 2 => Reg.layout .PWR_WAKE_BAY_EN
      | 3 => Reg.layout .PWR_SAG_CTL | 4 => Reg.layout .PWR_THERM_CTL | _ => [⟨F.PWR_AVS.APPLIED, 0, 0, 1⟩], 0)
  else if 0x9100 ≤ id && id < 0x9140 then
    (if id % 2 = 0 then Reg.layout .BAY_CFG else Reg.layout .BAY_LIM, (id - 0x9100) / 2)
  else if id = 0x9140 then (Reg.layout .BAY_FEED_CFG, 0)
  else if id = 0x9141 then (Reg.layout .BAY_BUS_CFG, 0)
  else ([], 0)

/-- A staged parameter word: its parameter, word and value. -/
structure Stg where
  id : Nat
  w  : Nat
  v  : Nat
  deriving DecidableEq, Repr

def parKey (id w : Nat) : Nat := id * 2 ^ 20 + w

/-- The value a parameter word has in the registers now. -/
def Dev.paramNow (d : Dev) (id w : Nat) : Nat :=
  let (runs, i) := paramRuns id w
  d.runsWord runs i

/-- Stage words of a parameter with the values the registers hold now. -/
def Dev.stageNow (d : Dev) (id : Nat) (ws : List Nat) : List Stg := ws.map fun w => ⟨id, w, d.paramNow id w⟩

/-- Put staged words in the RAM shadow (R449). -/
def Dev.stage (d : Dev) (l : List Stg) : Dev :=
  if l = [] then d
  else
    let sh := l.foldl (fun t x => t.put none (parKey x.id x.w) (some (BitVec.ofNat 32 x.v))) d.mgt.shadow
    ({ d with mgt := { d.mgt with shadow := sh } }).set F.MGT_PARAM.STAGED

/-- The valid bank with the higher generation, and its number. -/
def MgtSt.bestBank (m : MgtSt) : Option (Nat × Bank) :=
  match m.banks.getD 0 none, m.banks.getD 1 none with
  | some a, some b => if a.gen.toNat < b.gen.toNat then some (1, b) else some (0, a)
  | some a, none => some (0, a)
  | none, some b => some (1, b)
  | none, none => none

/-- A register word at reset. -/
def Reg.resetWord (r : Reg) : Nat := r.layout.foldl (fun a x => a + x.fld.rst / 2 ^ x.src % 2 ^ x.w * 2 ^ x.lo) 0

/-- A PRT_CFG word with another WIDTH and MGMT_FN. -/
def cfgWith (old width fn : Nat) : Nat :=
  old - old / 16 % 8 * 16 - old / 2 ^ 19 % 2 * 2 ^ 19 + width * 16 + fn * 2 ^ 19

/-- R87: WIDTH and MGMT_FN of port `p` go into the persistent parameters at once, whatever PERSIST says: into the valid bank, and
into what a commit is writing or the shadow will write over them. Without a record, the port's other fields keep their reset values
there (R448). DEDUCED, unsafe: log entry 13. -/
def MgtSt.storeWidth (m : MgtSt) (p width fn : Nat) : MgtSt :=
  let k := parKey (0x1000 + p * 16) 0
  let put (t : Tab (Option (BitVec 32))) : Tab (Option (BitVec 32)) :=
    t.put none k (some (BitVec.ofNat 32 (cfgWith (((t.get none k).map (·.toNat)).getD (Reg.resetWord .PRT_CFG)) width fn)))
  { m with
    banks := match m.bestBank with
      | some (n, b) => m.banks.set n (some { b with recs := put b.recs })
      | none => m.banks.set 0 (some { gen := 1, recs := put [] })
    commit := m.commit.map fun b => { b with recs := put b.recs }
    shadow := if (m.shadow.get none k).isSome then put m.shadow else m.shadow }

/-- The words of a parameter in a table of records, by word number. -/
def paramWords (t : Tab (Option (BitVec 32))) (id : Nat) : List (Nat × BitVec 32) :=
  t.filterMap fun x => if x.1 / 2 ^ 20 = id then x.2.map fun v => (x.1 % 2 ^ 20, v) else none

/-- Apply the records of a bank for which `sel` holds to the registers (R448). -/
def Dev.applyBank (d : Dev) (recs : Tab (Option (BitVec 32))) (sel : Nat → Bool) : Dev :=
  recs.foldl (fun d x =>
    let id := x.1 / 2 ^ 20
    match x.2 with
    | some v =>
      if sel id then
        let (runs, i) := paramRuns id (x.1 % 2 ^ 20)
        d.putRuns runs i v.toNat
      else d
    | none => d) d

end Sys2Proof.Machine
end

