-- ==== Sys2Proof/Machine/Foern.lean ====
section
/-!
DEFINITION. The Foern interface: bytes of a payload, principals (R442), the checks of R445, answers, replay (R441),
background operations (R447) and staging (R449). Every command's meaning is one call of `Dev.foern` with the command's
own checks and effect.
-/

namespace Sys2Proof

/-- The origin ID of R440, with the number of a switch mailbox in place of its port. -/
def Transport.origin : Transport → BitVec 16
  | .switchMbox m => BitVec.ofNat 16 (0x1000 + m.val)
  | .hostMbox p => BitVec.ofNat 16 (0x2000 + p.val)
  | .tenantMbox i => BitVec.ofNat 16 (0x3000 + i.val)
  | .bmcMctp e => BitVec.ofNat 16 (0x4000 + e.toNat)
  | .vdmMctp e => BitVec.ofNat 16 (0x5000 + e.toNat)

/-- An MCTP transport. -/
def Transport.mctp : Transport → Bool
  | .bmcMctp _ | .vdmMctp _ => true
  | _ => false

/-- The largest message of a transport (R436). -/
def Transport.largest : Transport → Nat
  | .hostMbox _ => 2048 | .tenantMbox _ => 512 | _ => 4096

/-- The return code of R444. -/
def Detail.ret : Detail → RetCode
  | .ok => .success
  | .resourceConflict | .busyBackground => .busy
  | .poolExhausted | .wrongMode | .stateMismatch | .invalidParam => .invalidInput
  | .notQuiesced => .retryRequired
  | .privilege | .factoryOnly => .unsupported
  | .timeout => .aborted

end Sys2Proof

namespace Sys2Proof.Machine

/-! ### Origins and principals -/

/-- The origin ID of R440: the port of a switch mailbox comes from MGT_MBX_SW. -/
def Dev.origin (d : Dev) (v : Transport) : BitVec 16 :=
  match v with
  | .switchMbox m =>
    let p := match m.val with
      | 0 => d.get F.MGT_MBX_SW.PORT_0 | 1 => d.get F.MGT_MBX_SW.PORT_1
      | 2 => d.get F.MGT_MBX_SW.PORT_2 | _ => d.get F.MGT_MBX_SW.PORT_3
    BitVec.ofNat 16 (0x1000 + p)
  | v => v.origin

/-- The principal of an origin (R436, R442). -/
def Dev.principal (d : Dev) (v : Transport) : Principal :=
  if d.mode = .factory && d.mgt.factory = some v then .factory
  else match v with
  | .switchMbox _ | .vdmMctp _ => .fm
  | .hostMbox p => .host p
  | .tenantMbox i => .tenant i
  | .bmcMctp _ => if d.bit F.MGT_XPORT.BMC_MONITOR then .monitor else .fm

/-- Whether MGT_XPORT serves a transport (R465). -/
def Dev.served (d : Dev) : Transport → Bool
  | .switchMbox _ => true
  | .hostMbox _ => d.bit F.MGT_XPORT.HOST_MBOX_EN
  | .tenantMbox _ => d.bit F.MGT_XPORT.TENANT_MBOX_EN
  | .bmcMctp _ => d.bit F.MGT_XPORT.BMC_EN
  | .vdmMctp _ => d.bit F.MGT_XPORT.VDM_EN

/-- Who may issue a command: only the FM and Factory. -/
def fmOnly : Principal → Bool
  | .fm | .factory => true
  | _ => false

/-- The FM, Factory, and a monitor origin. -/
def fmOrMonitor : Principal → Bool
  | .fm | .factory | .monitor => true
  | _ => false

/-- Bring-up, Service, Degraded and Quiesce. -/
def liveModes : Mode → Bool
  | .bringUp | .service | .degraded | .quiesce => true
  | _ => false

/-- Those and Factory Test. -/
def dieModes : Mode → Bool
  | .standby => false
  | _ => true

/-- The modes in which host and tenant mailboxes are served (R436). -/
def mboxModes : Mode → Bool
  | .service | .degraded | .quiesce => true
  | _ => false

/-! ### Answers -/

/-- What a command's own part answers: success with a response payload and the values PERSIST stages; a start in the
background of an operation on an item; a held SET_MODE; an answer that a later event gives; or a failure, with the payload
of R75 where one is given, `errWith` being a failure that leaves a trace. -/
inductive Ans where
  | ok (pay : List (BitVec 8)) (d : Dev) (stage : List Stg)
  | bg (item : Nat) (d : Dev) (stage : List Stg)
  | held (d : Dev)
  | later (d : Dev)
  | err (x : Detail) (pay : List (BitVec 8))
  | errWith (x : Detail) (d : Dev) (pay : List (BitVec 8) := [])
  deriving DecidableEq, Repr

/-- The failure `x`. -/
def Ans.fail (x : Detail) : Ans := .err x []

/-- Success with no payload. -/
def Ans.done (d : Dev) (stage : List Stg := []) : Ans := .ok [] d stage

/-- FK_MBOX_VIOL with a cause (R462). -/
def Dev.mboxViol (d : Dev) (v : Transport) (cause : Nat) : Dev :=
  (d.set F.MGT_ERR.MBOX_VIOL).raise .mboxViol (uDev 0x03) 0 ((d.origin v).toNat + cause * 65536)

/-- Clear a mailbox's doorbell, or take the request an MCTP transport has pending (R615). -/
def Dev.clearBell (d : Dev) (v : Transport) : Dev :=
  match v with
  | .switchMbox m =>
    (match m.val with
      | 0 => d.put F.MGT_MBX_SW.BELL_0 0 0 | 1 => d.put F.MGT_MBX_SW.BELL_1 0 0
      | 2 => d.put F.MGT_MBX_SW.BELL_2 0 0 | _ => d.put F.MGT_MBX_SW.BELL_3 0 0)
  | .hostMbox p => d.clearHostBell p.val
  | .tenantMbox i =>
    let b := d.get F.MGT_MBX_TEN.BELL (i.val / 32)
    d.put F.MGT_MBX_TEN.BELL (i.val / 32) (if b.testBit (i.val % 32) then b - 2 ^ (i.val % 32) else b)
  | v =>
    match d.mgt.inbox.find? fun x => decide (x.1 = v) with
    | some x => { d with mgt := { d.mgt with inbox := d.mgt.inbox.erase x } }
    | none => d

/-- Ring a mailbox's doorbell (R615). -/
def Dev.setBell (d : Dev) (v : Transport) : Dev :=
  match v with
  | .switchMbox m =>
    (match m.val with
      | 0 => d.set F.MGT_MBX_SW.BELL_0 | 1 => d.set F.MGT_MBX_SW.BELL_1
      | 2 => d.set F.MGT_MBX_SW.BELL_2 | _ => d.set F.MGT_MBX_SW.BELL_3)
  | .hostMbox p => d.put F.MGT_MBX_HOST.BELL 0 (d.get F.MGT_MBX_HOST.BELL ||| 2 ^ p.val)
  | .tenantMbox i => d.put F.MGT_MBX_TEN.BELL (i.val / 32) (d.get F.MGT_MBX_TEN.BELL (i.val / 32) ||| 2 ^ (i.val % 32))
  | _ => d

/-- Issue a response; for an MCTP origin it becomes the last one (R441): at most 16 origins are kept, the oldest
dropped. -/
def Dev.respond (d : Dev) (r : Rsp) : Dev :=
  let last := if r.via.mctp then (r :: d.mgt.last.filter fun x => decide (x.via ≠ r.via)).take 16 else d.mgt.last
  { d with mgt := { d.mgt with rsp := d.mgt.rsp ++ [r], last := last } }

/-- The response to a header. -/
def Hdr.rsp (h : Hdr) (v : Transport) (x : Detail) (pay : List (BitVec 8)) (bg : Bool := false) : Rsp :=
  { via := v, opcode := h.opcode, ret := if bg then .backgroundStarted else x.ret, detail := x, persist := h.persist,
    background := bg, replayed := false, sel := h.sel, seq := h.seq, pay := pay }

/-! ### Background operations (R447) -/

/-- Keep a completed result, dropping the oldest when a seventeenth completes. -/
def Dev.keepResult (d : Dev) (r : BgRes) : Dev :=
  let l := d.mgt.results ++ [r]
  { d with mgt := { d.mgt with results := if l.length > 16 then l.tail else l } }

/-- The running operation of an opcode on an item. -/
def Dev.bgFind (d : Dev) (opcode item : Nat) : Option BgOp :=
  d.mgt.running.find? fun o => o.hdr.opcode.toNat == opcode && o.item == item

/-- Complete the running operation of an opcode on an item with a detail and a result. -/
def Dev.bgDone (d : Dev) (opcode item : Nat) (x : Detail) (result : List (BitVec 8)) : Dev :=
  match d.bgFind opcode item with
  | some o =>
    ({ d with mgt := { d.mgt with running := d.mgt.running.erase o } }).keepResult
      { op := o, detail := x, result := result, aborted := false }
  | none => d

/-- End the running operation of an opcode on an item without completing it: its kept result reads aborted. -/
def Dev.bgAbort (d : Dev) (opcode item : Nat) : Dev :=
  match d.bgFind opcode item with
  | some o =>
    ({ d with mgt := { d.mgt with running := d.mgt.running.erase o } }).keepResult
      { op := o, detail := .timeout, result := [], aborted := true }
  | none => d

/-- Running operations and kept results are lost (R447). -/
def Dev.bgLost (d : Dev) : Dev := { d with mgt := { d.mgt with running := [], results := [] } }

/-! ### The checks of R445 -/

/-- The header of a request of at least 8 bytes. -/
def hdrOf (opcode : Nat) (raw : List (BitVec 8)) : Hdr :=
  { opcode := BitVec.ofNat 16 opcode, persist := (le raw 1 1).testBit 0, sel := BitVec.ofNat 16 (le raw 2 2),
    seq := BitVec.ofNat 32 (le raw 4 4) }

/-- Whether the firmware answers requests of a transport: it is ready, or the ROM in recovery serves the BMC (R430). -/
def Dev.answers (d : Dev) (v : Transport) : Bool :=
  decide (d.get F.PWR_STATUS.STATE = 3) &&
    (d.get F.MGT_FW_STATUS.STATE == 2 ||
      (d.get F.MGT_FW_STATUS.STATE == 4 && match v with | .bmcMctp _ => true | _ => false))

/-- What a command allows: its opcode, whether it is factory-only, who may issue it, the modes it is accepted in, and
whether ROM recovery answers it. -/
structure Cmd where
  opcode  : Nat
  factory : Bool := false
  may     : Principal → List (BitVec 8) → BitVec 16 → Bool
  modes   : Mode → Bool
  rom     : Bool := false

/-- The commands whose selector is 0xFFFF. DEDUCED, unsafe: log entry 46. -/
def noItem (opcode : Nat) : Bool :=
  let g := opcode / 256
  g == 0xC0 || g == 0xCA || g == 0xCB || g == 0xCC || g == 0xCF ||
    [0xC200, 0xC204, 0xC304, 0xC307, 0xC609, 0xC700, 0xC701, 0xC703, 0xC800, 0xC801, 0xC803, 0xC806, 0xC900, 0xC901, 0xC902,
      0xC983].contains opcode

/-- The device once a request is taken: its doorbell is clear and its origin shows (R464, R615). -/
def Dev.taken (d : Dev) (v : Transport) : Dev := (d.clearBell v).put F.MGT_CMD_STATUS.ORIGIN 0 (d.origin v).toNat

/-- Host and tenant mailboxes are served only in some modes (R436). -/
def boxMode (v : Transport) (m : Mode) : Bool :=
  match v with
  | .hostMbox _ | .tenantMbox _ => mboxModes m
  | _ => true

/-- Whether a request may start one more background operation after `d` (R447). -/
def Dev.bgRoom (d : Dev) (v : Transport) : Bool :=
  decide (d.mgt.running.length < 8) && !d.mgt.running.any fun o => decide (o.via = v)

/-- PERSIST stages a command's values (R449). -/
def Dev.persisted (d : Dev) (h : Hdr) (st : List Stg) : Dev := if h.persist then d.stage st else d

/-- Start a background operation of a request. -/
def Dev.begin (d : Dev) (o : BgOp) : Dev := { d with mgt := { d.mgt with running := d.mgt.running ++ [o] } }

/-- Answer an accepted request by what its own part found; `d0` is the device that took it. -/
def Dev.conclude (d0 : Dev) (v : Transport) (h : Hdr) : Ans → Dev
  | .ok out d1 st => (d1.persisted h st).respond (h.rsp v .ok out)
  | .bg item d1 st =>
    if d1.bgRoom v then ((d1.persisted h st).begin { via := v, hdr := h, item := item }).respond (h.rsp v .ok [] true)
    else d0.respond (h.rsp v .busyBackground [])
  | .held d1 =>
    -- its doorbell stays set (R615)
    { d1.setBell v with mgt := { d1.mgt with held := some { via := v, hdr := h } } }
  | .later d1 => d1
  | .errWith x d1 out => d1.respond (h.rsp v x out)
  | .err x out => d0.respond (h.rsp v x out)

/-- The kept response that a request repeats (R441). -/
def Dev.repeated (d : Dev) (v : Transport) (h : Hdr) : Option Rsp :=
  d.mgt.last.find? fun x => decide (x.via = v) && decide (x.opcode = h.opcode) && decide (x.seq = h.seq)

/-- A request of an MCTP origin repeats one that is still worked on: a held SET_MODE, or one that a later event answers
(R441). -/
def Dev.working (d : Dev) (v : Transport) (h : Hdr) : Bool :=
  let same (w : Transport) (g : Hdr) : Bool := decide (w = v) && decide (g.opcode = h.opcode) && decide (g.seq = h.seq)
  v.mctp && ((d.mgt.held.any fun x => same x.via x.hdr) || d.ins.resets.any (fun x => same x.2.1 x.2.2) ||
    d.ins.saves.any (fun x => match x.2 with | some sv => sv.wait.any (fun w => same w.1 w.2.1) | none => false) ||
    d.bus.hung.any fun x => x.2.any fun w => same w.2.1 w.2.2)

/-- Checks 1 to 5 of R445, in order: the first that fails. -/
def Dev.firstFailed (d : Dev) (r : FoernReq) (c : Cmd) (h : Hdr) : Option Detail :=
  let p := d.principal r.via
  if le r.raw 0 1 ≠ 1 then some .invalidParam
  else if c.factory && decide (p ≠ .factory) then some .factoryOnly
  else if !c.factory && !c.may p (r.raw.drop 8) h.sel then some .privilege
  else if d.get F.MGT_FW_STATUS.STATE = 4 && !c.rom then some .wrongMode
  else if !c.modes d.mode || !boxMode r.via d.mode then some .wrongMode
  else if decide (le r.raw 1 1 > 1) || (noItem c.opcode && decide (h.sel ≠ 0xFFFF)) then some .invalidParam
  else none

/-- Execute a Foern request (R441, R445, R447, R449, R462): the first failed check is answered, and a failed command
changes nothing. `body` makes checks 6 and 7 and the effect. A request that the firmware does not serve is left
waiting. DEDUCED, unsafe: log entry 46. -/
def Dev.foern (d : Dev) (r : FoernReq) (c : Cmd) (body : Hdr → List (BitVec 8) → Dev → Ans) : Dev :=
  if !d.answers r.via then d
  else
    let h := hdrOf c.opcode r.raw
    let d0 := d.taken r.via
    if !d.served r.via then
      -- R462: MCTP requests are dropped, mailbox commands answered as Unsupported with PRIVILEGE
      if r.via.mctp then d0.mboxViol r.via 5 else (d0.respond (h.rsp r.via .privilege [])).mboxViol r.via 5
    else if r.raw.length < 8 || decide (r.via.largest < r.raw.length) then
      (d0.respond { h.rsp r.via .invalidParam [] with ret := .invalidPayloadLength }).mboxViol r.via 1
    else if d.working r.via h then d0
    else
      match d.repeated r.via h with
      | some x =>
        -- R441: a repeat is answered with the stored response and is not executed
        { d0 with mgt := { d0.mgt with rsp := d0.mgt.rsp ++ [{ x with replayed := true }] } }
      | none =>
        match d.firstFailed r c h with
        | some x => d0.respond (h.rsp r.via x [])
        | none => d0.conclude r.via h (body h (r.raw.drop 8) d0)

end Sys2Proof.Machine
end

