-- ==== Sys2Proof/Machine/Bay.lean ====
section
/-!
DEFINITION. The commands of the bay channels (chapter 16). `isns` is a sense voltage in 0.1 mV and `vout` an output
voltage in 20 mV, as Butre measures them at the event.
-/

namespace Sys2Proof.Machine

/-! ### Presence and side-band (R562 to R565) -/

/-- PRESENCE_CONFIRM (R562). -/
def execPresenceConfirm (b : Bay) (s : State) : Host.Outcome State Fault Refusal :=
  s.upd (let d := s.dev
    if d.bit F.BAY_STATUS.PRSNT b.val then d
    else
      let d := (d.set F.BAY_STATUS.PRSNT b.val).put F.BAY_PRSNT_ALL.PRSNT 0 (d.get F.BAY_PRSNT_ALL.PRSNT ||| 2 ^ b.val)
      let d := (d.bayEvent b.val .bayPresence 0).count (cBay b.val 7)
      let d := if d.bit F.BAY_CFG.EN b.val && d.bit F.BAY_CFG.AUTO_ON b.val then d.set F.BAY_CTL.ON_REQ b.val else d
      (d.bayWait b.val).wakeBay F.PWR_WAKE_EN.BAY_PRSNT b.val)

/-- PRESENCE_LOSS (R565). -/
def execPresenceLoss (b : Bay) (s : State) : Host.Outcome State Fault Refusal :=
  s.upd (let d := s.dev
    if !d.bit F.BAY_STATUS.PRSNT b.val then d
    else
      let d := (d.put F.BAY_STATUS.PRSNT b.val 0).put F.BAY_PRSNT_ALL.PRSNT 0 (d.get F.BAY_PRSNT_ALL.PRSNT - 2 ^ b.val)
      let d := (d.bayEvent b.val .bayPresence 1).count (cBay b.val 7)
      let d := if d.baySt b.val = 9 then d else (d.bayOff b.val false).put F.BAY_CTL.ON_REQ b.val 0
      let d := match d.bayPort b.val with
        | some p => if d.die then d.linkDown p 4 else d
        | none => d
      d.wakeBay F.PWR_WAKE_EN.BAY_PRSNT b.val)

/-- `low`: the filtered level of ALERT# is low. -/
def execAlertChange (b : Bay) (low : Bool) (s : State) : Host.Outcome State Fault Refusal :=
  s.upd (let d := s.dev
    if d.bit F.BAY_STATUS.ALERT b.val == low then d
    else
      let all := d.get F.BAY_ALERT_ALL.ALERT
      let d := (d.put F.BAY_STATUS.ALERT b.val (if low then 1 else 0)).put F.BAY_ALERT_ALL.ALERT 0
        (if low then all ||| 2 ^ b.val else all - 2 ^ b.val)
      let d := d.bayEvent b.val .bayAlert (if low then 0 else 1)
      if low then (d.count (cBay b.val 8)).wakeBay F.PWR_WAKE_EN.BAY_ALERT b.val else d)

/-! ### Power-on (R551 to R554) -/

/-- The lowest waiting bay whose feed is good and has a free slot takes it. -/
def execPrechargeSlotGrant (s : State) : Host.Outcome State Fault Refusal :=
  s.upd (let d := s.dev
    match (List.range 32).find? fun b => d.baySt b == 1 && (match d.pickFeed b with
        | some f => d.slotFree f
        | none => false) with
    | some b => d.bayStart b (d.bayRt b).retry
    | none => d)

/-- PRECHARGE_DONE (R551). -/
def execPrechargeDone (b : Bay) (s : State) : Host.Outcome State Fault Refusal :=
  s.upd (if s.dev.baySt b.val = 2 then s.dev.setBaySt b.val 3 else s.dev)

/-- PRECHARGE_TIMEOUT (R551). -/
def execPrechargeTimeout (b : Bay) (isns vout : Fin 1024) (s : State) : Host.Outcome State Fault Refusal :=
  s.upd (if s.dev.baySt b.val = 2 then
      s.dev.bayTrip b.val .bayPrechargeFail F.BAY_ERR.PRECHARGE_FAIL (some 3) isns.val vout.val
    else s.dev)

/-- The main gate is being driven: RAMP, or SWITCH onto the new feed. -/
def Dev.ramping (d : Dev) (b : Nat) : Bool := d.baySt b == 3 || (d.baySt b == 6 && (d.bayRt b).direct)

/-- GATE_RAMP_TIMEOUT (R553). -/
def execGateRampTimeout (b : Bay) (isns vout : Fin 1024) (s : State) : Host.Outcome State Fault Refusal :=
  s.upd (if s.dev.ramping b.val then
      s.dev.bayTrip b.val .bayGateStuck F.BAY_ERR.GATE_STUCK none isns.val vout.val
    else s.dev)

/-- GATE_FULL_ON (R553). -/
def execGateFullOn (b : Bay) (s : State) : Host.Outcome State Fault Refusal :=
  s.upd (let d := s.dev
    if !d.ramping b.val then d
    else if d.baySt b.val = 3 then
      (d.setBaySt b.val 4).setBayRt b.val { d.bayRt b.val with qual := !d.bit F.BAY_STATUS.FLT_RUN b.val }
    else (((d.setBaySt b.val 5).setBayRt b.val { BayRt.reset with pulse := (d.bayRt b.val).pulse }).count
      (cBay b.val 6)).bayFeedCheck b.val)

/-- R69: the interval must not have been broken. -/
def execPgqComplete (b : Bay) (s : State) : Host.Outcome State Fault Refusal :=
  s.upd (let d := s.dev
    if d.baySt b.val = 4 && (d.bayRt b.val).qual && !d.bit F.BAY_STATUS.FLT_RUN b.val then
      ((((d.set F.BAY_STATUS.PG b.val).setBaySt b.val 5).setBayRt b.val BayRt.reset).count (cBay b.val 0)).bayFeedCheck b.val
    else d)

/-- PERST_RELEASE (R554). -/
def execPerstRelease (b : Bay) (s : State) : Host.Outcome State Fault Refusal :=
  s.upd (let d := s.dev
    if d.bit F.BAY_STATUS.PG b.val && (d.baySt b.val == 5 || d.baySt b.val == 6) && !(d.bayRt b.val).pulse then
      d.put F.BAY_STATUS.PERST b.val 0
    else d)

/-! ### Limits and trips (R555 to R557) -/

/-- The fault timer and the fast trip are armed. -/
def Dev.armed (d : Dev) (b : Nat) : Bool := d.ramping b || d.baySt b == 4 || d.baySt b == 5

/-- SENSE_LIMIT_CROSS (R555). -/
def execSenseLimitCross (b : Bay) (above : Bool) (s : State) : Host.Outcome State Fault Refusal :=
  s.upd (let d := s.dev
    if !d.armed b.val then d
    else
      let d := d.put F.BAY_STATUS.FLT_RUN b.val (if above then 1 else 0)
      if d.baySt b.val = 4 then d.setBayRt b.val { d.bayRt b.val with qual := !above } else d)

/-- FAULT_TIMER_EXPIRY (R555). -/
def execFaultTimerExpiry (b : Bay) (isns vout : Fin 1024) (s : State) : Host.Outcome State Fault Refusal :=
  s.upd (let d := s.dev
    if d.armed b.val && d.bit F.BAY_STATUS.FLT_RUN b.val then
      d.bayTrip b.val .bayOvercurrent F.BAY_ERR.OVERCURRENT (some 1) isns.val vout.val
    else d)

/-- FAST_TRIP (R555). -/
def execFastTrip (b : Bay) (isns vout : Fin 1024) (s : State) : Host.Outcome State Fault Refusal :=
  s.upd (let d := s.dev
    if d.armed b.val then d.bayTrip b.val .bayShort F.BAY_ERR.SHORT (some 2) isns.val vout.val else d)

/-- BAY_UNDERVOLTAGE (R555). -/
def execBayUndervoltage (b : Bay) (isns vout : Fin 1024) (s : State) : Host.Outcome State Fault Refusal :=
  s.upd (let d := s.dev
    if (d.baySt b.val == 4 || d.baySt b.val == 5) && d.feedGood (d.bayFeed b.val) && !d.bit F.BAY_STATUS.FLT_RUN b.val then
      d.bayTrip b.val .bayUv F.BAY_ERR.UV (some 4) isns.val vout.val
    else d)

/-- A C32-compatibility window is open for a record of the bay (R557). -/
def Dev.bayWindow (d : Dev) (b : Nat) : Bool :=
  d.flt.log.any fun x => match x.2 with
    | some r => r.window && r.c.dom = .bay && r.c.idx == b
    | none => false

/-- RETRY_TIMER_EXPIRY (R557). -/
def execRetryTimerExpiry (b : Bay) (s : State) : Host.Outcome State Fault Refusal :=
  s.upd (let d := s.dev
    if d.baySt b.val = 7 && !d.bayWindow b.val then
      ((d.addSat F.BAY_STATUS.RETRIES b.val 1).count (cBay b.val 5)).bayStart b.val true
    else d)

/-- ON_STABLE_RESET (R557). -/
def execOnStableReset (b : Bay) (s : State) : Host.Outcome State Fault Refusal :=
  s.upd (if s.dev.baySt b.val = 5 then s.dev.put F.BAY_STATUS.RETRIES b.val 0 else s.dev)

/-! ### Feeds (R558 to R561) -/

def Dev.putFeedV (d : Dev) (f : Bool) (v : Nat) : Dev :=
  d.put (if f then F.BAY_FEED_STATUS.VBAY_B else F.BAY_FEED_STATUS.VBAY_A) 0 v

/-- Feed `b` false: A; true: B; `v` is its voltage in 20 mV. -/
def execFeedGood (feedB : Bool) (v : Fin 1024) (s : State) : Host.Outcome State Fault Refusal :=
  s.upd (let d := s.dev.putFeedV feedB v.val
    if !d.feedFitted feedB || d.feedGood feedB then d
    else
      let d := d.set (if feedB then F.BAY_FEED_STATUS.B_GOOD else F.BAY_FEED_STATUS.A_GOOD)
      (List.range 32).foldl Dev.bayFeedCheck d)

/-- FEED_LOSS (R558). DEDUCED, unsafe: log entry 41. -/
def execFeedLoss (feedB : Bool) (v : Fin 1024) (s : State) : Host.Outcome State Fault Refusal :=
  s.upd (let d := s.dev.putFeedV feedB v.val
    if d.feedGood feedB then d.feedLost feedB true else d)

/-- R561 step 3. `above`: VOUT is at or above 80 % of the new feed. -/
def Dev.bbmEnd (d : Dev) (b : Nat) (above : Bool) : Dev :=
  let r := d.bayRt b
  let newFeed := match r.toFeed with
    | some f => if d.feedGood f then some f else d.pickFeed b
    | none => d.pickFeed b
  match newFeed with
  | none => ((d.gatesOff b).setBaySt b 1).setBayRt b BayRt.reset
  | some f =>
    let d := d.put F.BAY_STATUS.FEED_ACT b (if f then 1 else 0)
    if above && !r.ramp then d.setBayRt b { r with toFeed := some f, direct := true }
    else if above then ((d.setBaySt b 3).setBayRt b { BayRt.reset with retry := r.retry }).count (cBay b 6)
    else
      let d := (d.dropPg b).count (cBay b 6)
      if d.slotFree f then d.precharge b f r.retry else (d.setBaySt b 1).setBayRt b { BayRt.reset with retry := r.retry }

/-- BBM_COMPLETE (R561). -/
def execBbmComplete (b : Bay) (above : Bool) (s : State) : Host.Outcome State Fault Refusal :=
  s.upd (if s.dev.baySt b.val = 6 && !(s.dev.bayRt b.val).direct then s.dev.bbmEnd b.val above else s.dev)

/-! ### Power-off (R567, R580) -/

/-- POWER_OFF_GATES (R567). -/
def execPowerOffGates (b : Bay) (s : State) : Host.Outcome State Fault Refusal :=
  s.upd (let d := s.dev
    if d.baySt b.val = 0xA then (d.gatesOff b.val).setBayRt b.val { d.bayRt b.val with gatesOff := true } else d)

/-- POWER_OFF_DONE (R567). -/
def execPowerOffDone (b : Bay) (s : State) : Host.Outcome State Fault Refusal :=
  s.upd (let d := s.dev
    if d.baySt b.val = 0xA && (d.bayRt b.val).gatesOff then (d.bayOff b.val (d.bayRt b.val).cycle).bayWait b.val else d)

/-- BAY_CYCLE_RESTART (R580). -/
def execBayCycleRestart (b : Bay) (s : State) : Host.Outcome State Fault Refusal :=
  s.upd (let d := s.dev
    if (d.bayRt b.val).cycle && (d.baySt b.val == 0 || d.baySt b.val == 8) then
      let d := d.setBayRt b.val { d.bayRt b.val with cycle := false }
      if d.bayMayOn b.val then d.bayOn b.val else d
    else d)

/-- PERST_PULSE_END (R580). -/
def execPerstPulseEnd (b : Bay) (s : State) : Host.Outcome State Fault Refusal :=
  s.upd (let d := s.dev
    if (d.bayRt b.val).pulse then
      let d := d.setBayRt b.val { d.bayRt b.val with pulse := false }
      if d.bit F.BAY_STATUS.PG b.val && (d.baySt b.val == 5 || d.baySt b.val == 6) then d.put F.BAY_STATUS.PERST b.val 0 else d
    else d)

/-! ### Commands (R579, R580) -/

def bayCmd (opcode : Nat) : Cmd := { opcode := opcode, may := fun p _ _ => fmOnly p, modes := liveModes }

/-- The images of BAY_CFG and BAY_LIM. -/
def bayCfgBad (d : Dev) (v : Nat) : Bool :=
  decide (v ≥ 2 ^ 21) || (v.testBit 11 && !d.isTarget (v / 32 % 64))

def bayLimBad (v : Nat) : Bool :=
  let il := v % 64; let fl := v / 64 % 64; let pr := v / 4096 % 256; let gr := v / 2 ^ 20 % 16
  decide (v ≥ 2 ^ 24) || !(decide (10 ≤ il) && decide (il ≤ 50) && decide (1 ≤ fl) && decide (fl ≤ 40) && decide (1 ≤ pr) &&
    decide (pr ≤ 200) && decide (1 ≤ gr))

/-- BAY_CONFIG (R580). -/
def execBayConfig (r : FoernReq) (s : State) : Host.Outcome State Fault Refusal :=
  s.upd (s.dev.onDie fun d => d.foern r (bayCmd 0xC980) fun h pay d =>
    let b := h.sel.toNat
    let m := le pay 0 4; let c := le pay 4 4; let l := le pay 8 4
    if decide (pay.length ≠ 12) || decide (b ≥ 32) || decide (m ≥ 4) then .fail .invalidParam
    else if (m.testBit 0 && bayCfgBad d c) || (m.testBit 1 && bayLimBad l) then .fail .invalidParam
    else if m.testBit 0 && !c.testBit 0 && d.bit F.BAY_CFG.EN b && d.baySt b != 0 then .fail .stateMismatch
    else
      let d := if m.testBit 0 then ((d.putWord .BAY_CFG b c).bayFeedCheck b).bayWait b else d
      let d := if m.testBit 1 then d.putWord .BAY_LIM b l else d
      .done d ((if m.testBit 0 then d.stageNow (0x9100 + 2 * b) [0] else []) ++
        (if m.testBit 1 then d.stageNow (0x9101 + 2 * b) [0] else [])))

/-- BAY_POWER (R580). DEDUCED, unsafe: log entry 41. -/
def execBayPower (r : FoernReq) (s : State) : Host.Outcome State Fault Refusal :=
  s.upd (s.dev.onDie fun d => d.foern r (bayCmd 0xC981) fun h pay d =>
    let b := h.sel.toNat
    let a := le pay 0 1; let f := le pay 1 1; let led := le pay 2 1
    if decide (pay.length ≠ 4) || decide (b ≥ 32) || decide (a > 4) || decide (f ≥ 8) || le pay 3 1 != 0 ||
        (f.testBit 2 && decide (led > 4)) then .fail .invalidParam
    else if a = 1 && !d.bayMayOn b then .fail .stateMismatch
    else if a = 4 && d.baySt b != 5 then .fail .stateMismatch
    else
      let d := match a with
        | 1 => d.bayOn b
        | 2 => d.bayDown b false
        | 3 => d.bayDown b true
        | 4 => (d.put F.BAY_STATUS.PERST b 1).setBayRt b { d.bayRt b with pulse := true }
        | _ => d
      let d := if f.testBit 0 then d.put F.BAY_CTL.PWRDIS b (f / 2 % 2) else d
      let d := if f.testBit 2 then d.put F.BAY_CTL.LED b led else d
      .ok (bytes 4 (d.word .BAY_STATUS b)) d [])

/-- BAY_STATUS (R579). -/
def execBayStatus (r : FoernReq) (s : State) : Host.Outcome State Fault Refusal :=
  s.upd (s.dev.onDie fun d => d.foern r
    { opcode := 0xC982, modes := dieModes, may := fun p pay _ => match p with
        | .fm | .factory => true
        | .monitor => le pay 0 4 == 0
        | _ => false } fun h pay d =>
    let b := h.sel.toNat
    let m := le pay 0 4
    if decide (pay.length ≠ 4) || decide (b ≥ 32) || decide (m ≥ 128) then .fail .invalidParam
    else
      let out := [Reg.BAY_CFG, .BAY_LIM, .BAY_CTL, .BAY_STATUS, .BAY_MEAS, .BAY_ERR].flatMap fun x => bytes 4 (d.word x b)
      .ok out (d.putWord .BAY_ERR b (d.word .BAY_ERR b &&& (127 - m))) [])

/-- BAY_FEED_SET (R579). -/
def execBayFeedSet (r : FoernReq) (s : State) : Host.Outcome State Fault Refusal :=
  s.upd (s.dev.onDie fun d => d.foern r (bayCmd 0xC983) fun _ pay d =>
    let m := le pay 0 4; let f := le pay 4 4; let c := le pay 8 4
    if decide (pay.length ≠ 12) || decide (m ≥ 4) then .fail .invalidParam
    else if m.testBit 0 && (decide (f ≥ 64) || decide (f % 16 = 0) || decide (f % 16 > 8)) then .fail .invalidParam
    else if m.testBit 1 && (decide (c ≥ 2 ^ 11) || decide (c % 4 = 3)) then .fail .invalidParam
    else
      let d := if m.testBit 0 then
          let d := d.putWord .BAY_FEED_CFG 0 f
          let d := if !d.feedFitted false && d.feedGood false then d.feedLost false false else d
          if !d.feedFitted true && d.feedGood true then d.feedLost true false else d
        else d
      let d := if m.testBit 1 then d.putWord .BAY_BUS_CFG 0 c else d
      .ok ([Reg.BAY_FEED_STATUS, .BAY_PRSNT_ALL, .BAY_ALERT_ALL].flatMap fun x => bytes 4 (d.word x)) d
        ((if m.testBit 0 then d.stageNow 0x9140 [0] else []) ++ (if m.testBit 1 then d.stageNow 0x9141 [0] else [])))

/-- Write the control byte of bus `m`'s switch, if it has one (R572). -/
def Dev.busSwitch (d : Dev) (m v : Nat) : Dev :=
  if d.bit F.BAY_BUS_CFG.SW_EN then { d with bus := { d.bus with switch := d.bus.switch.put 0 m v } } else d

/-- `res` is how the transfer on the bus ends. A transfer waits while its bus hangs in another. Bytes that the device does
not drive read 0xFF. DEDUCED, unsafe: log entry 41. -/
def execBayBusXfer (r : FoernReq) (res : BusResult) (s : State) : Host.Outcome State Fault Refusal :=
  s.upd (s.dev.onDie fun d =>
    let m := (hdrOf 0xC984 r.raw).sel.toNat / 8
    if (d.bus.hung.get none m).isSome then d
    else d.foern r (bayCmd 0xC984) fun h pay d =>
      let b := h.sel.toNat
      let n := le pay 2 1; let k := le pay 3 1
      if decide (b ≥ 32) || decide (le pay 0 1 ≥ 128) || decide (le pay 1 1 ≥ 2) || decide (pay.length ≠ 4 + n) ||
          (decide (pay.length < 4)) || (n == 0 && k == 0) then .fail .invalidParam
      else if !d.bit F.BAY_STATUS.PRSNT b || !d.bit F.BAY_STATUS.PG b then .fail .stateMismatch
      else match res with
        | .data l => .ok ((l ++ List.replicate k 0xFF).take k) (d.busSwitch m 0) []
        | .nack => .errWith .stateMismatch (d.busSwitch m 0)
        | .hang =>
          let d := d.busSwitch m (2 ^ (b % 8))
          .later { d with bus := { d.bus with hung := d.bus.hung.put none m (some (Fin.ofNat 32 b, r.via, h)) } })

/-- BAY_BUS_TIMEOUT (R572). -/
def execBayBusTimeout (m : Fin 4) (s : State) : Host.Outcome State Fault Refusal :=
  s.upd (s.dev.onDie fun d =>
    match d.bus.hung.get none m.val with
    | none => d
    | some (_, v, h) =>
      let d := (d.busSwitch m.val 0).respond (h.rsp v .timeout [])
      { d with bus := { d.bus with hung := d.bus.hung.put none m.val none } })

end Sys2Proof.Machine
end

