-- ==== Sys2Proof/Machine/SchedOps.lean ====
section
/-!
DEFINITION. The operations of the scheduler: UNIT_TIME and time gates (R239 to R243), eligibility (R221), virtual time and
selection (R222 to R226), shapers (R229 to R231), metering and hold queues (R232 to R237).
-/

namespace Sys2Proof.Machine

/-! ### Gates -/

/-- The entries of the active list of port `p`. -/
def Dev.gateEnts (d : Dev) (p : Nat) : List (Nat × Nat) :=
  (List.range (d.get F.SCH_GATE_CTL.COUNT p)).map fun e =>
    (d.get F.SCH_GATE_ENT.DURATION (p * 64 + e), d.get F.SCH_GATE_ENT.OPEN (p * 64 + e))

/-- The entry that holds offset `off` of the cycle, and the time left in it. -/
def gateFind : List (Nat × Nat) → Nat → Nat → Nat × Nat
  | [], i, _ => (i, 0)
  | e :: l, i, off => if off < e.1 then (i, e.1 - off) else gateFind l (i + 1) (off - e.1)

/-- The position of port `p` in its cycle (R239). -/
def Dev.gatePos (d : Dev) (p : Nat) : Nat × Nat :=
  let cyc := d.get F.SCH_GATE_CYCLE.CYCLE p
  let off := ((d.clk.ftc.toNat : Int) - (d.get F.SCH_GATE_BASE.BASE p : Int)) % (cyc : Int)
  gateFind (d.gateEnts p) 0 off.toNat

/-- The open time of the leading entries whose mask opens class `c`. -/
def openRun (c : Nat) : List (Nat × Nat) → Nat
  | [] => 0
  | e :: l => if e.2.testBit c then e.1 + openRun c l else 0

/-- Whether the gate of port `p` runs and does not treat class `c` as always open (R242). -/
def Dev.gated (d : Dev) (p c : Nat) : Bool :=
  d.bit F.SCH_GATE_CTL.EN p && !(d.sw.gateForced.get 0 p).testBit c

/-- The remaining open time of class `c` on port `p` in ns; none when it never closes (R239). -/
def Dev.openTime (d : Dev) (p c : Nat) : Option Nat :=
  let es := d.gateEnts p
  if !d.gated p c || es.all (fun e => e.2.testBit c) then none
  else
    let (i, left) := d.gatePos p
    match es.drop i with
    | e :: l => some (openRun c ((left, e.2) :: l ++ es))
    | [] => some 0

/-- Whether a message of `units` units of class `c` fits in the open window of port `p` (R239). -/
def Dev.fits (d : Dev) (p c units : Nat) : Bool :=
  match d.openTime p c with
  | none => true
  | some ns => decide (units * d.get F.SCH_PORT_CFG.UNIT_TIME p * 4 ≤ ns * 1000)

/-- The longest open interval of class `c` in a list, in ns. -/
def longestOpen (c : Nat) (es : List (Nat × Nat)) : Nat :=
  ((List.range es.length).map fun i => openRun c (es.drop i ++ es)).foldl max 0

/-- R242: the check of a list at a takeover or a new UNIT_TIME. -/
def Dev.gateCheck (d : Dev) (p : Nat) : Dev :=
  if !d.bit F.SCH_GATE_CTL.EN p then d
  else
    let es := d.gateEnts p
    let bad := (List.range 8).filter fun c =>
      es.any (fun e => e.2.testBit c) && !es.all (fun e => e.2.testBit c) &&
        decide (longestOpen c es * 1000 < 9 * d.get F.SCH_PORT_CFG.UNIT_TIME p * 4)
    let d := { d with sw := { d.sw with gateForced := d.sw.gateForced.put 0 p (bad.foldl (fun a c => a + 2 ^ c) 0) } }
    bad.foldl (fun d c =>
      (d.set F.SCH_ERR.SCHED_CFG).raise .schedCfg (uTile (p / 8) 0x11) p (p + c * 256 + 0x1000)) d

/-- Lanes of a width code (R109). -/
def lanesOf (w : Nat) : Nat := if w = 0 then 0 else 2 ^ (w - 1)

/-- R240: recompute UNIT_TIME of port `p`. An interlink lane carries 94.116 Gb/s of slot content, so a unit takes
1,360 / lanes units of 4 ps, rounded to nearest. -/
def Dev.unitTime (d : Dev) (p : Nat) : Dev :=
  let w := d.get F.PRT_STATUS.WIDTH_NOW p
  let v := if d.isIl p then 1360 / max (lanesOf w) 1
    else (Config.unitTime (d.get F.PRT_STATUS.RATE p) w (d.get F.PRT_STATUS.FLIT p)).toNat
  (d.put F.SCH_PORT_CFG.UNIT_TIME p v).gateCheck p

/-! ### Queues (R180) -/

/-- Cells queued: messages are packed block by block (R180). -/
def Queue.cells (q : Queue) : Nat :=
  let b := q.msgs.foldl (fun a x => a + if x.mc.isSome then 0 else x.m.blocks) 0
  if b = 0 then 0 else (q.headOff + b + 3) / 4

/-- R50: a lies before b. -/
def before32 (a b : BitVec 32) : Bool := (a - b).msb

/-! ### Shapers -/

/-- R231: a rate in bytes per second as 1/256 bytes per refill interval, rounded half up. -/
def rateOf (bps refill : Nat) : Nat := (bps * (refill * 10) * 256 * 2 + 1000000000) / 2000000000

/-! ### Metering -/

/-- R232: the marker of RFC 2698 on buckets in 1/256 byte. -/
def meter (tc tp : Nat) (pre : Colour) (b : Nat) : Colour × Nat × Nat :=
  if pre = .red || decide (tp < b * 256) then (.red, tc, tp)
  else if pre = .yellow || decide (tc < b * 256) then (.yellow, tc, tp - b * 256)
  else (.green, tc - b * 256, tp - b * 256)

/-- Meter a message of ingress port `p` with policer `i`, counting the result (R232, R256). -/
def Dev.meterMsg (d : Dev) (p i : Nat) (pre : Colour) (m : Msg) : Colour × Dev :=
  let x := d.pol i
  let (c, tc, tp) := meter x.tc x.tp pre m.charge
  let k := match c with | .green => 8 | .yellow => 9 | .red => 10
  (c, (d.setPol i { x with tc := tc, tp := tp }).count (cEgress p k))

/-- R234: whether a message of this colour proceeds; the depth is that of its target queue `q`, if it has one. -/
def Dev.passes (d : Dev) (c : Colour) (dest : Dest) (q : Nat) : Bool :=
  match c with
  | .green => true
  | .red => false
  | .yellow =>
    match dest with
    | .port _ => decide ((d.queue q).cells < d.get F.QUEUE.YELLOW_TH q)
    | _ => true

end Sys2Proof.Machine
end

