-- ==== Sys2Proof/Machine/TimeOps.lean ====
section
/-!
DEFINITION. The discipline of fabric time (R57, R608).
-/

namespace Sys2Proof.Machine

/-- Two's complement in `w` bits, saturating. -/
def satInt (w : Nat) (v : Int) : Nat :=
  let v := max (-(2 ^ (w - 1) : Int)) (min v (2 ^ (w - 1) - 1))
  (if v < 0 then v + 2 ^ w else v).toNat

/-- tSTEP in ns (R607). -/
def Dev.stepNs (d : Dev) : Nat := min (max (d.get F.GLB_TIME_STEP.STEP) 1) 1000000 * 1000

/-- R57: a discipline update that found the offset of the source from the FTC: slewed up to tSTEP, stepped beyond it. -/
def Dev.discipline (d : Dev) (off : Int) : Dev :=
  let d := d.put F.GLB_TIME_STATUS.OFFSET 0 (satInt 32 off)
  let d := ((d.put F.PWR_TIME_STATUS.ESTIMATED 0 0).put F.PWR_TIME_STATUS.LOW_ACCURACY 0 0).put F.PWR_TIME_STATUS.LOST 0 0
  if off.natAbs ≤ d.stepNs then { d with clk := { d.clk with slew := off, slewAge := 0 } }
  else
    let old := d.clk.ftc
    ({ d with clk := { d.clk with ftc := old + BitVec.ofInt 64 off, slew := 0 } }).event .ftcStep (uDev 0x02) 0 old

/-- The source that GLB_TIME_CTL selects; 0x3 is taken as 0x0 (R607). -/
def Dev.timeSource (d : Dev) : Nat := if d.get F.GLB_TIME_CTL.SOURCE = 3 then 0 else d.get F.GLB_TIME_CTL.SOURCE

/-- The FTC as a time stamp at the balls of port `p` (R148). -/
def Dev.stampAt (d : Dev) (p : Nat) : BitVec 64 := d.clk.ftc + Config.timeCorr (d.get F.PRT_STATUS.WIDTH_NOW p)

end Sys2Proof.Machine
end

