-- ==== Sys2Proof/Machine/Route.lean ====
section
/-!
DEFINITION. Finding the destination of a message: instance apertures and grants (R261, R365), fold windows (R339), windows
(R257), BAR 2 (R404), virtual hierarchies (R167, R172), the route and multicast tables (R168, R188).
-/

namespace Sys2Proof.Machine

/-! ### Fold windows and apertures -/

def Dev.foldBase (d : Dev) (f : Nat) : Nat := d.get F.FOLD.FWIN f * 2 ^ 16

/-- The fold that is not FREE whose window covers a fabric address (R339). -/
def Dev.foldOf (d : Dev) (addr : Nat) : Option Nat :=
  (List.range 512).find? fun f =>
    d.get F.FOLD.STATE f != 0 && decide (d.foldBase f ≤ addr) && decide (addr < d.foldBase f + d.get F.FOLD.LINES f * 64)

def Dev.apBase (d : Dev) (i : Nat) : Nat := d.get F.INS.AP_BASE i * 2 ^ 28
def Dev.apSize (d : Dev) (i : Nat) : Nat := 2 ^ (d.get F.INS.AP_SIZE i + 28)

/-- The instance of host port `p` whose aperture covers a DPA (R364). -/
def Dev.aperture (d : Dev) (p dpa : Nat) : Option Nat :=
  (List.range 1024).find? fun i =>
    d.bit F.INS.VALID i && d.get F.INS.HOST_PORT i == p && decide (d.apBase i ≤ dpa) && decide (dpa < d.apBase i + d.apSize i)

/-- The translation entry of instance `i` that contains an aperture offset (R365). -/
def Dev.xlateOf (d : Dev) (i off : Nat) : Option Nat :=
  ((List.range 64).find? fun e =>
    let k := i * 64 + e
    d.bit F.XLATE.VALID k && decide (d.get F.XLATE.AP_OFF k * 2 ^ 21 ≤ off) &&
      decide (off < (d.get F.XLATE.AP_OFF k + d.get F.XLATE.SIZE k) * 2 ^ 21)).map (i * 64 + ·)

/-- A revoke walk of grant `g` of port `p` runs: its range still reaches the holders that the walk invalidates (R295). -/
def Dev.revoking (d : Dev) (p g : Nat) : Bool :=
  d.coh.walks.any fun w => match w.why with
    | .revoke q k _ _ => q.val == p && k.val == g
    | _ => false

/-- The grant of host port `p` that covers a DPA (R261); for a host's answer to the directory, one being revoked too
(R295, R639). -/
def Dev.grantOf (d : Dev) (p dpa : Nat) (ans : Bool) : Option Nat :=
  ((List.range 32).find? fun g =>
    let k := p * 32 + g
    (d.bit F.GRANT.VALID k || (ans && d.revoking p g)) && decide (d.get F.GRANT.DPA_BASE k * 2 ^ 28 ≤ dpa) &&
      decide (dpa < (d.get F.GRANT.DPA_BASE k + d.get F.GRANT.SIZE k) * 2 ^ 28)).map (p * 32 + ·)

/-- What a DPA of a host port reaches. -/
structure Hit where
  addr     : Nat
  inst     : Option (Fin 1024)
  coherent : Bool
  here     : Bool
  home     : BitVec 12
  writable : Bool
  deriving DecidableEq, Repr

/-- R261, R365: an aperture first, else a grant; none where neither matches or no entry covers the offset. -/
def Dev.dpaHit (d : Dev) (p dpa : Nat) (ans : Bool := false) : Option Hit :=
  match d.aperture p dpa with
  | some i =>
    let off := dpa - d.apBase i
    (d.xlateOf i off).map fun k =>
      { addr := d.get F.XLATE.FBASE k * 2 ^ 21 + (off - d.get F.XLATE.AP_OFF k * 2 ^ 21), inst := some (Fin.ofNat 1024 i),
        coherent := d.bit F.XLATE.COHERENT k, here := d.bit F.XLATE.LOCAL k,
        home := BitVec.ofNat 12 (d.get F.XLATE.HOME_EDGE k), writable := d.bit F.XLATE.WRITABLE k }
  | none =>
    (d.grantOf p dpa ans).map fun k =>
      { addr := d.get F.GRANT.FBASE k * 2 ^ 28 + (dpa - d.get F.GRANT.DPA_BASE k * 2 ^ 28), inst := none,
        coherent := d.bit F.GRANT.COHERENT k, here := d.bit F.GRANT.LOCAL k,
        home := BitVec.ofNat 12 (d.get F.GRANT.HOME_EDGE k), writable := true }

/-! ### Destinations -/

/-- Where a fabric address homed here leads: a fold's engine, or the home tollgate (R339, R267). -/
def Dev.homeDest (d : Dev) (addr : Nat) (uncached : Bool) (m : Msg) : Dest :=
  match d.foldOf addr with
  | some f => .fold (Fin.ofNat 512 f)
  | none =>
    if (d.windowOf addr).isNone then .answer .miss
    else match m.cls with
      | .req | .rwd => .slice (Fin.ofNat 8 (homeSlice (lineOf addr))) uncached
      | _ => .answer .ur

/-- Where an edge ID leads (R168 to R170). A message for the C64's own functions that names fabric memory goes to its
home (R262); a response to one of its own accesses goes to the tollgate that its tag names. -/
def Dev.edgeDest (d : Dev) (m : Msg) : Dest :=
  match d.route m.dst with
  | .port p => if m.hops = 31 then .answer .miss else .port (Fin.ofNat 64 p)
  | .miss => .answer .miss
  | .own =>
    match m.cls with
    | .req | .rwd => d.homeDest m.addr.toNat true m
    | .rsp | .drs => .slice (Fin.ofNat 8 (m.tag.toNat / 8192)) true
    | .snp => .answer .miss
    | .ion | .iop | .ioc => .own 0

/-- What stage 3 finds for a message: its destination, the message as routed, and whether it breaks R263 (R285). -/
structure Routed where
  dest : Dest
  m    : Msg
  viol : Bool := false
  deriving DecidableEq, Repr

/-- A request through a range homed elsewhere, which only an uncached one may take: RD_I and WR_I go on, WR_S and WR_A as
WR_I, and the others are answered here (R262, R263, R285). -/
def Dev.farDest (d : Dev) (home : BitVec 12) (m : Msg) : Routed :=
  let m := { m with dst := home }
  match m.op with
  | .rdS | .rdA | .invA | .cln => { dest := .answer .uncached, m := m, viol := true }
  | .wrS | .wrA => { dest := d.edgeDest m, m := { m with op := .wrI }, viol := true }
  | _ => { dest := d.edgeDest m, m := m }

/-- A message in the window device's decoder range (R167 order 2). -/
def Dev.windowDest (d : Dev) (p dpa : Nat) (m : Msg) : Routed :=
  match d.dpaHit p dpa (m.op.hostAnswer) with
  | none => { dest := .answer .miss, m := m }
  | some h =>
    let gen := match h.inst with
      | some i => BitVec.ofNat 16 (d.get F.INS.GEN i.val)
      | none => 0
    let m := { m with addr := BitVec.ofNat 64 h.addr, inst := h.inst, gen := gen }
    if m.op.hostAnswer then
      let ext := match m.op with | .fwdData | .fwdNack => true | _ => false
      if ext && !d.active p then { dest := .answer .malformed, m := m }
      else { dest := .slice (Fin.ofNat 8 (homeSlice (lineOf h.addr))) false, m := m }
    else if m.op.writes && !h.writable then { dest := .answer .access, m := m }
    else if h.here then
      { m := m, dest := match m.cls with
        | .req | .rwd | .ion => d.homeDest h.addr (!h.coherent || !d.coh.biEn.getLsbD p) m
        | _ => .answer .miss }
    else d.farDest h.home m

/-- A request to BAR 2 of the window device (R404, R405); away from the group's root the write goes there (R188). -/
def Dev.bar2Dest (d : Dev) (off : Nat) (m : Msg) : Dest × Msg :=
  match m.op with
  | .mWr =>
    let e := off / 2 ^ 20
    let g := d.get F.MCA.GROUP e
    if d.bit F.MCA.VALID e && decide (off % 2 ^ 20 + m.pay.length ≤ 2 ^ 20) && decide (m.pay.length ≤ 512) &&
        d.bit F.TIL_MCAST.VALID g then
      let r := d.get F.TIL_MCAST.ROOT_PORT g
      (if d.bit F.TIL_MCAST.ROOT g then .mcast (BitVec.ofNat 12 g)
        else if d.enabled r && !d.portFenced r then .port (Fin.ofNat 64 r) else .answer .miss,
        { m with dst := BitVec.ofNat 12 g, mcast := true, addr := BitVec.ofNat 64 (d.get F.MCA.DEST e + off % 2 ^ 20) })
    else (.answer .badMca, m)
  | _ => if m.cls = .ion then (.answer .ur, m) else (.answer .badMca, m)

/-- R411: an MRdLk may go only to one of the C64's own functions or to a bound target port here. -/
def Dev.lockDest (d : Dev) (x : Dest) : Dest :=
  if !d.bit F.BRG_CTL.LOCK_EN then .answer .ur
  else match x with
    | .own f => .own f
    | .cfg r => .cfg r
    | .port p => if d.isTarget p.val then .port p else .answer .ur
    | .answer w => .answer w
    | _ => .answer .ur

/-- A selective IDE TLP goes only between a host port and a target bound into its hierarchy; a destination that changes its
header, or that is one of the C64's own, answers it as an Unsupported Request (R94). DEDUCED, unsafe: log entry 69. -/
def Decode.bound (dec : Decode) : Bool :=
  match dec with
  | .windowDev _ | .bar2 _ | .ownFn _ | .cfgReg _ | .biEnable _ => false
  | .edge | .vppb _ | .upstream _ | .cacheId _ | .none => true

/-! ### The virtual hierarchy of a host port (R172) -/

/-- The run-time state of vPPB `v` of host port `p`. -/
def Dev.vppbRt (d : Dev) (p v : Nat) : VppbRt := d.brg.vppb.get VppbRt.reset (p * 32 + v)

def Dev.setVppb (d : Dev) (i : Nat) (x : VppbRt) : Dev := { d with brg := { d.brg with vppb := d.brg.vppb.put VppbRt.reset i x } }

/-- A range of a type 1 header in units of 1 MiB: bits [15:4] of each half of the word, below the upper words. -/
def inRange (w lo hi : BitVec 32) (a : Nat) : Bool :=
  let base := lo.toNat * 2 ^ 32 + w.toNat / 16 % 4096 * 2 ^ 20
  let limit := hi.toNat * 2 ^ 32 + w.toNat / 2 ^ 20 * 2 ^ 20 + 0xFFFFF
  decide (base ≤ a) && decide (a ≤ limit)

/-- Whether a CXL.io request lies behind a vPPB as the host programmed it: a memory request in one of its windows, a
configuration request on one of its buses, which address bits [27:20] name; none where neither kind decides.
DESIGN CHOICE, unsafe: log entry 8. -/
def VppbRt.covers (x : VppbRt) (m : Msg) : Option Bool :=
  let a := m.addr.toNat
  match m.op with
  | .mRd | .mRdLk | .mWr | .atomic => some (x.cmd.getLsbD 1 && (inRange x.mem 0 0 a || inRange x.pref x.prefBase x.prefLimit a))
  | .cfgRd | .cfgWr =>
    let bus := a / 2 ^ 20 % 256
    let lo := x.bus.toNat / 256 % 256
    some (lo != 0 && decide (lo ≤ bus) && decide (bus ≤ x.bus.toNat / 2 ^ 16 % 256))
  | _ => none

/-- The bound vPPB that a message of host port `p` goes by (R167 order 4): the first whose windows or buses hold it, else
the one the standard's decode names. -/
def Dev.vppbFor (d : Dev) (p v : Nat) (m : Msg) : Option Nat :=
  let ok (u : Nat) : Bool := u != 0 && decide (2 ≤ d.get F.TIL_VPPB.STATE (p * 32 + u))
  let pick := if (VppbRt.reset.covers m).isSome then
      (List.range 32).find? fun u => ok u && ((d.vppbRt p u).covers m).getD false
    else some v
  pick.filter ok

/-- The host port whose virtual hierarchy owns the logical device of a message from target port `p` (R167 order 5). -/
def Dev.ownerOf (d : Dev) (p : Nat) (m : Msg) : Option Nat :=
  (List.range 64).find? fun h => d.isHost h && (List.range 32).any fun v =>
    let i := h * 32 + v
    v != 0 && decide (2 ≤ d.get F.TIL_VPPB.STATE i) && d.get F.TIL_VPPB.TARGET_EDGE i == (d.edgeOf p).toNat &&
      (!d.bit F.TIL_VPPB.LD_VALID i || d.get F.TIL_VPPB.LD_ID i == m.ldId.toNat)

/-! ### The decode order of R167 -/

/-- A message of an interlink: by its multicast group, or by DST_EDGE. A multicast message that did not come from the root
goes toward it unreplicated (R188). -/
def Dev.ilDest (d : Dev) (p : Nat) (m : Msg) : Dest :=
  if !m.mcast then d.edgeDest m
  else match m.cls with
    | .rwd | .iop =>
      let g := m.dst.toNat
      let r := d.get F.TIL_MCAST.ROOT_PORT g
      if !d.bit F.TIL_MCAST.VALID g || m.hops = 31 then .answer .miss
      else if d.bit F.TIL_MCAST.ROOT g || p = r then .mcast m.dst
      else if d.enabled r && !d.portFenced r then .port (Fin.ofNat 64 r) else .answer .miss
    | _ => .answer .malformed

/-- A message of a host port (orders 2 to 4, and 6 for its responses). -/
def Dev.hostDest (d : Dev) (p : Nat) (dec : Decode) (m : Msg) : Routed :=
  match dec with
  | .windowDev dpa => d.windowDest p dpa.toNat m
  | .bar2 off =>
    let (x, m) := d.bar2Dest off.toNat m
    { dest := x, m := m }
  | .ownFn f => { dest := .own f, m := m }
  | .cfgReg r => { dest := .cfg r, m := m }
  | .biEnable on => { dest := .biEn on, m := m }
  | .vppb v =>
    match d.vppbFor p v.val m with
    | some u =>
      let k := p * 32 + u
      let m := { m with dst := BitVec.ofNat 12 (d.get F.TIL_VPPB.TARGET_EDGE k),
                        ldId := if d.bit F.TIL_VPPB.LD_VALID k then BitVec.ofNat 4 (d.get F.TIL_VPPB.LD_ID k) else 0 }
      { dest := d.edgeDest m, m := m }
    | none => { dest := .answer .miss, m := m }
  | .edge => { dest := if Op.responds m.op then d.edgeDest m else .answer .miss, m := m }
  | _ => { dest := .answer .miss, m := m }

/-- A message of a target port (order 5, and 6 for its responses): by the vPPB that owns the logical device here, else by
the edge ID that the standard's decode names, as of a host of another C64. -/
def Dev.targetDest (d : Dev) (p : Nat) (dec : Decode) (m : Msg) : Routed :=
  let via (e : BitVec 12) : Routed := { dest := d.edgeDest { m with dst := e }, m := { m with dst := e } }
  match dec with
  | .upstream far =>
    match d.ownerOf p m, far with
    | some h, _ => via (d.edgeOf h)
    | none, some e => via e
    | none, none => { dest := .answer .miss, m := m }
  | .cacheId e => via e
  | .edge => { dest := if Op.responds m.op then d.edgeDest m else .answer .miss, m := m }
  | _ => { dest := .answer .miss, m := m }

/-- R167: the destination of a message of port `p`. A payload above the 512 bytes of R91 is malformed.
DESIGN CHOICE, unsafe: log entry 8. -/
def Dev.destOf (d : Dev) (p : Nat) (dec : Decode) (m : Msg) : Routed :=
  if d.isIl p then { dest := d.ilDest p m, m := m }
  else
    let r := if d.isHost p then d.hostDest p dec m else d.targetDest p dec m
    if 512 < m.pay.length && r.dest ≠ .answer .badMca then { r with dest := .answer .malformed }
    else if r.m.selIde && !Decode.bound dec then { r with dest := .answer .ur }
    else if r.m.op = .mRdLk && d.isTarget p then { r with dest := .answer .ur }
    else if r.m.op = .mRdLk then { r with dest := d.lockDest r.dest } else r

/-! ### Which traffic a port carries -/

/-- The modes in which tenant and fabric traffic moves (R35, R84). -/
def Dev.moves (d : Dev) : Bool := d.mode = .service || d.mode = .degraded || d.mode = .quiesce

/-- Port `p` carries traffic in either direction: up, out of Recovery (R100), not fenced, a host, target or interlink port
(R81), in a mode that carries it, and with active IDE where it is required (R95, R118). -/
def Dev.passesPort (d : Dev) (p : Nat) : Bool :=
  (d.prt p).up && d.get F.PRT_STATUS.LTSSM p != 3 && !d.portFenced p && d.moves &&
    (d.isIl p || ((d.isHost p || d.isTarget p) && (!d.bit F.PRT_IDE.REQUIRED p || d.bit F.PRT_STATUS.IDE_ACTIVE p)))

/-- Port `p` takes traffic into the fabric (R211). -/
def Dev.carries (d : Dev) (p : Nat) : Bool := d.passesPort p && (d.isIl p || d.bit F.TIL_PCFG.EDGE_VALID p)

end Sys2Proof.Machine
end

