-- ==== Sys2Proof/Machine/InsOps.lean ====
section
/-!
DEFINITION. The operations of tenant instances that the switch shares: what counts against quotas (R367), the admission and
hold rules at stage 3 (R233 to R236, R368), squashes (R376), generations (R378), and resets (R374 to R377).
-/

namespace Sys2Proof.Machine

/-! ### Counts -/

/-- Requests of instance `i` that count against TRK: squashed ones too, until their transactions end. -/
def Dev.insOut (d : Dev) (i : Nat) : List InsReq := d.ins.out.filter fun r => r.inst == i

/-- Requests still owed an answer. -/
def Dev.insOpen (d : Dev) (i : Nat) : List InsReq := d.ins.out.filter fun r => r.inst == i && !r.squashed

/-- A class whose messages count and are policed (R232, R367). -/
def Cls.policed : Cls → Bool
  | .req | .rwd | .ion | .iop => true
  | _ => false

/-- Whether a message counts against the cells of instance `i`. -/
def msgOfInst (m : Msg) (i : Nat) : Bool := (m.inst.map (·.val)) = some i && Cls.policed m.cls

/-- The requests of instance `i` that stage 3 has let proceed and that have not committed. -/
def Dev.insPipe (d : Dev) (i : Nat) : List PMsg :=
  d.sw.pipe.filter fun x => x.pol == some i && decide (x.gate = .go) && !d.isIl x.port.val

/-- The 64-byte blocks that instance `i` occupies in the buffers of every tile, with those admitted on their way there; a held
message is not admitted (R367, R368). -/
def Dev.insBlocks (d : Dev) (i : Nat) : Nat :=
  let sum (l : List QMsg) : Nat := (l.filter fun x => msgOfInst x.m i).foldl (fun a x => a + x.m.blocks) 0
  d.sw.queues.foldl (fun a x => a + (match x.2 with | some q => sum q.msgs | none => 0)) 0 +
    d.ports.foldl (fun a x => a + sum (x.2.sideNp.map (·.2)) + sum (x.2.sideCpl.map (·.2))) 0 +
    (d.sw.staged.map (·.m) ++ d.brg.waiters.map (·.m) ++ (d.insPipe i).map (·.m)).foldl (fun a m => a + if msgOfInst m i then m.blocks else 0) 0

/-- The hold queue's capacity (R236). -/
def Dev.holdMax (d : Dev) (i : Nat) : Nat := d.get F.POL.HOLD_MAX i

/-! ### Which policer entry owns a message, and whether it waits (R232, R233, R238, R368) -/

/-- The policer entry through which a message of port `p` passes, and whether it meters it. -/
def Dev.polFor (d : Dev) (p : Nat) (m : Msg) : Option Nat :=
  match m.inst with
  | none => none
  | some i =>
    if !Cls.policed m.cls then none
    else if d.isIl p then
      if d.bit F.SCH_PORT_CFG.TRANSIT_EN p then some (d.get F.SCH_PORT_CFG.TRANSIT_POL p) else none
    else if d.bit F.INS.VALID i.val && d.get F.INS.HOST_PORT i.val = p then some i.val else none

/-- Instance states that hold new requests (R373). -/
def Dev.insHolds (d : Dev) (i : Nat) : Bool := d.get F.INS.STATE i ≥ 2

/-- The quota that keeps a request from being admitted (R368): 0 TRK, 1 CELLS. -/
def Dev.quotaFull (d : Dev) (i : Nat) (m : Msg) : Option Nat :=
  if !Cls.policed m.cls then none
  else if m.cls ≠ .iop && decide (d.get F.INS.Q_TRK i ≤ (d.insOut i).length + ((d.insPipe i).filter fun x => decide (x.m.cls ≠ .iop)).length) then some 0
  else if d.insBlocks i + m.blocks > d.get F.INS.Q_CELLS i * 4 then some 1
  else none

/-- FK_INST_ faults: the address field of R388. -/
def Dev.insFault (d : Dev) (k : Kind) (bit : Fld) (i addr : Nat) : Dev :=
  (d.set bit i).raise k (uTile (d.get F.INS.HOST_PORT i / 8) 0x10) i (i + addr)

/-- An instance request is admitted: it counts until its response (R367). IOP has no response. -/
def Dev.insAdmit (d : Dev) (i : Nat) (m : Msg) : Dev :=
  let d := (d.count (cInst i 0))
  let d := { d with ins := { d.ins with waiting := d.ins.waiting.filter (· != i) } }
  if m.cls = .iop then d else { d with ins := { d.ins with out := d.ins.out ++ [{ inst := i, m := m, squashed := false }] } }

/-! ### Squashes (R376, R381) -/

/-- The answer that a squash gives the host, which the generation check lets pass. -/
def Dev.squashAnswer (d : Dev) (m : Msg) : Dev :=
  let go (op : Op) (poison : Bool) : Dev :=
    let a : Msg := { op := op, dst := m.src, src := d.ownEdge, sseq := m.sseq, inst := m.inst, gen := m.gen, tag := m.tag,
                     addr := m.addr, poison := poison }
    match d.route m.src with
    | .port p => d.launch 0 (.port (Fin.ofNat 64 p)) a (squash := true)
    | _ => d.emit 0 a
  match m.op with
  | .rdS | .rdA | .rdI | .otherReq _ true => go (.data .i) true
  | .wrI | .wrS | .wrA | .fwdData | .otherRwd _ | .invA | .cln | .otherReq _ false => go (.cmp .i) false
  | .mRd | .mRdLk | .atomic => go (.cplD .sc) true
  | .ioRd | .cfgRd => go (.cpl .ur) false
  | .ioWr | .cfgWr => go (.cpl .ca) false
  | _ => d

/-- R376, R388: squash one request: answer, count, FK_INST_SQUASH, and for an issued write the reclaim record of type
0x13. -/
def Dev.squash (d : Dev) (i : Nat) (m : Msg) (never frozen : Bool) : Dev :=
  let wr := m.op.writes
  let d := (d.squashAnswer m).count (cDev 23)
  let recl : Option Recl := if wr && !never then
      some { ty := 0x13, b1 := d.get F.INS.HOST_PORT i, inst := some (Fin.ofNat 1024 i), lines := 1,
             addr := BitVec.ofNat 64 (m.addr.toNat % 2 ^ 52 / 64 * 64) }
    else none
  (d.set F.INS.SQUASH i).raise .instSquash (uTile (d.get F.INS.HOST_PORT i / 8) 0x10) i
    (i + (if wr then 1024 else 0) + (if never then 2048 else 0) + (if frozen then 4096 else 0)) none .instance_ recl

/-- R378: what a squashed request that has not reached its transaction becomes. -/
def squashedOp : Op → Op
  | .rdS | .rdA | .invA => .rdI
  | .wrS | .wrA => .wrI
  | o => o

/-- The same request. -/
def sameReq (a b : Msg) : Bool := a.src == b.src && a.tag == b.tag && decide (a.inst = b.inst) && a.gen == b.gen

/-- R378: the transaction of a squashed request runs as an RD_I of that host. -/
def Dev.squashTrks (d : Dev) (m : Msg) : Dev :=
  let op (o : TOp) : TOp := if o.local_ && sameReq o.m m then { o with m := { o.m with op := squashedOp o.m.op } } else o
  let st (x : Staged) : Staged :=
    if x.ing.isSome && sameReq x.m m then { x with m := { x.m with op := squashedOp x.m.op } } else x
  let d := { d with sw := { d.sw with staged := d.sw.staged.map st } }
  d.eachSlice fun d t =>
    let s := d.slice t
    d.setSlice t { s with
      w := s.w.map op, q := s.q.map op, p := s.p.map op, parked := s.parked.map fun x => (x.1, op x.2),
      trks := s.trks.map fun k =>
        if k.job = .demand && k.op.local_ && sameReq k.op.m m then
          { k with noAdd := true, op := { k.op with m := { k.op.m with op := if k.op.m.op.writes then .wrI else k.op.m.op } } }
        else k }

/-- Squash every open request of instance `i`; answers how many. -/
def Dev.squashAll (d : Dev) (i : Nat) : Dev × Nat :=
  let l := d.insOpen i
  let d := { d with ins := { d.ins with out := d.ins.out.map fun r => if r.inst = i then ({ r with squashed := true } : InsReq) else r } }
  (l.foldl (fun d r => (d.squash i r.m false false).squashTrks r.m) d, l.length)

/-- R374: answer every held message of instance `i`, as never issued. One whose last slot has not committed has not arrived. -/
def Dev.answerHeld (d : Dev) (i : Nat) (frozen : Bool) : Dev :=
  let x := d.pol i
  let d := ({ d with ins := { d.ins with waiting := d.ins.waiting.filter (· != i) } } : Dev).setPol i
    { x with hold := x.hold.filter (·.spec), metered := x.metered && ((x.hold.head?.map (·.spec)).getD false) }
  (x.hold.filter fun s => !s.spec).foldl (fun d s => (d.squash i s.m true frozen).ends s) d

/-! ### Generations (R377 to R379) -/

/-- The next generation of instance `i`. -/
def Dev.nextGen (d : Dev) (i : Nat) : BitVec 16 := BitVec.ofNat 16 (d.get F.INS.GEN i) + 1

/-- R379: a request issued under the generation that a reset would reach is still outstanding. -/
def Dev.genBusy (d : Dev) (i : Nat) : Bool := (d.insOut i).any fun r => r.m.gen == d.nextGen i

/-- Raise the generation (R375, R377). The fields of the instance domain are the state and counts of what is outstanding (R392). -/
def Dev.raiseGen (d : Dev) (i : Nat) : Dev :=
  ((d.put F.INS.GEN i (d.nextGen i).toNat).addSat F.INS.RESETS i 1).count (cDev 25)

/-- R378: whether a response to an instance request must be discarded at the host port's tile, with the device that has
it discarded or its request closed. The record names a write when the request is known to be one.
DEDUCED, unsafe: log entry 26. -/
def Dev.insResponse (d : Dev) (m : Msg) (squash : Bool) : Dev × Bool :=
  match m.inst with
  | none => (d, false)
  | some i =>
    let mine (r : InsReq) : Bool := r.inst == i.val && r.m.src == m.dst && r.m.tag == m.tag && r.m.gen == m.gen
    if squash then (d, false)
    else
      let req := d.ins.out.find? mine
      let stale := m.gen.toNat != d.get F.INS.GEN i.val || ((req.map (·.squashed)).getD false)
      let d := match req with
        | some r => { d with ins := { d.ins with out := d.ins.out.erase r } }
        | none => d
      if stale then
        let wr := (req.map fun r => r.m.op.writes).getD false
        ((d.count (cDev 24)).insFault .instLateDiscard F.INS.LATE i.val (if wr then 1024 else 0), true)
      else (d, false)

/-- R354 cause 0x3: the instance of a rank that has not completed its contribution is reset or destroyed. -/
def Dev.foldIns (d : Dev) (i : Nat) : Dev :=
  d.foldAbandonBy 3 fun k => d.bit F.FOLD_RANK.INST_VALID k && d.get F.FOLD_RANK.INSTANCE k == i

/-- R374 to R377, R387: reset instance `i`. Answers the requests squashed, and whether the reset is complete. -/
def Dev.insReset (d : Dev) (i : Nat) : Dev × Nat × Bool :=
  let d := d.foldIns i
  match d.get F.INS.STATE i with
  | 1 =>
    let d := d.answerHeld i false
    if d.bit F.INS.CLASS i then
      let (d, n) := d.squashAll i
      (d.raiseGen i, n, true)
    else ((d.put F.INS.STATE i 2), 0, false)
  | 2 => (d, 0, false)
  | _ =>
    let d := d.answerHeld i false
    let (d, n) := d.squashAll i
    (d.raiseGen i, n, true)

/-- Every instance of host port `p` is reset under its class (R387). -/
def Dev.insResetPort (d : Dev) (p : Nat) : Dev :=
  ((List.range 1024).filter fun i => d.bit F.INS.VALID i && d.get F.INS.HOST_PORT i == p).foldl
    (fun d i => if d.genBusy i then d else (d.insReset i).1) d

end Sys2Proof.Machine
end

