-- ==== Sys2Proof/Machine/CarOps.lean ====
section
/-!
DEFINITION. Telemetry records for stream 0x01 of Caravan: mirror copies (R193, R473) and queue samples (R246), with their
cells of the auxiliary partition (R76, R77).
-/

namespace Sys2Proof.Machine

/-- R471: the output starts an ALIGN sequence: at least 64 ALIGN blocks, with no credit and no transition counted.
DEDUCED, unsafe: log entry 53. -/
def Dev.carAlign (d : Dev) : Dev :=
  let d := (d.put F.CAR_STATUS.TX_READY 0 0).put F.CAR_STATUS.TX_CREDIT 0 0
  { d with car := { d.car with align := 64 } }

/-- The effect of TX_EN and RX_EN when they come to read 1. -/
def Dev.carEnabled (d : Dev) (tx rx : Bool) : Dev :=
  let d := if tx then d.carAlign else d
  if rx then d.put F.CAR_STATUS.RX_FREE 0 128 else d

/-- Drop a telemetry record (R77): counted by FK_TELEMETRY_DROP. -/
def Dev.telDrop (d : Dev) (t p : Nat) : Dev :=
  (d.set F.TIL_ERR.TELEM_DROP t).raise .telemetryDrop (uTile t 0x11) t (Config.faultAddr Kind.telemetryDrop.code p).toNat

/-- Queue a telemetry record of port `p`, or drop it, as shed stage 1 does (R537). Answers whether it was kept.
DEDUCED, unsafe: log entry 23. -/
def Dev.telemetry (d : Dev) (p kind : Nat) (b : List (BitVec 8)) : Dev × Bool :=
  let t := p / 8
  let cells := (b.length + 255) / 256
  if d.auxCan t .telemetry cells && decide (d.get F.PWR_SAG_STATUS.STAGE = 0) then
    let d := d.auxTake t .telemetry cells
    ({ d with car := { d.car with tel := d.car.tel ++ [{ kind := kind, bytes := b, tile := Fin.ofNat 8 t, cells := cells }] } }, true)
  else (d.telDrop t p, false)

/-- R193: mirror a message of port `p` in a direction, if the port's tile mirrors it. -/
def Dev.mirror (d : Dev) (p : Nat) (egress : Bool) (m : Msg) : Dev :=
  let t := p / 8
  if d.bit F.TIL_MIRROR.EN t && d.get F.TIL_MIRROR.PORT_K t == p % 8 && d.bit F.TIL_MIRROR.DIR t == egress &&
      (d.get F.CAR_CFG.STREAM_EN).testBit 0 then
    let b := msgBytes m
    let rec_ := bytes 8 d.clk.ftc.toNat ++ [BitVec.ofNat 8 (p + if egress then 128 else 0), 0] ++ bytes 2 b.length ++ b ++
      List.replicate ((4 - b.length % 4) % 4) 0
    let (d, kept) := d.telemetry p 2 rec_
    if kept then d else d.count (cTile t 8)
  else d

end Sys2Proof.Machine
end

