-- ==== Sys2Proof/Machine/Stage.lean ====
section
/-!
DEFINITION. Stages 1 to 4 of the core pipeline (R22): the stamp of a request, its destination and egress queue, policing and
hold queues (R232 to R236, R368), the reservation of stage 4, and the cells of the shared buffers (R180 to R183).
-/

namespace Sys2Proof.Machine

/-! ### Stage 1 -/

/-- The request that a response to port `p`'s partner answers. -/
def Dev.asked (d : Dev) (p : Nat) (m : Msg) : Option Msg :=
  (d.outst p).find? fun r => r.src == m.dst && r.tag == m.tag

/-- A completion or data response, which answers a request handed to a partner. -/
def Op.answers : Op → Bool
  | .cmp _ | .data _ | .fData | .otherRsp _ | .otherDrs _ | .cpl _ | .cplD _ => true
  | _ => false

/-- Stage 1: SRC_EDGE and the green colour of a message that enters the fabric here (R164, R232), the per-source sequence of
a request (R47, R48), and the request's context on its response. Answers whether a sequence was assigned. -/
def Dev.stage1 (d : Dev) (p : Nat) (m : Msg) : Dev × Msg × Bool :=
  if d.isIl p then (d, m, false)
  else
    let m := { m with src := d.edgeOf p, colour := .green, hops := 0, mcast := false, gseq := 0 }
    if Op.answers m.op then
      match d.asked p m with
      | some r => (d, { m with inst := r.inst, gen := r.gen, sseq := r.sseq }, false)
      | none => (d, { m with inst := none, gen := 0, sseq := 0 }, false)
    else
      let m := { m with inst := none, gen := 0, sseq := 0 }
      if d.isHost p && Cls.policed m.cls then
        let n := d.sw.sseq.get 0 m.src.toNat
        ({ d with sw := { d.sw with sseq := d.sw.sseq.put 0 m.src.toNat ((n + 1) % 2 ^ 32) } },
          { m with sseq := BitVec.ofNat 32 n }, true)
      else (d, m, false)

/-! ### Cells (R180, R181, R183) -/

/-- The tile whose buffer holds a message with this destination (R14, R235). -/
def Dest.tile (x : Dest) (ing : Option (Fin 64)) : Nat :=
  match x with
  | .port e => e.val / 8
  | .slice t _ => t.val
  | .fold f => f.val / 64
  | _ => match ing with
    | some p => p.val / 8
    | none => 0

/-- Cells of a list of messages. -/
def cellsOf (l : List QMsg) : Nat := l.foldl (fun a x => a + if x.mc.isSome then 0 else x.m.cells) 0

/-- Cells of tile `t` that messages past stage 3 hold before they join a queue (R235). -/
def heldCells (t : Nat) (l : List Staged) : Nat :=
  (l.filter fun s => s.celled && s.dest.tile s.ing == t).foldl (fun a s => a + s.m.cells) 0

/-- Cells of the main buffer of tile `t` in use: queues, side buffers, held messages, and those released from a hold queue
that still wait for admission. -/
def Dev.usedCells (d : Dev) (t : Nat) : Nat :=
  d.sw.queues.foldl (fun a x => a + match x.2 with
    | some q => if x.1 / 2048 = t then q.cells else 0
    | none => 0) 0 +
  (List.range 8).foldl (fun a k => let r := d.prt (t * 8 + k)
    a + cellsOf (r.sideNp.map (·.2)) + cellsOf (r.sideCpl.map (·.2))) 0 +
  d.sw.pols.foldl (fun a x => a + match x.2 with
    | some p => heldCells t p.hold
    | none => 0) 0 + heldCells t d.sw.staged

/-- Free main-buffer cells of tile `t`. -/
def Dev.freeCells (d : Dev) (t : Nat) : Nat :=
  65536 - d.get F.TIL_AUX_CFG.SIZE t * 256 - d.get F.TIL_BUF_STATUS.RETIRED t - d.usedCells t

/-- The floors in force: RD, SNP, IO, together at most 32,768 cells (R183). -/
def Dev.floors (d : Dev) (t : Nat) : Nat × Nat × Nat :=
  let rd := min (d.get F.TIL_BUF_CFG.RD_FLOOR t * 64) 32768
  let snp := min (d.get F.TIL_BUF_CFG.SNP_FLOOR t * 64) (32768 - rd)
  let io := min (d.get F.TIL_BUF_CFG.IO_FLOOR t * 64) (32768 - rd - snp)
  (rd, snp, io)

/-- The free cells a class must leave (R181). -/
def Dev.floorOf (d : Dev) (t : Nat) (c : Cls) : Nat :=
  let (rd, snp, io) := d.floors t
  match c with
  | .rsp | .drs => 0
  | .snp => rd
  | .iop | .ioc => rd + snp
  | .req | .rwd | .ion => rd + snp + io

/-- Cells that message `m` adds to queue `q`. -/
def Queue.adds (q : Queue) (m : Msg) : Nat :=
  let x : QMsg := { m := m, ing := none, rel := 0, mc := none, adm := 0, since := 0, deferred := false }
  ({ q with msgs := q.msgs ++ [x] } : Queue).cells - q.cells

/-- R181: `n` cells of tile `t` for a message of class `c`, each of which leaves more than its floor free. -/
def Dev.fitsCells (d : Dev) (t : Nat) (c : Cls) (n : Nat) : Bool := n == 0 || decide (d.floorOf t c + n ≤ d.freeCells t)

/-- R181: every cell that the message takes to join queue `q` leaves more than its floor free. -/
def Dev.fitsBuffer (d : Dev) (t q : Nat) (m : Msg) : Bool := d.fitsCells t m.cls ((d.queue q).adds m)

/-! ### Policing (R232 to R236, R368) -/

/-- The tests of stage 3 for a message that policer entry `i` owns. Instances: state and quotas. -/
def Dev.blocked (d : Dev) (p i : Nat) (m : Msg) : Bool :=
  !d.isIl p && (d.insHolds i || (d.quotaFull i m).isSome)

/-- Meter a message of port `p` with policer `i`: its colour, and whether it proceeds. A policer that is off makes every
message green and meters nothing (R232, R237, R250). DEDUCED, unsafe: log entry 22. -/
def Dev.police (d : Dev) (p i : Nat) (x : Dest) (q : Nat) (m : Msg) (blind : Bool) : Dev × Colour × Bool :=
  if !d.bit F.POL.EN i then (d, .green, true)
  else
    let pre := if !blind && d.bit F.POL.AWARE i then m.colour else .green
    let (c, d) := d.meterMsg p i pre m
    let ok := d.passes c x q
    ((if c = .yellow && !ok then d.count (cEgress p 11) else d), c, ok)

/-- Hold queue `i` is full (R236). -/
def Dev.holdFull (d : Dev) (i : Nat) : Bool := decide (d.holdMax i ≤ (d.pol i).hold.length)

/-- Append to hold queue `i`; FK_HOLD_FULL once when it becomes full (R236). -/
def Dev.holdMsg (d : Dev) (p i : Nat) (s : Staged) (metered : Bool := false) : Dev :=
  let x := d.pol i
  let d := d.setPol i { x with hold := x.hold ++ [s], metered := if x.hold = [] then metered else x.metered }
  if x.hold.length + 1 = d.holdMax i then
    let (dom, idx) := if d.isIl p then (DomType.port, p) else (.instance_, i)
    (d.set F.SCH_ERR.HOLD_FULL).raise .holdFull (uTile (p / 8) 0x10) idx (i + p * 2 ^ 16) none dom
  else d

/-- FK_INST_QUOTA for a head that starts to wait (R368). -/
def Dev.quotaWait (d : Dev) (i quota : Nat) (m : Msg) : Dev :=
  if d.ins.waiting.contains i then d
  else
    ({ d with ins := { d.ins with waiting := d.ins.waiting ++ [i] } }).insFault .instQuota F.INS.QUOTA i
      (quota * 2 ^ 13 + if m.op.writes then 1024 else 0)

/-- A message of the pipeline waits at its ingress for a place in hold queue `i`. -/
def Dev.holdWait (d : Dev) (i : Nat) : Bool := d.sw.pipe.any fun z => z.pol == some i && decide (z.gate = .full)

/-- Stage 3 for a message `s` of port `p` that policer entry `i` owns (R233, R234): it is metered and proceeds, or takes a
place in the hold queue, or waits at its ingress while that is full (R236). `wait`: an earlier message waits so. -/
def Dev.judge (d : Dev) (p i : Nat) (s : Staged) (wait : Bool) : Dev × Colour × Gate :=
  let full := d.holdFull i || wait
  if (d.pol i).hold ≠ [] || wait || d.blocked p i s.m then
    if full then (d, s.m.colour, .full)
    else
      let first := (d.pol i).hold.isEmpty && !d.insHolds i && !d.isIl p
      let quota := if first then d.quotaFull i s.m else none
      let d := d.holdMsg p i s
      (match quota with
        | some q => d.quotaWait i q s.m
        | none => d, s.m.colour, .held)
  else
    let (d, c, ok) := d.police p i s.dest s.q s.m false
    if ok then (d, c, .go)
    else if full then (d, c, .full)
    else (d.holdMsg p i { s with m := { s.m with colour := c } } true, c, .held)

/-! ### Link credit withheld (R36, R182, R236, R406) -/

/-- A bit mask of classes. -/
def clsMask (f : Cls → Bool) : BitVec 8 :=
  BitVec.ofNat 8 (([.req, .rwd, .snp, .rsp, .drs, .ion, .iop, .ioc].filter f).foldl (fun a (c : Cls) => a + 2 ^ c.code) 0)

/-- The classes held at the ingress in Quiesce and behind a full hold queue, and on an interlink all that share their
channels (R36, R236). -/
def Dev.heldClasses (d : Dev) (p : Nat) : Cls → Bool
  | .req | .rwd | .ion | .iop => true
  | .ioc => d.isIl p
  | .snp | .rsp | .drs => false

/-- A policer entry whose hold queue is full holds or keeps out a message of port `p` (R236). -/
def Dev.holdBlocks (d : Dev) (p : Nat) : Bool :=
  d.sw.pols.any fun x => match x.2 with
    | some y => d.holdFull x.1 && (y.hold.any fun s => decide (s.ing.map (·.val) = some p))
    | none => false

/-- A message of class `c` of port `p` has committed and waits for its egress buffer, for cells, for a lock, or for room among
the events of its source (R77, R182, R189, R409, R410). -/
def Dev.stagingHolds (d : Dev) (p : Nat) (c : Cls) : Bool :=
  let mine (s : Staged) : Bool := decide (s.ing.map (·.val) = some p) && decide (s.m.cls = c)
  d.sw.staged.any mine || (d.bld.folds.any fun f => f.2.held.any mine) || d.brg.waiters.any mine ||
    ((d.brg.lock.bind (·.toFwd)).any mine) || (decide (c = .iop) && decide (32 ≤ (d.prt p).events.length))

/-- A port holds its release while 4,096 of its messages have not completed (R406). -/
def Dev.relFull (d : Dev) (p : Nat) : Bool := decide (4096 ≤ (d.prt p).rel - (d.prt p).done)

/-- The classes for which port `p` withholds link credit: in Quiesce (R36), behind a full hold queue (R236), those whose
staging holds a message (R77, R182), and all of them at the limit of R406. -/
def Dev.withholds (d : Dev) (p : Nat) : BitVec 8 :=
  clsMask fun c => ((decide (d.mode = .quiesce) || d.holdBlocks p) && d.heldClasses p c) || d.stagingHolds p c ||
    d.relFull p

/-- Interlink port `p` gives back the credit it owes on the channels whose classes it does not withhold (R130). -/
def Dev.ilGive (d : Dev) (p : Nat) : Dev :=
  let r := d.ilRt p
  let w := d.withholds p
  let hold (v : Nat) : Bool := (List.range 8).any fun c => w.getLsbD c && vcOf c == v
  d.setIl p { r with
    freed := (List.range 6).map fun v => if hold v then six r.freed v else (six r.freed v + six r.owed v) % 65536
    owed := (List.range 6).map fun v => if hold v then six r.owed v else 0 }

/-! ### Egress link credit (R22, R130, R221) -/

/-- The messages that hold a reservation of stage 4 on the egress link of port `p`. -/
def Dev.linkHeld (d : Dev) (p : Nat) : List Msg :=
  let here (x : Dest) : Bool := match x with | .port e => e.val == p | _ => false
  ((d.sw.pipe.filter fun x => x.resv && here x.dest).map (·.m)) ++ ((d.sw.staged.filter fun x => x.resv && here x.dest).map (·.m))

/-- Whether the egress link of port `p` has credit for a message beside what is reserved: an interlink's own count (R130),
else what the link last offered for its class. -/
def Dev.credit (d : Dev) (p : Nat) (m : Msg) : Bool :=
  if d.isIl p then
    let r := d.ilRt p
    let v := vcOf m.cls.code
    let waiting := (r.txq.filter fun s => s.vc.toNat == v).length
    let held := ((d.linkHeld p).filter fun x => vcOf x.cls.code == v).foldl (fun a x => a + ilSlots x) 0
    decide ((six r.sent v + waiting + 65536 - six r.returned v) % 65536 + held + ilSlots m ≤ six r.limit v)
  else decide (((d.linkHeld p).filter fun x => decide (x.cls = m.cls)).length < six (d.prt p).link m.cls.code)

/-! ### The order of messages of one port (R78, R166, R400) -/

/-- `y`, earlier from the same ingress, keeps `x` behind it: a message of its class, and on CXL.io as R400 orders. -/
def blocksOrder (y x : Msg) : Bool :=
  let io (m : Msg) : Bool := match m.cls with | .ion | .iop | .ioc => true | _ => false
  match x.cls with
  | .iop => y.cls = .iop
  | .ion | .ioc => io y
  | c => y.cls = c

/-! ### The release of a slot -/

/-- Classes whose messages cut through (R176), and header-early I/O, reserve an egress slot and link credit at stage 4
(R22, R178). -/
def cutThrough (c : Cls) (heIo : Bool) : Bool :=
  match c with
  | .ion | .iop | .ioc => heIo
  | _ => true

/-- The message of port `p` whose next slot an arriving slot of this class continues (R177). -/
def Dev.unfinished (d : Dev) (p : Nat) (c : Cls) : Option PMsg :=
  d.sw.pipe.find? fun x => x.port.val == p && x.more != 0 && vcOf x.m.cls.code == vcOf c.code

/-- The next slot of a message in the pipeline, in flit `flit`. -/
def Dev.nextSlot (d : Dev) (x : PMsg) (flit : Nat) (crc : Bool) : Dev :=
  let y : PSlot := { id := d.sw.nextId, flit := flit, want := d.outsOf (x.port.val / 8) x.dest x.m, crc := crc, done := false }
  { d with sw := { d.sw with
    nextId := d.sw.nextId + 1
    pipe := d.sw.pipe.map fun z => if z.id = x.id then { z with more := z.more - 1, slots := z.slots ++ [y] } else z } }

/-- R22: the first slot of a message with `more` further ones runs stages 1 to 4. -/
def Dev.firstSlot (d : Dev) (p : Fin 64) (flit : Nat) (crc : Bool) (dec : Decode) (m : Msg) (more : Nat) (ecrc : Bool) : Dev :=
  let (d, m, seqd) := d.stage1 p.val m
  let r := d.destOf p.val dec m
  let (x, m) := (r.dest, r.m)
  let io := match m.cls with | .ion | .iop | .ioc => true | _ => false
  let heIo := io && d.bit F.TIL_PCFG.IO_HE p.val
  let egress := match x with | .port e => d.credit e.val m | _ => false
  let home := match x with | .slice _ _ => m.cls == .req || m.cls == .rwd | _ => false
  let rel := (d.prt p.val).rel + 1
  let id := d.sw.nextId
  let s : Staged := { ing := some p, dest := x, m := m, rel := rel, id := id, q := d.queueFor x m, tile := Fin.ofNat 8 (p.val / 8), spec := true }
  let pol := match x with | .answer _ => none | _ => d.polFor p.val m
  let (d, c, g) := match pol with
    | some i => d.judge p.val i s (d.holdWait i)
    | none => (d, m.colour, .go)
  let m := { m with colour := c }
  let y : PSlot := { id := id, flit := flit, want := d.outsOf (p.val / 8) x m, crc := crc, done := false }
  let z : PMsg :=
    { port := p, rel := rel, m := m, dest := x, q := s.q, seqd := seqd, cls7 := d.strict x m, heIo := heIo,
      resv := egress && cutThrough m.cls heIo, look := home, pol := pol, gate := g, viol := r.viol, more := more, slots := [y], ecrc := ecrc }
  ({ d with sw := { d.sw with pipe := d.sw.pipe ++ [z], nextId := id + 1 } }).setPrt p.val { d.prt p.val with rel := rel }

/-- R22, R23: port `p` releases a slot to the core: the next one of a message it has begun, or the header of another with
`more` further slots. `crc`: the verdict of its flit has passed. -/
def Dev.ingress (d : Dev) (p : Fin 64) (flit : Nat) (crc : Bool) (dec : Decode) (m : Msg) (more : Nat) (ecrc : Bool) : Dev :=
  if !d.carries p.val then d
  else match d.unfinished p.val m.cls with
    | some x => d.nextSlot x flit crc
    | none =>
      if d.relFull p.val then d
      else d.firstSlot p flit crc dec m more ecrc

end Sys2Proof.Machine
end

