-- ==== Sys2Proof/Machine/Ingress.lean ====
section
/-!
DEFINITION. The crossbar (R31, R32), the commit of slots (R24, R25), and what the commit of a message brings about at its
destination: the C64's own answers and functions, the tollgate, the fold engine, the bridge, hold queues, and staging toward
an egress port.
-/

namespace Sys2Proof.Machine

/-! ### The crossbar (R15, R31, R32) -/

/-- A request at a crossbar output: its input tile, whether it carries class 7 traffic, and who raises it: a slot of the
pipeline, or the `k`th staged message. -/
structure XReq where
  tile   : Nat
  strict : Bool
  slot   : Option Nat
  k      : Nat
  deriving DecidableEq, Repr

/-- Output `o` has room for a message now: cells of the egress buffer (R181, R182), those of the auxiliary partition for a
multicast copy (R189), or none are needed. -/
def Dev.admits (d : Dev) (o : Nat) (s : Staged) : Bool :=
  let live (e : Nat) : Bool := (d.prt e).up || (d.prt e).layover
  match s.dest with
  | .port e => !live e.val || s.celled || d.fitsBuffer o s.q s.m
  | .mcast _ => !((d.members s.m).any fun e => e / 8 == o && live e) || d.auxCan o .straggler s.m.cells
  | _ => true

/-- The same for a message of the pipeline; one bound for a hold queue takes its cells whole (R235). -/
def Dev.admitsMsg (d : Dev) (o : Nat) (x : PMsg) : Bool :=
  match x.gate with
  | .go => d.admits o x.staged
  | .held => d.fitsCells (x.dest.tile (some x.port)) x.m.cls x.m.cells
  | .full => false

/-- A staged message's request carries class 7 traffic (R31). -/
def Dev.strictStaged (d : Dev) (s : Staged) : Bool :=
  match s.dest with
  | .port _ => s.q / 32 % 8 == 7
  | x => d.strict x s.m

/-- The requests raised at output `o` that it can grant: a request from or to a sleeping tile waits (R535), and one whose
message finds no room (R182). -/
def Dev.requests (d : Dev) (o : Nat) : List XReq :=
  if !d.awake o then []
  else
    ((d.sw.pipe.filter fun x => d.awake (x.port.val / 8) && d.admitsMsg o x).flatMap fun x =>
      (x.slots.filter fun y => !y.done && y.want.contains o).map fun y =>
        { tile := x.port.val / 8, strict := x.cls7, slot := some y.id, k := 0 }) ++
    (List.range d.sw.staged.length).filterMap fun k => match d.sw.staged[k]? with
      | some s => if s.want.contains o && d.awake s.tile.val && d.admits o s then
          some { tile := s.tile.val, strict := d.strictStaged s, slot := none, k := k }
        else none
      | none => none

/-- The request that output `o` grants: class 7 first, then the input tile at or after the rotating pointer. -/
def Dev.winner (d : Dev) (o : Nat) : Option XReq :=
  let req := d.requests o
  let pool := if req.any (·.strict) then req.filter (·.strict) else req
  let ptr := d.sw.xptr.get 0 o
  (List.range 8).findSome? fun k => pool.find? fun x => x.tile == (ptr + k) % 8

/-- The grant of output `o` goes to a request, which holds it from then on. -/
def Dev.grantTo (d : Dev) (o : Nat) (x : XReq) : Dev :=
  match x.slot with
  | some i => { d with sw := { d.sw with pipe := d.sw.pipe.map fun z => { z with slots := z.slots.map fun y =>
      if y.id = i then { y with want := y.want.erase o } else y } } }
  | none => { d with sw := { d.sw with staged := d.sw.staged.modify x.k fun s => { s with want := s.want.erase o } } }

/-- One grant of output `o`; its pointer advances past the winner. -/
def Dev.grantOut (d : Dev) (o : Nat) : Dev :=
  match d.winner o with
  | none => d
  | some x => ({ d with sw := { d.sw with xptr := d.sw.xptr.put 0 o ((x.tile + 1) % 8) } }).grantTo o x

/-! ### Answers and functions of the C64 -/

/-- A bridge fault of R419. -/
def Dev.brgFault (d : Dev) (k : Kind) (bit : Fld) (p cause req : Nat) : Dev :=
  (d.set bit).raise k (uTile (p / 8) 0x15) p (p + cause * 256 + req * 4096)

/-- What stages 1 to 3 answer themselves. -/
def Dev.answerWhy (d : Dev) (p : Nat) (m : Msg) (w : Why) : Dev :=
  match w with
  | .miss => d.routeMiss p m
  | .malformed => d.malformed p m
  | .ur =>
    let d := if m.op = .mRdLk && d.isTarget p then d.brgFault .brgMalformed F.BRG_ERR.MALFORMED p 2 0 else d
    if m.cls = .ion then d.answer (p / 8) m (.cpl .ur) else d
  | .access =>
    let d := match m.inst with
      | some i => (d.insFault .instAccess F.INS.ACCESS i.val 1024).count (cDev 29)
      | none => d
    d.answer (p / 8) m (.cmp .i)
  | .badMca => d.brgFault .brgMalformed F.BRG_ERR.MALFORMED p 1 0
  | .lost => d.lostAnswer (uTile (p / 8) 0x10) p m
  | .uncached =>
    match m.op with
    | .rdS | .rdA => d.answer (p / 8) m (.data .i) 0 true
    | _ => d.answer (p / 8) m (.cmp .i)

/-- The word of a configuration register of host port `p` (R107, R172, R260, R264). -/
def Dev.cfgWord (d : Dev) (p : Nat) (r : CfgReg) : Nat :=
  match r with
  | .vppbCmd v => (d.vppbRt p v.val).cmd.toNat
  | .vppbBus v => (d.vppbRt p v.val).bus.toNat
  | .vppbMem v => (d.vppbRt p v.val).mem.toNat
  | .vppbPref v => (d.vppbRt p v.val).pref.toNat
  | .vppbPrefBase v => (d.vppbRt p v.val).prefBase.toNat
  | .vppbPrefLimit v => (d.vppbRt p v.val).prefLimit.toNat
  | .vppbSlot v =>
    let x := d.vppbRt p v.val
    let full := v.val = 0 || d.get F.TIL_VPPB.STATE (p * 32 + v.val) ≥ 2
    (if x.pdc then 8 else 0) + (if full then 64 else 0) + (if x.dlsc then 256 else 0)
  | .portIdentity w =>
    match w.val with
    | 1 => Config.vendorId.toNat + 0x18 * 2 ^ 20
    | 2 => 0x0010
    | 3 => d.get F.PIDV.IDENT p % 2 ^ 32
    | 4 => d.get F.PIDV.IDENT p / 2 ^ 32
    | 5 => d.get F.PIDV.VALID p
    | _ => (Config.free 0).toNat
  | .fwdExt w =>
    match w.val with
    | 1 => Config.vendorId.toNat + 0x1C * 2 ^ 20
    | 2 => 0x0011
    | 3 => d.get F.FWDV.SUPPORTED p + d.get F.FWDV.VERSION p * 16
    | 4 => d.get F.FWDV.OPC_FWD_SNP p + d.get F.FWDV.OPC_F_DATA p * 2 ^ 8 + d.get F.FWDV.OPC_FWD_DATA p * 2 ^ 16 +
        d.get F.FWDV.OPC_FWD_NACK p * 2 ^ 24
    | 5 => d.get F.FWDV.ENABLE p
    | 6 => d.get F.FWDV.ACTIVE p + d.get F.FWDV.OPC_ERR p * 2
    | _ => (Config.free 1).toNat
  | .dpaSize w => if w.val = 0 then 0 else 2 ^ 14

/-- A 32-bit write to a configuration register of host port `p`: the header words of a vPPB take it, its slot status clears
the change bits that it names, the identity and opcode words take it, and the rest is read only or has a command of its own
(R107, R172, R264). DESIGN CHOICE, unsafe: log entry 8. -/
def Dev.cfgWrite (d : Dev) (p : Nat) (r : CfgReg) (v : BitVec 32) : Dev :=
  let at_ (u : Fin 32) (f : VppbRt → VppbRt) : Dev := d.setVppb (p * 32 + u.val) (f (d.vppbRt p u.val))
  match r with
  | .vppbCmd u => at_ u fun x => { x with cmd := v }
  | .vppbBus u => at_ u fun x => { x with bus := v }
  | .vppbMem u => at_ u fun x => { x with mem := v }
  | .vppbPref u => at_ u fun x => { x with pref := v }
  | .vppbPrefBase u => at_ u fun x => { x with prefBase := v }
  | .vppbPrefLimit u => at_ u fun x => { x with prefLimit := v }
  | .vppbSlot u => at_ u fun x => { x with pdc := x.pdc && !v.getLsbD 3, dlsc := x.dlsc && !v.getLsbD 8 }
  | .portIdentity w =>
    let id := d.get F.PIDV.IDENT p
    if w.val = 3 then d.put F.PIDV.IDENT p (id / 2 ^ 32 * 2 ^ 32 + v.toNat)
    else if w.val = 4 then d.put F.PIDV.IDENT p (v.toNat * 2 ^ 32 + id % 2 ^ 32)
    else d
  | .fwdExt w =>
    if w.val = 4 then
      (((d.put F.FWDV.OPC_FWD_SNP p v.toNat).put F.FWDV.OPC_F_DATA p (v.toNat / 2 ^ 8)).put F.FWDV.OPC_FWD_DATA p
        (v.toNat / 2 ^ 16)).put F.FWDV.OPC_FWD_NACK p (v.toNat / 2 ^ 24)
    else d
  | .dpaSize _ => d

/-- The little-endian number of a payload's first four bytes. -/
def le32 (b : List (BitVec 8)) : BitVec 32 := BitVec.ofNat 32 ((b.take 4).foldr (fun x a => x.toNat + 256 * a) 0)

/-- A function of the C64 completes a request. What its standard registers hold lies outside the spec.
DESIGN CHOICE, unsafe: log entry 8. -/
def Dev.ownAnswer (d : Dev) (p : Nat) (m : Msg) : Dev :=
  let free (n : Nat) : Dev :=
    let (k, d) := d.fresh
    d.answer (p / 8) m (.cplD .sc) (pay := bytes n (Config.free k).toNat)
  match m.op with
  | .mRd | .mRdLk => free 64
  | .ioRd | .cfgRd => free 4
  | .atomic => free 8
  | .ioWr | .cfgWr => d.answer (p / 8) m (.cpl .sc)
  | _ => d

/-- A request to a configuration register of host port `p`. -/
def Dev.cfgAnswer (d : Dev) (p : Nat) (r : CfgReg) (m : Msg) : Dev :=
  match m.op with
  | .cfgRd => d.answer (p / 8) m (.cplD .sc) (pay := bytes 4 (d.cfgWord p r))
  | .cfgWr => (d.cfgWrite p r (le32 m.pay)).answer (p / 8) m (.cpl .sc)
  | _ => d.ownAnswer p m

/-- R263: the host writes the window device's back-invalidation enable for its virtual hierarchy. -/
def Dev.enableBi (d : Dev) (p : Nat) (on : Bool) (m : Msg) : Dev :=
  match m.op with
  | .cfgWr | .mWr =>
    if d.isHost p then { d with coh := { d.coh with biEn := if on then addHost d.coh.biEn p else dropHost d.coh.biEn p } } else d
  | _ => d

/-- A message reaches a tollgate: a host's answer or a target's response on lane R, writes on lane W, other requests on
lane Q (R271, R277, R279). A dead host's messages are discarded (R321). A request of a kind outside R274 is malformed. -/
def Dev.toSlice (d : Dev) (p rel t : Nat) (uncached : Bool) (m : Msg) : Dev :=
  if d.isHost p && d.dead p then d
  else if d.tileFenced t then d.lostAnswer (uTile (p / 8) 0x10) p m else
  let s := d.slice t
  let o : TOp := { m := m, host := p, local_ := d.isHost p, tile := p / 8, uncached := uncached, fold := none }
  match m.op with
  | .biConflict => { d with coh := { d.coh with conflicts := d.coh.conflicts ++ [(p, lineOf m.addr.toNat)] } }
  | .biRsp _ | .fwdData | .fwdNack => d.hostAnswer p rel m
  | .wrI | .wrS | .wrA | .cln => d.setSlice t { s with w := s.w ++ [o] }
  | .rdS | .rdA | .rdI | .invA => d.setSlice t { s with q := s.q ++ [o] }
  | _ =>
    match m.cls with
    | .rsp | .drs => d.setSlice t { s with r := s.r ++ [{ host := none, port := p, m := m, line := lineOf m.addr.toNat }] }
    | _ => d.malformed p m

/-! ### The destination of a message past stage 3 -/

/-- Stage a message of an ingress port that leaves this C64 (R169). -/
def Dev.stageOut (d : Dev) (s : Staged) : Dev :=
  { d with sw := { d.sw with staged := d.sw.staged ++ [{ s with m := { s.m with hops := s.m.hops + 1 }, want := [], spec := false }] } }

/-- R188, R52: a multicast message commits: on the root it takes the next GSEQ; elsewhere it came from the root. -/
def Dev.mcastIn (d : Dev) (s : Staged) : Dev :=
  let g := s.m.dst.toNat
  if d.bit F.TIL_MCAST.ROOT g then
    let n := d.get F.TIL_MCAST.GSEQ g
    (d.put F.TIL_MCAST.GSEQ g (n + 1)).stageOut { s with m := { s.m with gseq := BitVec.ofNat 32 n } }
  else (d.put F.TIL_MCAST.GSEQ g s.m.gseq.toNat).stageOut s

/-- Take a message that has passed stage 3 to its destination. Messages for a tollgate or a function complete here (R406); a
contribution stays at the ingress until the engine takes it (R77). -/
def Dev.place (d : Dev) (s : Staged) : Dev :=
  let p := s.ing.getD 0
  let d := if s.m.mcast && !d.isIl p.val then d.count (cTile (p.val / 8) 16) else d
  match s.dest with
  | .port _ => d.stageOut s
  | .mcast _ => d.mcastIn s
  | .slice t u => (d.toSlice p.val s.rel t.val u s.m).ends s
  | .fold f => { d with bld := { d.bld with inq := d.bld.inq ++ [(f.val, s)] } }
  | .own _ => (d.ownAnswer p.val s.m).ends s
  | .cfg r => (d.cfgAnswer p.val r s.m).ends s
  | .biEn on => ((d.enableBi p.val on s.m).ownAnswer p.val s.m).ends s
  | .answer w => (d.answerWhy p.val s.m w).ends s

/-- A message proceeds past policer entry `i`; a request of an instance is admitted under its current generation (R367, R375,
R385). -/
def Dev.proceed (d : Dev) (i : Nat) (s : Staged) : Dev :=
  if d.isIl (s.ing.getD 0).val then d.place s
  else
    let m := { s.m with gen := BitVec.ofNat 16 (d.get F.INS.GEN i) }
    (d.insAdmit i m).place { s with m := m }

/-! ### The bridge at the ingress (R406, R408, R410 to R417) -/

/-- An Unlock without the token: a former holder's is ignored (R413), another's is FK_BRG_MALFORMED. -/
def Dev.lateUnlock (d : Dev) (p : Nat) : Dev :=
  if d.brg.former.any (fun f => f.val == p) then
    { d with brg := { d.brg with former := d.brg.former.filter fun f => f.val != p } }
  else d.brgFault .brgMalformed F.BRG_ERR.MALFORMED p 3 0

/-- The Unlock of host port `p`: the holder's is forwarded at level 2, then the token is free. -/
def Dev.unlockFrom (d : Dev) (p : Nat) : Dev :=
  match d.brg.lock with
  | some l =>
    if l.holder.val = p then
      let d := { d with brg := { d.brg with lock := none } }
      if l.level = 2 then d.emit (p / 8) { op := .unlock, dst := d.edgeOf l.target.val, src := d.edgeOf p } else d
    else d.lateUnlock p
  | none => d.lateUnlock p

/-- The completion of a tracked request has arrived (R414). -/
def Dev.gotCpl (d : Dev) (p : Nat) (m : Msg) : Dev :=
  { d with brg := { d.brg with trks := d.brg.trks.map fun (k : CplTrk) =>
      if k.port.val = p && k.src == m.dst && k.tag == m.tag then { k with got := true } else k } }

/-- The port whose request an answer that enters at port `p` belongs to, and the request: for an interlink, of any of them
that handed it to a partner. -/
def Dev.askedAt (d : Dev) (p : Nat) (m : Msg) : Option (Nat × Msg) :=
  if !Op.answers m.op then none
  else
    let ports := if d.isIl p then p :: (List.range 64).filter d.isIl else [p]
    ports.findSome? fun q => (d.asked q m).map fun r => (q, r)

/-- The request of R199 that an answer at port `p` comes too late for, and the port it was flushed from. -/
def Dev.lateFor (d : Dev) (p : Nat) (m : Msg) : Option (Nat × Msg) :=
  if !Op.answers m.op then none
  else
    let ports := if d.isIl p then p :: (List.range 64).filter d.isIl else [p]
    ports.findSome? fun q => ((d.sw.lost.get [] q).find? fun r => r.src == m.dst && r.tag == m.tag).map fun r => (q, r)

/-- Whether an answer of port `p`'s partner must match an outstanding request. -/
def Dev.mustMatch (d : Dev) (p : Nat) (x : Dest) (m : Msg) : Bool :=
  !d.isIl p && match m.op, x with
    | .cpl _, _ => true
    | .cplD _, _ => true
    | .cmp _, .slice _ _ => false
    | .data _, .slice _ _ => false
    | .cmp _, _ => true
    | .data _, _ => true
    | _, _ => false

/-- An answer of port `p`'s partner that no outstanding request asked for: discarded (R415, R417). -/
def Dev.lateAnswer (d : Dev) (p : Nat) (m : Msg) : Dev :=
  if m.cls = .ioc && d.isTarget p then
    match d.brg.late.find? fun k => k.port.val == p && k.src == m.dst && k.tag == m.tag with
    | some k => ({ d with brg := { d.brg with late := d.brg.late.erase k } }).count (cTile (p / 8) 15)
    | none =>
      if d.bit F.BRG_CTL.CPL_TRACK then d.brgFault .brgMalformed F.BRG_ERR.MALFORMED p 4 m.dst.toNat
      else d.count (cTile (p / 8) 7)
  else d.count (cTile (p / 8) 7)

/-- A message that the bridge takes out of the stream: whether it does, and the device after it, none while it must
wait. -/
inductive Caught where
  | no | stays | took (d : Dev)

/-- R406, R408, R415: wires and error messages of a target port become events, stamped with their own release number. -/
def Dev.catchTarget (d : Dev) (p rel : Nat) (m : Msg) : Caught :=
  let room := decide ((d.prt p).events.length < 32)
  match m.op with
  | .intx pin set => if room then .took (d.ariseAt p rel (.intx pin set)) else .stays
  | .errMsg sev =>
    if !room then .stays
    else
      let open_ := d.brg.trks.any fun k => k.port.val == p && k.src == m.dst && k.tag == m.tag
      let d := if open_ && d.boundTo (d.edgeOf p) ≠ [] then d else d.brgFault .brgFarErr F.BRG_ERR.FAR_ERR p 3 m.dst.toNat
      .took (d.ariseAt p rel (.err sev))
  | _ => .no

/-- R410 to R413: Unlock and MRdLk of a host port, and what waits for a lock at the ingress. -/
def Dev.catchHost (d : Dev) (p : Fin 64) (s : Staged) : Caught :=
  let mine := match d.brg.lock with
    | some l => l.holder == p
    | none => false
  let atFn := match d.brg.lock, s.dest with
    | some l, .own f => l.level == 1 && l.fn == some f && l.holder != p
    | _, _ => false
  match s.m.op with
  | .unlock => .took ((d.unlockFrom p.val).ends s)
  | _ =>
    if s.m.cls = .ion && d.brg.waiters.any (fun w => w.ing == some p) then .stays
    else if (s.m.cls = .ion || s.m.cls = .iop) && atFn then .stays
    else match s.m.op, s.dest with
      | .mRdLk, .answer _ => .no
      | .mRdLk, _ => if mine then .no else .took { d with brg := { d.brg with waiters := d.brg.waiters ++ [s] } }
      | _, _ => .no

/-! ### Commit (R24, R25) -/

/-- R415 cause 0x2: the completion of request `q` fails its ECRC: discarded, and answered with Completer Abort. -/
def Dev.badEcrc (d : Dev) (p : Nat) (q : Msg) : Dev :=
  let d := { d with brg := { d.brg with trks := d.brg.trks.filter fun (k : CplTrk) =>
    !(k.port.val == p && k.src == q.src && k.tag == q.tag) } }
  (d.answer (p / 8) q (.cpl .ca)).brgFault .brgFarErr F.BRG_ERR.FAR_ERR p 2 q.src.toNat

/-- R285: a request that only an uncached one may take the place of is logged with its line. -/
def Dev.logViol (d : Dev) (x : PMsg) : Dev :=
  if x.viol then d.cohFault .cohProtocol F.DIR_ERR.COH_PROTOCOL (x.port.val / 8) x.port.val (addrOf (lineOf x.m.addr.toNat)) else d

/-- What the commit of a message does past stage 3: it proceeds to its destination, or its descriptor in the hold queue of
its policer entry is ready and holds its cells (R235). None while those find no room (R182). -/
def Dev.settleMsg (d : Dev) (x : PMsg) : Option Dev :=
  match x.pol, x.gate with
  | some i, .held =>
    if !d.fitsCells (x.dest.tile (some x.port)) x.m.cls x.m.cells then none
    else
      let y := d.pol i
      let d := d.setPol i { y with hold := y.hold.map fun h =>
        if h.spec && h.id = x.id then { h with spec := false, celled := true } else h }
      some (d.leaves (some x.port) x.m)
  | some i, _ => some (d.proceed i x.staged)
  | none, _ => some (d.place x.staged)

/-- The message that an answer's outstanding request makes of it: the request is answered (R199), and an ION's completion
has arrived (R414). -/
def Dev.closeAsked (d : Dev) (p : Nat) (q : Nat × Msg) (m : Msg) : Dev :=
  let d := d.setOutst q.1 ((d.outst q.1).erase q.2)
  if d.isIl p then d else d.gotCpl p m

/-- A CXL.io message whose ECRC fails (R91): a target's completion as R415 says, any other as malformed.
DEDUCED, unsafe: log entry 28. -/
def Dev.ecrcFail (d : Dev) (p : Nat) (q : Option (Nat × Msg)) (m : Msg) : Dev :=
  if m.cls = .ioc && d.isTarget p then d.badEcrc p ((q.map (·.2)).getD m) else d.malformed p m

/-- The last slot of a message has committed: it leaves the pipeline for its destination, mirrored at its ingress (R193).
None while it must wait at the ingress. -/
def Dev.deliver (d : Dev) (x : PMsg) : Option Dev :=
  let p := x.port
  let m := x.m
  let s := x.staged
  let d := ({ d with sw := { d.sw with pipe := d.sw.pipe.filter fun y => y.id != x.id } }).mirror p.val false m
  match d.askedAt p.val m, d.lateFor p.val m with
  | none, some q =>
    some ((({ d with sw := { d.sw with lost := d.sw.lost.put [] q.1 ((d.sw.lost.get [] q.1).erase q.2) } }).count
      (cTile (p.val / 8) 7)).ends s)
  | asked, _ =>
    if d.mustMatch p.val x.dest m && asked.isNone then some ((d.lateAnswer p.val m).ends s)
    else
      let d := match asked with
        | some q => d.closeAsked p.val q m
        | none => d
      if x.ecrc && !d.isIl p.val && (match m.cls with | .ion | .iop | .ioc => true | _ => false) then
        some ((d.ecrcFail p.val asked m).ends s)
      else
        let c := if d.isTarget p.val then d.catchTarget p.val x.rel m else if d.isIl p.val then .no else d.catchHost p s
        match c with
        | .stays => none
        | .took d => some (if d.isTarget p.val then d.ends s else d)
        | .no => (d.logViol x).settleMsg x

/-- The message and the slot with a number. -/
def Dev.slotOf (d : Dev) (id : Nat) : Option (PMsg × PSlot) :=
  d.sw.pipe.findSome? fun x => (x.slots.find? fun y => y.id == id).map fun y => (x, y)

/-- Replace a message of the pipeline. -/
def Dev.setMsg (d : Dev) (x : PMsg) : Dev :=
  { d with sw := { d.sw with pipe := d.sw.pipe.map fun y => if y.id = x.id then x else y } }

/-- The verdicts of a port come flit by flit: no earlier slot of another flit waits for its own. -/
def Dev.verdictDue (d : Dev) (p : Nat) (y : PSlot) : Bool :=
  (d.openSlots p).all fun z => decide (y.id ≤ z.id) || z.flit == y.flit

/-- An earlier slot of the port, of a message that shares an output with `x` and that `x` keeps behind, has not committed. -/
def Dev.behind (d : Dev) (x : PMsg) (y : PSlot) : Bool :=
  let outs (z : PMsg) : List Nat := d.outsOf (z.port.val / 8) z.dest z.m
  d.sw.pipe.any fun z => z.port == x.port && blocksOrder z.m x.m && (outs z).any (fun o => (outs x).contains o) &&
    z.slots.any fun w => !w.done && decide (w.id < y.id)

/-- R52: of writes to one group that are ready on one edge, that of the lower ingress tile commits first. -/
def Dev.tied (d : Dev) (x : PMsg) : Bool :=
  match x.dest with
  | .mcast g => d.sw.pipe.any fun z => decide (z.dest = .mcast g) && decide (z.port.val / 8 < x.port.val / 8) && z.more == 0 &&
      z.slots.all fun w => w.done || (w.crc && w.want.isEmpty)
  | _ => false

/-- A message that waits at its ingress for a place in a hold queue is judged again once one may be free (R235, R236); with
no places at all, it proceeds when its colour's test passes. One whose instance has begun to hold its requests since joins its
hold queue (R368, R373). -/
def Dev.rejudge (d : Dev) (x : PMsg) : Dev × PMsg :=
  match x.pol with
  | none => (d, x)
  | some i =>
    let first := (d.sw.pipe.find? fun z => z.pol == some i && decide (z.gate = .full)).map (·.id) == some x.id
    let again (wait : Bool) : Dev × PMsg :=
      let (d, c, g) := d.judge x.port.val i { x.staged with spec := true } wait
      (d, { x with gate := g, m := { x.m with colour := c } })
    if x.gate = .go && !d.isIl x.port.val && d.insHolds i then again (d.holdWait i)
    else if x.gate ≠ .full || !first then (d, x)
    else if d.holdMax i = 0 then
      if d.blocked x.port.val i x.m then (d, x)
      else if !d.bit F.POL.EN i then (d, { x with gate := .go, m := { x.m with colour := .green } })
      else if d.passes x.m.colour x.dest x.q then (d, { x with gate := .go })
      else (d, x)
    else if d.holdFull i then (d, x)
    else again false

/-- A slot holds a passing verdict or gets one, with its flit, with `verdict`; it commits once it also holds its grants, in
the order of its port (R25). The last slot of a message takes it to its destination (R177). -/
def Dev.commitSlot (d : Dev) (id : Nat) (verdict : Bool) : Dev :=
  match d.slotOf id with
  | none => d
  | some (x, y) =>
    let d := if verdict && d.verdictDue x.port.val y then d.passFlit x.port.val y.flit else d
    let (d, x) := d.rejudge ((d.slotOf id).getD (x, y)).1
    let d := d.setMsg x
    match x.slots.find? fun y => y.id == id with
    | none => d
    | some y =>
      if y.done || !y.crc || y.want ≠ [] || x.gate = .full || d.behind x y || d.tied x then d
      else
        let x := { x with slots := x.slots.map fun z => if z.id = id then { z with done := true } else z }
        if x.more = 0 && x.slots.all (·.done) then (d.deliver x).getD d else d.setMsg x

end Sys2Proof.Machine
end

