-- ==== Sys2Proof/Machine/Egress.lean ====
section
/-!
DEFINITION. The egress half of the core pipeline: admission to the shared buffer (R180 to R183, R400), multicast copies
(R189, R190), side buffers (R401), the scheduler's selections (R221 to R229), and the hand-off to the egress link layer.
-/

namespace Sys2Proof.Machine

/-! ### Admission -/

/-- Whether a staged message is bound for port `e`. -/
def Dev.reaches (d : Dev) (x : Dest) (e : Nat) : Bool :=
  match x with
  | .port q => q.val == e
  | .mcast g => (d.get F.TIL_MCAST.MEMBERS g.toNat).testBit e
  | _ => false

/-- Whether the `k`th staged message is first in its order toward one of its ports: behind the earlier ones of its ingress
that R400 and R166 keep before it, and behind the earlier writes of its multicast group (R52). -/
def Dev.inOrder (d : Dev) (k : Nat) (x : Staged) (ports : List Nat) : Bool :=
  (d.sw.staged.take k).all fun y =>
    !(decide (y.ing = x.ing) && blocksOrder y.m x.m && ports.any fun e => d.reaches y.dest e) &&
      !(x.m.mcast && y.m.mcast && y.m.dst == x.m.dst)

/-- R411: the lock keeps an ION or IOP from a target port it holds. -/
def Dev.locked (d : Dev) (e : Nat) (x : Staged) : Bool :=
  match d.brg.lock with
  | some l => l.level == 2 && l.target.val == e && (x.m.cls = .ion || x.m.cls = .iop) && x.ing != some l.holder
  | none => false

/-- Remove the `k`th staged message `x`; its ingress holds it no longer. -/
def Dev.unstage (d : Dev) (k : Nat) (x : Staged) : Dev :=
  let d := { d with sw := { d.sw with staged := d.sw.staged.eraseIdx k } }
  if x.celled then d else d.leaves x.ing x.m

/-- Link a message into queue `q` of port `e`. -/
def Dev.enqueue (d : Dev) (e q : Nat) (m : Msg) (ing : Option (Fin 64)) (rel : Nat) (mc : Option Nat) : Dev :=
  let qu := d.queue q
  let x : QMsg := { m := m, ing := ing, rel := rel, mc := mc, adm := d.sw.nextAdm, since := d.clk.ftc, deferred := false }
  let qu := { qu with msgs := qu.msgs ++ [x] }
  let d := ({ d with sw := { d.sw with nextAdm := d.sw.nextAdm + 1 } }).setQueue q qu
  let d := if d.get F.QUEUE.PEAK_CELLS q < qu.cells then d.put F.QUEUE.PEAK_CELLS q qu.cells else d
  if (d.prt e).layover then d.count (cEgress e 16) else d

/-- Cells queued for port `p`, side buffers included (R195). -/
def Dev.portCells (d : Dev) (p : Nat) : Nat :=
  let r := d.prt p
  d.sw.queues.foldl (fun a x => a + match x.2 with
    | some q => if x.1 / 256 = p then q.cells else 0
    | none => 0) 0 + cellsOf (r.sideNp.map (·.2)) + cellsOf (r.sideCpl.map (·.2))

/-- R414: track an ION toward a target port. -/
def Dev.track (d : Dev) (e : Nat) (m : Msg) : Dev :=
  if m.cls = .ion && d.isTarget e && d.bit F.BRG_CTL.CPL_TRACK then
    { d with brg := { d.brg with trks := d.brg.trks ++
      [{ tile := Fin.ofNat 8 (e / 8), src := m.src, tag := m.tag, port := Fin.ofNat 64 e, m := m, got := false }] } }
  else d

/-- No completion tracker is free for an ION toward port `e` (R414). -/
def Dev.trkFull (d : Dev) (e : Nat) (m : Msg) : Bool :=
  m.cls = .ion && d.isTarget e && d.bit F.BRG_CTL.CPL_TRACK &&
    decide (1024 ≤ (d.brg.trks.filter fun k => k.tile.val == e / 8).length)

/-- A port that takes messages: up, or in a layover (R195). -/
def Dev.takes (d : Dev) (e : Nat) : Bool := (d.prt e).up || (d.prt e).layover

/-- Admit the `k`th staged message to port `e`: a route miss where the port has been disabled or fenced since (R170), R640 with
the port down, R195 in a layover, else into its queue. -/
def Dev.admitTo (d : Dev) (k : Nat) (x : Staged) (e : Nat) : Dev :=
  let lost (d : Dev) : Dev := (d.lostAnswer (uTile (e / 8) 0x11) e x.m).doneMsg x.ing x.rel
  let (d, late) := if d.isHost e && (x.m.cls = .rsp || x.m.cls = .drs || x.m.cls = .ioc) then d.insResponse x.m x.squash
    else (d, false)
  if late then ((d.unstage k x).endTrk x.m).doneMsg x.ing x.rel
  else if !d.enabled e || d.portFenced e then ((d.unstage k x).routeMiss e x.m).doneMsg x.ing x.rel
  else if !d.takes e then lost (d.unstage k x)
  else if (d.prt e).layover && decide (d.get F.TIL_PCFG.HOLD_LIMIT e < d.portCells e + (d.queue x.q).adds x.m) then
    lost ((d.unstage k x).flushPort e 3)
  else ((d.unstage k x).track e x.m).enqueue e x.q x.m x.ing x.rel none

/-- The `k`th staged message is admitted to port `e` unless something keeps it: its order, a lock, a tracker, a sleeping tile,
or the floor of its class (R181). -/
def Dev.admitPort (d : Dev) (k : Nat) (x : Staged) (e : Nat) : Dev :=
  if !d.inOrder k x [e] || d.locked e x || d.trkFull e x.m || !d.awake (e / 8) then d
  else if d.takes e && !x.celled && !d.fitsBuffer (e / 8) x.q x.m then d
  else d.admitTo k x e

/-! ### Multicast (R188 to R191) -/

/-- Store one copy in tile `t` for its member ports, and queue a reference at each of them that is up or in a layover. The copy
of a port that is disabled or fenced is a route miss (R170), that of one that is down is answered as lost (R640). -/
def Dev.mcastTile (d : Dev) (x : Staged) (t : Nat) (ports : List Nat) : Dev :=
  let id := d.sw.nextId
  let open_ := ports.filter fun e => d.enabled e && !d.portFenced e
  let live := open_.filter d.takes
  let d := (ports.filter fun e => !open_.contains e).foldl (fun d e => d.routeMiss e x.m) d
  let d := (open_.filter fun e => !d.takes e).foldl (fun d e => d.lostAnswer (uTile t 0x11) e x.m) d
  if live = [] then d
  else
    let c : McCopy := { id := id, tile := Fin.ofNat 8 t, group := x.m.dst, gseq := x.m.gseq, cells := x.m.cells,
                        waiting := live.map (Fin.ofNat 64 ·), started := false, aged := false }
    let d := ({ d with sw := { d.sw with mc := d.sw.mc ++ [c], nextId := id + 1 } }).auxTake t .straggler x.m.cells
    live.foldl (fun d e => d.enqueue e (queueNo e (d.get F.TIL_MCAST.CLASS x.m.dst.toNat) 0) x.m none 0 (some id)) d

/-- R189: take a multicast message once every tile with a member can allocate its cells. -/
def Dev.admitMcast (d : Dev) (k : Nat) (x : Staged) : Dev :=
  let ps := d.members x.m
  let live := ps.filter fun e => d.enabled e && !d.portFenced e && d.takes e
  let tiles := (List.range 8).filter fun t => ps.any fun e => e / 8 == t
  if !d.inOrder k x ps || !tiles.all d.awake then d
  else if !(tiles.all fun t => !(live.any fun e => e / 8 == t) || d.auxCan t .straggler x.m.cells) then d
  else
    (tiles.foldl (fun d t => d.mcastTile x t (ps.filter fun e => e / 8 == t)) (d.unstage k x)).doneMsg x.ing x.rel

/-- A message of the C64's own that ends inside it: a response goes to the tollgate its tag names; a request that has no route is
answered as lost. -/
def Dev.admitOwn (d : Dev) (k : Nat) (x : Staged) : Dev :=
  let d := (d.unstage k x).doneMsg x.ing x.rel
  match x.dest with
  | .answer w => d.answerWhy (x.tile.val * 8) x.m w
  | _ =>
    match x.m.cls with
    | .rsp | .drs => d.toSlice (x.tile.val * 8) 0 (x.m.tag.toNat / 8192) true x.m
    | _ => d

/-- R181: the `k`th staged message is admitted if it holds its grants and nothing keeps it. -/
def Dev.admitStaged (d : Dev) (k : Nat) : Dev :=
  match d.sw.staged[k]? with
  | none => d
  | some x =>
    if x.want ≠ [] then d
    else match x.dest with
      | .port e => d.admitPort k x e.val
      | .mcast _ => d.admitMcast k x
      | _ => d.admitOwn k x

/-- The floor level whose counter counts a wait for admission (R217): RSP and DRS have none. -/
def stallCtr (c : Cls) : Option Nat :=
  match c with
  | .req | .rwd | .ion => some 2
  | .snp => some 3
  | .iop | .ioc => some 4
  | .rsp | .drs => none

/-- The counters of CORE_ADMIT_STALL whose condition holds: a crossbar request, or a message past it, waits for the floor of its
class in an egress tile (R217). -/
def Dev.stallKeys (d : Dev) : List Nat :=
  ((d.sw.pipe.filter fun x => decide (x.gate ≠ .full)).map PMsg.staged ++ d.sw.staged).filterMap fun s =>
    match s.dest with
    | .port e =>
      if d.takes e.val && !s.celled && !d.fitsBuffer (e.val / 8) s.q s.m then (stallCtr s.m.cls).map (cTile (e.val / 8)) else none
    | _ => none

/-! ### Credit and eligibility (R221) -/

/-- The class of a queue number. -/
def qClass (q : Nat) : Nat := q / 32 % 8

/-- STATE.HOLD of queue `q` (R249): 0 not held or empty, 1 link credit, 2 shaper, 3 gate. -/
def Dev.qHold (d : Dev) (q : Nat) : Nat :=
  let x := d.queue q
  let p := q / 256
  match x.msgs with
  | [] => 0
  | h :: _ =>
    if !d.credit p h.m then 1
    else if d.bit F.QUEUE.SHAPE_EN q && decide (x.tokens < 0) then 2
    else if !d.fits p (qClass q) h.m.blocks then 3
    else 0

/-- R221. -/
def Dev.eligible (d : Dev) (q : Nat) : Bool := (d.queue q).msgs ≠ [] && d.qHold q == 0

/-- The queues of port `p` that hold messages, in increasing number. -/
def Dev.busyQueues (d : Dev) (p : Nat) : List Nat :=
  d.sw.queues.filterMap fun x => match x.2 with
    | some q => if x.1 / 256 = p && !q.msgs.isEmpty then some x.1 else none
    | none => none

/-- R224, R225: note a queue's eligibility, raising its tag when it becomes eligible. -/
def Dev.noteQueue (d : Dev) (q : Nat) : Dev :=
  let x := d.queue q
  let e := d.eligible q
  let vt := BitVec.ofNat 32 (d.get F.SCH_PORT_VT.VT (q / 256))
  let x := if e && !x.elig && qClass q != 7 && (x.stale || before32 x.start vt) then
      { x with start := vt, setAt := vt, stale := false }
    else x
  d.setQueue q { x with elig := e }

/-- Count and mark a head that waits for a later window (R256). -/
def Dev.noteGate (d : Dev) (q : Nat) : Dev :=
  let x := d.queue q
  match x.msgs with
  | h :: l =>
    if d.qHold q = 3 && !h.deferred then
      (d.setQueue q { x with msgs := { h with deferred := true } :: l }).count (cEgress (q / 256) 6)
    else d
  | [] => d

/-- Re-evaluate every queue of port `p`. -/
def Dev.noteQueues (d : Dev) (p : Nat) : Dev :=
  d.sw.queues.foldl (fun d x => if x.1 / 256 = p then (d.noteQueue x.1).noteGate x.1 else d) d

/-- The head `h` of queue `q` leaves it, with the rest `l`: its blocks leave the head cell, which is retired if it is to be and is
freed (R180, R184); with `paid` the queue pays the message's charge (R229). -/
def Dev.pass (d : Dev) (q : Nat) (h : QMsg) (l : List QMsg) (paid : Bool) : Dev :=
  let x := d.queue q
  let n := if h.mc.isSome then 0 else h.m.blocks
  let last := l.all fun y => y.mc.isSome
  let freed := last || decide (4 ≤ x.headOff + n)
  let d := d.setQueue q { x with
    msgs := l, headOff := if last then 0 else (x.headOff + n) % 4, bad := x.bad && !freed,
    tokens := if paid then x.tokens - h.m.charge * 256 else x.tokens }
  if x.bad && freed then d.retire (q / 2048) else d

/-! ### Side buffers (R401) -/

/-- Whether the head of queue `q` moves into its side buffer now. -/
def Dev.sideMoves (d : Dev) (q : Nat) : Bool :=
  let p := q / 256
  let r := d.prt p
  match (d.queue q).msgs with
  | h :: _ =>
    !d.isIl p && match h.m.cls with
      | .ion => decide (r.sideNp.length < 32) && (!r.sideNp.isEmpty || !d.credit p h.m)
      | .ioc => decide (r.sideCpl.length < 32) && (!r.sideCpl.isEmpty || !d.credit p h.m)
      | _ => false
  | [] => false

/-- Move heads of queue `q` aside while they qualify. -/
def Dev.sideAll : Nat → Dev → Nat → Dev
  | 0, d, _ => d
  | fuel + 1, d, q =>
    if d.sideMoves q then
      let x := d.queue q
      match x.msgs with
      | h :: l =>
        let p := q / 256
        let r := d.prt p
        let d := d.pass q h l false
        let d := if h.m.cls = .ion then (d.setPrt p { r with sideNp := r.sideNp ++ [(q, h)] }).count (cEgress p 17)
          else (d.setPrt p { r with sideCpl := r.sideCpl ++ [(q, h)] }).count (cEgress p 18)
        Dev.sideAll fuel d q
      | [] => d
    else d

/-- A full side buffer holds the head of queue `q`. -/
def Dev.fullHead (d : Dev) (q : Nat) : Bool :=
  let p := q / 256
  let r := d.prt p
  match (d.queue q).msgs with
  | h :: _ =>
    !d.isIl p && match h.m.cls with
      | .ion => r.sideNp.length == 32
      | .ioc => r.sideCpl.length == 32
      | _ => false
  | [] => false

/-- A head that a full side buffer holds sets SIDE_FULL. -/
def Dev.sideFull (d : Dev) (q : Nat) : Dev :=
  if d.fullHead q then (d.set F.BRG_ERR.SIDE_FULL).count (cEgress (q / 256) 19) else d

/-- A full side buffer of port `p` holds a head. -/
def Dev.sideHeld (d : Dev) (p : Nat) : Bool := (d.busyQueues p).any d.fullHead

/-- R401 on every queue of port `p`. -/
def Dev.side (d : Dev) (p : Nat) : Dev :=
  (d.busyQueues p).foldl (fun d q => (Dev.sideAll 64 d q).sideFull q) d

/-! ### Selection (R222, R223, R401) -/

/-- What a selection takes. -/
inductive Pick where
  | strict (q : Nat) | sideNp | sideCpl | wfq (q : Nat)
  deriving DecidableEq, Repr

/-- The queue that virtual time selects: the first tag, the lower number on a tie. -/
def Dev.wfqBest (d : Dev) (l : List Nat) : Option Nat :=
  l.foldl (fun b q => match b with
    | none => some q
    | some c => if before32 (d.queue q).start (d.queue c).start then some q else some c) none

/-- One selection of port `p`. -/
def Dev.pick (d : Dev) (p : Nat) : Option Pick :=
  let el := (d.busyQueues p).filter fun q => d.eligible q
  let ptr := d.sw.c7ptr.get 0 p
  let top := (List.range 32).findSome? fun k =>
    el.find? fun q => qClass q == 7 && q % 32 == (ptr + k) % 32
  match top with
  | some q => some (.strict q)
  | none =>
    let r := d.prt p
    let np := (r.sideNp.head?.map (·.2)).filter fun x => d.credit p x.m
    let cp := (r.sideCpl.head?.map (·.2)).filter fun x => d.credit p x.m
    match np, cp with
    | some a, some b => some (if a.adm < b.adm then .sideNp else .sideCpl)
    | some _, none => some .sideNp
    | none, some _ => some .sideCpl
    | none, none => (d.wfqBest (el.filter fun q => qClass q != 7)).map .wfq

/-- R225: V of port `p` becomes `v`; tags left 2^30 behind become stale. -/
def Dev.setVt (d : Dev) (p : Nat) (v : BitVec 32) : Dev :=
  (List.range 224).foldl (fun d k =>
    let q := p * 256 + k
    let x := d.queue q
    if !x.stale && decide (2 ^ 30 ≤ (v - x.setAt).toNat) then d.setQueue q { x with stale := true } else d)
    (d.put F.SCH_PORT_VT.VT p v.toNat)

/-! ### Hand-off -/

/-- FK_BUF_CORR of tile `t` (R184). -/
def Dev.bufCorr (d : Dev) (t : Nat) (injected : Bool) : Dev :=
  (d.set F.TIL_ERR.BUF_CORR t).raise .bufCorr (uTile t 0x12) t (Config.faultAddr Kind.bufCorr.code t).toNat (injected := injected)

/-- FK_BUF_UNCORR of tile `t` at L2 (R184, R185). -/
def Dev.bufUncorr (d : Dev) (t : Nat) (injected : Bool) : Dev :=
  (d.set F.TIL_ERR.BUF_UNCORR t).raise .bufUncorr (uTile t 0x12) t (Config.faultAddr Kind.bufUncorr.code t).toNat (some 2) .tile
    (injected := injected)

/-- The contents of a message that a miscorrected codeword carries: free (R3). -/
def Dev.garble (d : Dev) (m : Msg) : Dev × Msg :=
  let (k, d) := d.fresh
  (d, { m with line := Config.free k, pay := (List.range m.pay.length).map fun j => Config.freeByte (0x40 + k) j })

/-- R184, R185: what reading a message's cells finds: the message as delivered, and whether a cell of it is to be retired once
freed, beside `n` of the tile that wait to be. Which cell it is is a value that the model leaves free. DEDUCED, safe: log entry 21. DEDUCED, unsafe: log entry 29. -/
def Dev.readCells (d : Dev) (t : Nat) (m : Msg) (n : Nat) (e : CellErr) : Dev × Msg × Bool :=
  match e with
  | .none => (d, m, false)
  | .link e =>
    match rsRead e with
    | .corr => (d.bufCorr t false, m, false)
    | .uncorr => (d.bufUncorr t false, m, false)
    | .clean | .wrong => (d, m, false)
  | .cell e =>
    let (d, e, inj) := d.injTake (uTile t 0x12) (fun _ => true) e
    match rsRead e with
    | .clean => (d, m, false)
    | .corr => (d.bufCorr t inj, m, false)
    | .wrong => let (d, m) := d.garble m; (d, m, false)
    | .uncorr =>
      if d.get F.TIL_BUF_STATUS.RETIRED t + n < 64 then
        let (k, d) := (d.set F.TIL_ERR.BUF_UNCORR t).fresh
        (d.raise .bufUncorr (uTile t 0x12) ((Config.free k).toNat % 65536) (Config.faultAddr Kind.bufUncorr.code t).toNat (some 1)
          (injected := inj), { m with poison := true }, true)
      else (d.bufUncorr t inj, { m with poison := true }, false)

/-- The cells of tile `t` that are to be retired once freed (R184). -/
def Dev.badCells (d : Dev) (t : Nat) : Nat :=
  (d.sw.queues.filter fun x => x.1 / 2048 == t && (x.2.map (·.bad)).getD false).length +
    (d.sw.mc.filter fun c => c.tile.val == t && c.bad).length

/-- R184: read the cells of a message that port `p` sends from queue `q` (`side`: from a side buffer, whose cells it frees at
once): the message as delivered, and the cell that is to be retired noted where it lies. -/
def Dev.readMsg (d : Dev) (p q : Nat) (x : QMsg) (side : Bool) (e : CellErr) : Dev × QMsg :=
  let t := p / 8
  let (d, m, bad) := d.readCells t x.m (d.badCells t) e
  let d :=
    if !bad then d
    else match x.mc with
      | some id => { d with sw := { d.sw with mc := d.sw.mc.map fun (c : McCopy) => if c.id = id then { c with bad := true } else c } }
      | none => if side then d.retire t else d.setQueue q { d.queue q with bad := true }
  (d, { x with m := m })

/-- R415 cause 0x4: a posted request toward a target that a buffer error poisoned. -/
def Dev.poisonedOut (d : Dev) (p : Nat) (m : Msg) (spoilt : Bool) : Dev :=
  if spoilt && m.cls = .iop && d.isTarget p then
    (d.brgFault .brgFarErr F.BRG_ERR.FAR_ERR p 4 m.src.toNat).arise p (.err 1)
  else d

/-- R589: the positions that a message takes on a standard port; one that is sent a second time is Wasted. Without flits it
is a TLP sent (R585). -/
def Dev.sentSlots (d : Dev) (p : Nat) (x : QMsg) : Dev :=
  let d := d.stdSlots p (if x.again then 1 else 0) x.m.blocks true
  if d.flitSlots p = 0 then d.count (cPort p 4) else d

/-- The egress link of standard port `p` has one credit less for a class (R222). -/
def Dev.useCredit (d : Dev) (p : Nat) (c : Cls) : Dev :=
  let r := d.prt p
  d.setPrt p { r with link := setSix r.link c.code (six r.link c.code - 1) }

/-- Hand a message of queue `q` to the egress link layer of port `p` (R222): it takes its link credit and is sent, mirrored at its
egress (R193), its multicast copy is freed with the tile's last, a request awaits its answer, an ION's tracker ends with its
completion (R414), and its ingress port counts it done. `spoilt`: the read poisoned it. -/
def Dev.handOff (d : Dev) (p q : Nat) (x : QMsg) (spoilt : Bool) : Dev :=
  let m := x.m
  let d := (d.poisonedOut p m spoilt).mirror p true m
  let d := match x.mc with
    | some id => (d.mcDrop id (Fin.ofNat 64 p) true).count (cEgress p 15)
    | none => d
  let d := match m.cls with
    | .req | .rwd | .ion => d.setOutst p (d.outst p ++ [m])
    | _ => d.endTrk m
  let d := if d.isIl p then d.setIl p { d.ilRt p with txq := (d.ilRt p).txq ++ slotsOf m }
    else ({ d with out := d.out ++ [{ port := Fin.ofNat 64 p, q := q, x := x }] } : Dev).sentSlots p x |>.useCredit p m.cls
  d.doneMsg x.ing x.rel

/-- Take the head of queue `q`: its blocks leave the head cell, and a shaped queue pays its charge (R229). -/
def Dev.pop (d : Dev) (q : Nat) (h : QMsg) (l : List QMsg) : Dev := d.pass q h l (d.bit F.QUEUE.SHAPE_EN q)

/-- Carry out a selection. -/
def Dev.take (d : Dev) (p : Nat) (k : Pick) (e : CellErr) : Dev :=
  match k with
  | .strict q =>
    match (d.queue q).msgs with
    | h :: l =>
      let (d, x) := ({ d with sw := { d.sw with c7ptr := d.sw.c7ptr.put 0 p ((q + 1) % 32) } } : Dev).readMsg p q h false e
      ((d.pop q x l).count (cEgress p 0)).handOff p q x (x.m.poison && !h.m.poison)
    | [] => d
  | .wfq q =>
    let x := d.queue q
    match x.msgs with
    | h :: l =>
      let s := x.start + BitVec.ofNat 32 (h.m.blocks * 65536 / max (d.get F.QUEUE.WEIGHT q) 1)
      let d := (d.setQueue q { x with start := s, setAt := x.start, stale := false }).setVt p x.start
      let (d, x) := d.readMsg p q h false e
      ((d.pop q x l).count (cEgress p 1)).handOff p q x (x.m.poison && !h.m.poison)
    | [] => d
  | .sideNp =>
    match (d.prt p).sideNp with
    | h :: l =>
      let (d, x) := d.readMsg p h.1 h.2 true e
      (d.setPrt p { d.prt p with sideNp := l }).handOff p h.1 x (x.m.poison && !h.2.m.poison)
    | [] => d
  | .sideCpl =>
    match (d.prt p).sideCpl with
    | h :: l =>
      let (d, x) := d.readMsg p h.1 h.2 true e
      (d.setPrt p { d.prt p with sideCpl := l }).handOff p h.1 x (x.m.poison && !h.2.m.poison)
    | [] => d

/-- A message of port `p` was ready but held, or its later slots have not committed (R589). -/
def Dev.backed (d : Dev) (p : Nat) : Bool :=
  d.busyQueues p ≠ [] || !(d.prt p).sideNp.isEmpty || !(d.prt p).sideCpl.isEmpty ||
    d.sw.pipe.any fun x => x.slots.any (·.done) && match x.dest with
      | .port e => e.val == p
      | _ => false

/-- R589: the flit that a standard port in L0 or L0p is sending leaves with its free positions empty. -/
def Dev.emptySlots (d : Dev) (p : Nat) : Dev :=
  let lt := d.get F.PRT_STATUS.LTSSM p
  if d.isIl p || !(lt = 4 || lt = 5) then d
  else d.stdSlots p (if d.backed p then 3 else 2) (max (d.flitSlots p) 1 - (d.prt p).fill) false

/-- Count the channels of R128 on which a message of standard port `p` is ready without link credit (R585). -/
def Dev.creditStalls (d : Dev) (p : Nat) : Dev :=
  let heads := (d.busyQueues p).filterMap (fun q => (d.queue q).msgs.head?) ++
    ((d.prt p).sideNp ++ (d.prt p).sideCpl).map (·.2)
  let vcs := (heads.filter fun h => !d.credit p h.m).map fun h => vcOf h.m.cls.code
  if d.isIl p then d else vcs.eraseDups.foldl (fun d v => d.count (cPort p (17 + v))) d

/-- The counters of SCH_HOLD_CREDIT, _SHAPER and _GATE for port `p` whose condition holds on an edge without a selection (R256). -/
def Dev.holdKeys (d : Dev) (p : Nat) : List Nat :=
  [1, 2, 3].filterMap fun n => if (d.busyQueues p).any (fun q => d.qHold q == n) then some (cEgress p (2 + n)) else none

/-- Count an edge on which nothing was selected while queues were held (R256). -/
def Dev.heldEdge (d : Dev) (p : Nat) : Dev := (d.holdKeys p).foldl Dev.count d

/-- The ports that hold queued messages. -/
def Dev.busyPorts (d : Dev) : List Nat :=
  (d.sw.queues.filterMap fun x => match x.2 with
    | some q => if q.msgs.isEmpty then none else some (x.1 / 256)
    | none => none).eraseDups

/-- R222: up to `n` selections of port `p` on one edge, each with the credit that the ones before it left. -/
def Dev.select : List CellErr → Dev → Nat → Bool → Dev
  | [], d, p, first => if first then d.heldEdge p else d
  | e :: es, d, p, first =>
    let d := (d.side p).noteQueues p
    match d.pick p with
    | some k => Dev.select es (d.take p k e) p false
    | none => if first then (d.heldEdge p).emptySlots p else d

end Sys2Proof.Machine
end

