-- ==== Sys2Proof/Machine/Sched.lean ====
section
/-!
DEFINITION. The scheduling commands of chapter 06: refill edges, hold queues, time gates, histograms, and group 0xC300.
-/

namespace Sys2Proof.Machine

/-! ### Refill edges (R229, R230, R237, R254) -/

/-- A converted rate in a 24-bit field; one that does not fit is a value the spec leaves open.
DEDUCED, unsafe: log entry 22. -/
def Dev.rateFld (d : Dev) (v : Nat) : Nat × Dev :=
  if v ≤ 0xFFFFFF then (v, d)
  else
    let (n, d) := d.fresh
    ((Config.free n).toNat % 2 ^ 24, d)

/-- R254: the new interval, and every rate from the byte rates last given. -/
def Dev.applyRefill (d : Dev) : Dev :=
  match d.sw.pendRefill with
  | none => d
  | some n =>
    let d := ({ d with sw := { d.sw with pendRefill := none } }).put F.SCH_CTL.REFILL 0 n
    d.sw.rates.foldl (fun d x =>
      let (v, d) := d.rateFld (rateOf x.2 n)
      if x.1 < 2 ^ 20 then d.put F.QUEUE.RATE x.1 v
      else if x.1 % 2 = 0 then d.put F.POL.CIR ((x.1 - 2 ^ 20) / 2) v
      else d.put F.POL.PIR ((x.1 - 2 ^ 20) / 2) v) d

/-- R230: a shaper setting takes effect: turned on, it starts full; a new BURST caps the tokens. -/
def Dev.applyShaper (d : Dev) (q : Nat) (x : PendShaper) : Dev :=
  let was := d.bit F.QUEUE.SHAPE_EN q
  let d := ((d.put F.QUEUE.SHAPE_EN q (if x.en then 1 else 0)).put F.QUEUE.RATE q x.rate).put F.QUEUE.BURST q x.burst
  let qu := d.queue q
  let cap : Int := x.burst * 256
  d.setQueue q { qu with tokens := if x.en && !was then cap else min qu.tokens cap }

/-- R237: a policer setting takes effect. -/
def Dev.applyPol (d : Dev) (i : Nat) (x : PendPol) : Dev :=
  let was := d.bit F.POL.EN i
  let d := (d.put F.POL.EN i (if x.en then 1 else 0)).put F.POL.AWARE i (if x.aware then 1 else 0)
  let d := ((d.put F.POL.CIR i x.cir).put F.POL.PIR i x.pir).put F.POL.CBS i x.cbs
  let d := d.put F.POL.PBS i x.pbs
  let d := match x.holdMax with
    | some n => d.put F.POL.HOLD_MAX i n
    | none => d
  let p := d.pol i
  d.setPol i { p with tc := if x.en && !was then x.cbs * 256 else min p.tc (x.cbs * 256),
                      tp := if x.en && !was then x.pbs * 256 else min p.tp (x.pbs * 256) }

/-- Every waiting setting takes effect, a new interval last, so that it recomputes every rate. -/
def Dev.applyPending (d : Dev) : Dev :=
  let d := d.sw.pendSh.foldl (fun d x => match x.2 with | some s => d.applyShaper x.1 s | none => d) d
  let d := d.sw.pendPol.foldl (fun d x => match x.2 with | some s => d.applyPol x.1 s | none => d) d
  ({ d with sw := { d.sw with pendSh := [], pendPol := [] } } : Dev).applyRefill

/-- R229: add to and cap the buckets of every shaped queue. -/
def Dev.refillQueues (d : Dev) : Dev :=
  (d.listed F.QUEUE.SHAPE_EN).foldl (fun d q =>
    let x := d.queue q
    d.setQueue q { x with tokens := min (x.tokens + d.get F.QUEUE.RATE q) (d.get F.QUEUE.BURST q * 256) }) d

/-- R229: refill both buckets of every policer with a rate. -/
def Dev.refillPols (d : Dev) : Dev :=
  (d.listed F.POL.PIR).foldl (fun d i =>
    let x := d.pol i
    d.setPol i { x with tc := min (x.tc + d.get F.POL.CIR i) (d.get F.POL.CBS i * 256),
                        tp := min (x.tp + d.get F.POL.PIR i) (d.get F.POL.PBS i * 256) }) d

/-- R235: re-meter the red heads, colour-blind. -/
def Dev.remeter (d : Dev) : Dev :=
  d.sw.pols.foldl (fun d y =>
    let i := y.1
    let x := d.pol i
    match x.hold with
    | h :: l =>
      if x.metered && h.m.colour = .red then
        let p := (h.ing.map (·.val)).getD 0
        let (d, c, _) := d.police p i h.dest h.q h.m true
        d.setPol i { d.pol i with hold := { h with m := { h.m with colour := c } } :: l }
      else d
    | [] => d) d

/-- The same for red messages that wait at their ingress before a hold queue without places. -/
def Dev.remeterPipe (d : Dev) : Dev :=
  d.sw.pipe.foldl (fun d x => match x.pol with
    | some i =>
      if x.gate = .full && x.m.colour = .red && d.holdMax i = 0 then
        let (d, c, _) := d.police x.port.val i x.dest x.q x.m true
        d.setMsg { x with m := { x.m with colour := c } }
      else d
    | none => d) d

/-- REFILL_TICK (R229). -/
def execRefillTick (s : State) : Host.Outcome State Fault Refusal :=
  s.upd (s.dev.onDie fun d => d.applyPending.refillQueues.refillPols.remeter.remeterPipe)

/-! ### Hold queues (R235, R368) -/

/-- The head leaves the hold queue. -/
def Dev.releaseHead (d : Dev) (i : Nat) (h : Staged) (l : List Staged) : Dev :=
  (d.setPol i { d.pol i with hold := l, metered := false }).proceed i h

/-- One release of hold queue `i`, if its head is whole and passes. -/
def Dev.holdRelease (d : Dev) (i : Nat) : Dev :=
  let x := d.pol i
  match x.hold with
  | [] => d
  | h :: l =>
    let p := (h.ing.map (·.val)).getD 0
    if h.spec then d
    else if d.blocked p i h.m then
      if d.isIl p || d.insHolds i then d
      else match d.quotaFull i h.m with
        | some q => d.quotaWait i q h.m
        | none => d
    else if x.metered then (if d.passes h.m.colour h.dest h.q then d.releaseHead i h l else d)
    else
      let (d, c, ok) := d.police p i h.dest h.q h.m false
      let h := { h with m := { h.m with colour := c } }
      if ok then d.releaseHead i h l else d.setPol i { d.pol i with hold := h :: l, metered := true }

/-- HOLD_QUEUE_RELEASE (R235). -/
def execHoldQueueRelease (i : Inst) (s : State) : Host.Outcome State Fault Refusal :=
  s.upd (s.dev.onDie fun d => d.holdRelease i.val)

/-! ### Gates (R239 to R243) -/

/-- `overrun`: messages in flight that ran past the window that closes (R240). -/
def execGateWindowChange (p : Port) (overrun : Nat) (s : State) : Host.Outcome State Fault Refusal :=
  s.upd (s.dev.onDie fun d =>
    if d.bit F.SCH_GATE_CTL.EN p.val then
      ({ d with sw := { d.sw with gateCur := d.sw.gateCur.put 0 p.val (d.gatePos p.val).1 } }).count (cEgress p.val 7) overrun
    else d)

/-- The first instant BASE + k × CYCLE that lies at least 1 µs after a list's acceptance (R241). -/
def GateList.start (g : GateList) : Nat :=
  let due := g.since.toNat + 1000
  g.base.toNat + (due - g.base.toNat + g.cycle - 1) / g.cycle * g.cycle

/-- R241: the pending list of port `p` takes over once its instant has come, and the check of R242 is made. The FTC compared is
the stepped one (R247). -/
def Dev.gateTakeover (d : Dev) (p : Nat) : Dev :=
  match d.sw.gates.get none p with
  | none => d
  | some g =>
    if d.clk.ftc.toNat < g.start then d else
    let d := { d with sw := { d.sw with gates := d.sw.gates.erase p } }
    let d := (((d.set F.SCH_GATE_CTL.EN p).put F.SCH_GATE_CTL.COUNT p g.ents.length).put F.SCH_GATE_CYCLE.CYCLE p g.cycle).put
      F.SCH_GATE_BASE.BASE p g.base.toNat
    let d := (List.range 64).foldl (fun d e =>
      let x := g.ents.getD e (0, 0)
      (d.put F.SCH_GATE_ENT.DURATION (p * 64 + e) x.1).put F.SCH_GATE_ENT.OPEN (p * 64 + e) x.2.toNat) d
    let d := d.gateCheck p
    { d with sw := { d.sw with gateCur := d.sw.gateCur.put 0 p (d.gatePos p).1 } }

/-- GATE_LIST_TAKEOVER (R241). -/
def execGateListTakeover (p : Port) (s : State) : Host.Outcome State Fault Refusal :=
  s.upd (s.dev.onDie fun d => d.gateTakeover p.val)

/-! ### Histograms (R244 to R246) -/

/-- The bin of a depth or an age. -/
def histBin (n : Nat) : Nat := if n = 0 then 1 else min 15 (Nat.log2 n + 1)

/-- TOKENS as queue word 3 shows it: bytes, two's complement in 25 bits. -/
def Queue.word3 (x : Queue) : Nat := ((x.tokens / 256) % 2 ^ 25).toNat

/-- Queue word 8 as it reads now (R221, R249). -/
def Dev.queueWord8 (d : Dev) (q : Nat) : Nat :=
  (if (d.queue q).msgs.isEmpty then 0 else 1) + (if d.eligible q then 2 else 0) + d.qHold q * 4

/-- Add 1 to a bin, saturating. -/
def Dev.bin (d : Dev) (k : Nat) : Dev :=
  { d with sw := { d.sw with hist := d.sw.hist.modify 0 k fun n => min (n + 1) 0xFFFFFFFF } }

/-- Sample queue `q`; shed stage 1 pauses the histograms (R537). -/
def Dev.sampleQueue (d : Dev) (q : Nat) : Dev :=
  let x := d.queue q
  let cells := x.cells
  let age := match x.msgs with
    | h :: _ => (d.clk.ftc - h.since).toNat
    | [] => 0
  let (b0, b1) := if x.msgs.isEmpty then (0, 0) else (histBin cells, histBin (age / 10))
  let d := if d.bit F.SCH_HIST_CFG.FREEZE || decide (d.get F.PWR_SAG_STATUS.STAGE ≥ 1) then d else (d.bin (q * 32 + b0)).bin (q * 32 + 16 + b1)
  if d.bit F.QUEUE.CARAVAN_EN q && (d.get F.CAR_CFG.STREAM_EN).testBit 0 then
    let r := bytes 8 d.clk.ftc.toNat ++ bytes 2 q ++ [BitVec.ofNat 8 (d.qHold q + if d.eligible q then 4 else 0), 0] ++ bytes 4 cells ++
      bytes 4 (min age 0xFFFFFFFF) ++ bytes 4 x.msgs.length
    let (d, kept) := d.telemetry (q / 256) 1 r
    if kept then d.count (cEgress (q / 256) 13) else (d.set F.SCH_ERR.TELEM_DROP).count (cEgress (q / 256) 14)
  else d

/-- HIST_SAMPLE (R244). -/
def execHistSample (s : State) : Host.Outcome State Fault Refusal :=
  s.upd (s.dev.onDie fun d => (d.listed F.QUEUE.HIST_EN).foldl Dev.sampleQueue d)

/-- Zero every bin (R245). -/
def Dev.histClear (d : Dev) : Dev := { d with sw := { d.sw with hist := [] } }

/-- SCH_HIST_FREEZE (R245). -/
def execSchHistFreeze (on : Bool) (s : State) : Host.Outcome State Fault Refusal :=
  s.upd (s.dev.onDie fun d => d.put F.SCH_HIST_CFG.FREEZE 0 (if on then 1 else 0))

/-- SCH_HIST_CLEAR (R245). -/
def execSchHistClear (s : State) : Host.Outcome State Fault Refusal :=
  s.upd (s.dev.onDie Dev.histClear)

/-! ### Group 0xC300 (R253, R254) -/

/-- An FM command of the live modes. -/
def fmCmd (opcode : Nat) : Cmd := { opcode := opcode, may := fun p _ _ => fmOnly p, modes := liveModes }

/-- The words of queue word 0 images are allowed for the indexes from `i0`. -/
def queueImgOk : Nat → List Nat → Bool
  | _, [] => true
  | i, v :: l =>
    (v / 2 ^ 10 % 64 == 0) && (i / 32 == 7 || v % 256 != 0) && (v / 512 % 2 == 0 || v / 256 % 2 == 1) && queueImgOk (i + 1) l

/-- QUEUE_CONFIG (R253). -/
def execQueueConfig (r : FoernReq) (s : State) : Host.Outcome State Fault Refusal :=
  s.upd (s.dev.onDie fun d => d.foern r (fmCmd 0xC300) fun h pay d =>
    let p := h.sel.toNat
    let i := le pay 0 2
    let n := le pay 2 2
    let ws := wordsOf (pay.drop 4)
    if 64 ≤ p || n = 0 || decide (256 < i + n) || pay.length ≠ 4 + 4 * n || !queueImgOk i ws then .fail .invalidParam
    else
      let d := (List.range n).foldl (fun d k => d.putWord .QUEUE0 (p * 256 + i + k) (ws.getD k 0)) d
      .done d (d.stageNow 0x3003 ((List.range n).map fun k => (p * 256 + i + k) * 3)))

/-- R231: SHAPER_SET converts the rate and waits for the next refill. -/
def execShaperSet (r : FoernReq) (s : State) : Host.Outcome State Fault Refusal :=
  s.upd (s.dev.onDie fun d => d.foern r (fmCmd 0xC301) fun h pay d =>
    let p := h.sel.toNat
    let i := le pay 0 2
    let en := le pay 2 1 == 1
    let bps := le pay 4 8
    let burst := le pay 12 4
    let v := rateOf bps (d.get F.SCH_CTL.REFILL)
    if 64 ≤ p || 256 ≤ i || pay.length ≠ 16 || 1 < le pay 2 1 || le pay 3 1 ≠ 0 || burst < 576 || 2 ^ 24 ≤ burst ||
        (en && (v = 0 || decide (0xFFFFFF < v))) then .fail .invalidParam
    else
      let q := p * 256 + i
      let (v, d) := d.rateFld v
      let d := { d with sw := { d.sw with
        pendSh := d.sw.pendSh.put none q (some { en := en, rate := v, burst := burst }), rates := d.sw.rates.put 0 q bps } }
      .ok (bytes 4 v) d [⟨0x3003, q * 3 + 1, v + if en then 2 ^ 31 else 0⟩, ⟨0x3003, q * 3 + 2, burst⟩])

/-- R237. -/
def execPolicerSet (r : FoernReq) (s : State) : Host.Outcome State Fault Refusal :=
  s.upd (s.dev.onDie fun d => d.foern r (fmCmd 0xC302) fun h pay d =>
    let i := h.sel.toNat
    let fl := le pay 0 1
    let en := fl % 2 == 1
    let (cirB, pirB) := (le pay 4 8, le pay 12 8)
    let (cbs, pbs) := (le pay 20 4, le pay 24 4)
    let refill := d.get F.SCH_CTL.REFILL
    let (cir, pir) := (rateOf cirB refill, rateOf pirB refill)
    let bad (v : Nat) : Bool := v == 0 || decide (0xFFFFFF < v)
    if 1024 ≤ i || pay.length ≠ 28 || 3 < fl || le pay 1 1 ≠ 0 || pirB < cirB || pbs < 576 || 2 ^ 24 ≤ cbs || 2 ^ 24 ≤ pbs ||
        (en && (bad cir || bad pir)) then .fail .invalidParam
    else
      let transit := d.bit F.POL.TRANSIT i
      let (cir, d) := d.rateFld cir
      let (pir, d) := d.rateFld pir
      let x : PendPol := { en := en, aware := fl / 2 == 1, holdMax := if transit then some (le pay 2 2) else none,
                           cir := cir, pir := pir, cbs := cbs, pbs := pbs }
      let d := { d with sw := { d.sw with
        pendPol := d.sw.pendPol.put none i (some x),
        rates := (d.sw.rates.put 0 (2 ^ 20 + 2 * i) cirB).put 0 (2 ^ 20 + 2 * i + 1) pirB } }
      let w0 := fl + if transit then 4 else 0
      let hm := if transit then le pay 2 2 else d.get F.POL.HOLD_MAX i
      .ok (bytes 4 cir ++ bytes 4 pir) d
        ((List.range 6).map fun k => ⟨0x3004, i * 6 + k, [w0, cir, pir, cbs, pbs, hm].getD k 0⟩))

/-- R241. DEDUCED, unsafe: log entry 22. -/
def execGateListSet (r : FoernReq) (s : State) : Host.Outcome State Fault Refusal :=
  s.upd (s.dev.onDie fun d => d.foern r (fmCmd 0xC303) fun h pay d =>
    let p := h.sel.toNat
    let n := le pay 1 1
    let cyc := le pay 4 4
    let ents := (List.range n).map fun k => (le pay (16 + 8 * k) 4, BitVec.ofNat 8 (le pay (20 + 8 * k) 1))
    let res := (List.range ((pay.length - 16) / 8)).any fun k => le pay (21 + 8 * k) 3 != 0
    if 64 ≤ p || pay.length < 16 || 1 < le pay 0 1 || le pay 2 2 ≠ 0 || res then .fail .invalidParam
    else if le pay 0 1 = 0 then
      .done { d.put F.SCH_GATE_CTL.EN p 0 with sw := { d.sw with gates := d.sw.gates.erase p, gateForced := d.sw.gateForced.erase p } }
    else if n = 0 || 64 < n || pay.length ≠ 16 + 8 * n || cyc < 1000 || 1000000000 < cyc ||
        ents.any (fun e => e.1 == 0) || ents.foldl (fun a e => a + e.1) 0 ≠ cyc then .fail .invalidParam
    else
      let g : GateList := { cycle := cyc, base := BitVec.ofNat 64 (le pay 8 8), ents := ents, since := d.clk.ftc }
      .done { d with sw := { d.sw with gates := d.sw.gates.put none p (some g) } })

/-- LATENCY_SAMPLE_CFG (R253). -/
def execLatencySampleCfg (r : FoernReq) (s : State) : Host.Outcome State Fault Refusal :=
  s.upd (s.dev.onDie fun d => d.foern r (fmCmd 0xC304) fun _ pay d =>
    if pay.length ≠ 4 || le pay 0 2 = 0 || 1 < le pay 2 1 || le pay 3 1 ≠ 0 then .fail .invalidParam
    else
      let d := d.put F.SCH_HIST_CFG.PERIOD 0 (le pay 0 2)
      .done (if le pay 2 1 = 1 then d.histClear else d) (d.stageNow 0x3001 [0]))

/-- The group of R220 of a class code. -/
def clsGroup (c : Nat) : Nat := if c < 2 then 0 else if c = 2 then 1 else if c < 5 then 2 else 3

/-- R220: two classes of different groups could reach one queue. -/
def mapClash (map slots : Nat) : Bool :=
  (List.range 8).any fun a => (List.range 8).any fun b =>
    let e (c : Nat) := map / 2 ^ (4 * c) % 16
    let sl (c : Nat) := slots / 2 ^ (4 * c) % 16
    clsGroup a != clsGroup b && e a % 8 == e b % 8 && (e a < 8 || e b < 8 || sl a == sl b)

/-- R238: bind or unbind the transit policer of port `p`. -/
def Dev.bindTransit (d : Dev) (p pol : Nat) (en : Bool) : Dev :=
  let d := if d.bit F.SCH_PORT_CFG.TRANSIT_EN p then d.put F.POL.TRANSIT (d.get F.SCH_PORT_CFG.TRANSIT_POL p) 0 else d
  let d := (d.put F.SCH_PORT_CFG.TRANSIT_POL p pol).put F.SCH_PORT_CFG.TRANSIT_EN p (if en then 1 else 0)
  if en then d.put F.POL.TRANSIT pol 1 else d

/-- CLASS_MAP_SET (R254). -/
def execClassMapSet (r : FoernReq) (s : State) : Host.Outcome State Fault Refusal :=
  s.upd (s.dev.onDie fun d => d.foern r (fmCmd 0xC305) fun h pay d =>
    let p := h.sel.toNat
    let map := le pay 0 4
    let slots := le pay 4 4
    let w := le pay 8 4
    let pol := w % 1024
    let en := w / 1024 % 2 == 1
    let other := (List.range 64).any fun q =>
      q != p && d.bit F.SCH_PORT_CFG.TRANSIT_EN q && d.get F.SCH_PORT_CFG.TRANSIT_POL q == pol
    if 64 ≤ p || pay.length ≠ 12 || 2048 ≤ w || mapClash map slots || (!d.isIl p && en) then .fail .invalidParam
    else if en && (d.bit F.INS.VALID pol || other) then .fail .stateMismatch
    else
      let d := ((d.put F.SCH_CLASSMAP.MAP p map).put F.SCH_SLOTMAP.MAP p slots).bindTransit p (if d.isIl p then pol else 0) en
      .done d (d.stageNow 0x3002 [3 * p, 3 * p + 1, 3 * p + 2]))

/-- QUEUE_STATUS (R253). -/
def execQueueStatus (r : FoernReq) (s : State) : Host.Outcome State Fault Refusal :=
  s.upd (s.dev.onDie fun d => d.foern r (fmCmd 0xC306) fun h pay d =>
    let p := h.sel.toNat
    let i := le pay 0 2
    let n := le pay 2 2
    if 64 ≤ p || pay.length ≠ 4 || n = 0 || 64 < n || 256 < i + n then .fail .invalidParam
    else
      .ok ((List.range n).flatMap fun k =>
        let x := d.queue (p * 256 + i + k)
        bytes 4 x.word3 ++ bytes 4 x.cells ++ bytes 4 x.msgs.length ++ bytes 4 x.start.toNat ++ bytes 4 (d.queueWord8 (p * 256 + i + k))) d [])

/-- SCHED_CTL_SET (R254). -/
def execSchedCtlSet (r : FoernReq) (s : State) : Host.Outcome State Fault Refusal :=
  s.upd (s.dev.onDie fun d =>
    d.foern r { opcode := 0xC307, may := fun p _ _ => fmOnly p, modes := fun m => m = .quiesce } fun _ pay d =>
    let n := le pay 0 2
    if pay.length ≠ 2 || n < 2 || 1000 < n then .fail .invalidParam
    else .done { d with sw := { d.sw with pendRefill := some n } } [⟨0x3000, 0, n⟩])

/-- HIST_READ (R253). -/
def execHistRead (r : FoernReq) (s : State) : Host.Outcome State Fault Refusal :=
  s.upd (s.dev.onDie fun d => d.foern r (fmCmd 0xC308) fun h pay d =>
    let q := h.sel.toNat
    if 16384 ≤ q || pay.length ≠ 0 then .fail .invalidParam
    else .ok ((List.range 32).flatMap fun b => bytes 4 (d.sw.hist.get 0 (q * 32 + b))) d [])

end Sys2Proof.Machine
end

