-- ==== Sys2Proof/Machine/Bridge.lean ====
section
/-!
DEFINITION. The commands of the I/O bridge (chapter 11): events, locks, completion timeouts, and group 0xC700.
-/

namespace Sys2Proof.Machine

/-! ### Events (R406 to R409, R416) -/

/-- The OR of the virtual wires of the vPPBs of host port `h` (R408). A bound target is device 0 of its link, so the
standard's swizzle leaves its pins as they are. -/
def Dev.wireOr (d : Dev) (h : Nat) : BitVec 4 :=
  (List.range 32).foldl (fun a v =>
    let i := h * 32 + v
    if v != 0 && decide (2 ≤ d.get F.TIL_VPPB.STATE i) then
      match d.route (BitVec.ofNat 12 (d.get F.TIL_VPPB.TARGET_EDGE i)) with
      | .port p => if d.isTarget p then a ||| (d.prt p).wires else a
      | _ => a
    else a) 0

/-- Send host `h` an Assert or Deassert for each pin whose OR changed. -/
def Dev.sendWires (d : Dev) (h : Nat) : Dev :=
  let old := (d.prt h).wires
  let new := d.wireOr h
  let d := d.setPrt h { d.prt h with wires := new }
  (List.range 4).foldl (fun d k =>
    if old.getLsbD k = new.getLsbD k then d else d.toHost h { op := .intx (Fin.ofNat 4 k) (new.getLsbD k) }) d

/-- Deliver an event of source port `p`. DEDUCED, unsafe: log entry 28. -/
def Dev.deliverEvent (d : Dev) (p : Nat) (e : Ev) : Dev :=
  let d := d.count (cTile (p / 8) 9)
  match e.what with
  | .intx pin set =>
    let r := d.prt p
    let w := if set then r.wires ||| BitVec.ofNat 4 (2 ^ pin.val) else r.wires &&& ~~~ (BitVec.ofNat 4 (2 ^ pin.val))
    let d := d.setPrt p { r with wires := w }
    ((d.boundTo (d.edgeOf p)).map (·.1)).eraseDups.foldl Dev.sendWires d
  | .hotplug h v =>
    let i := h.val * 32 + v.val
    let x : VppbRt := { d.brg.vppb.get VppbRt.reset i with pdc := true, dlsc := true }
    ({ d with brg := { d.brg with vppb := d.brg.vppb.put VppbRt.reset i x } }).msi h.val
  | .err sev => (d.boundTo (d.edgeOf p)).foldl (fun d x => d.toHost x.1 { op := .errMsg sev }) d
  | .record code unit data hi =>
    match code with
    | 3 => d.event .bayPresence unit data hi
    | _ => d.event .bayAlert unit data hi

/-- EVENT_DELIVER (R406). -/
def execEventDeliver (p : Port) (s : State) : Host.Outcome State Fault Refusal :=
  s.upd (s.dev.onDie fun d =>
    let r := d.prt p.val
    match r.events with
    | e :: l => if e.stamp ≤ r.done then (d.setPrt p.val { r with events := l }).deliverEvent p.val e else d
    | [] => d)

/-! ### Locks (R410 to R413) -/

/-- R410: the oldest waiting MRdLk takes the free token; none in Quiesce. -/
def Dev.grantLock (d : Dev) : Dev :=
  match d.brg.lock, d.brg.waiters with
  | none, x :: l =>
    if d.mode = .quiesce then d
    else
      let p := x.ing.getD 0
      let d := ({ d with brg := { d.brg with waiters := l, former := d.brg.former.filter (· != p) } }).count (cTile (p.val / 8) 12)
      match x.dest with
      | .own f =>
        let k : Lock := { level := 1, fn := some f, holder := p, target := 0, since := d.clk.ftc, toFwd := none }
        (({ d with brg := { d.brg with lock := some k } }).ownAnswer p.val x.m).ends x
      | .port e =>
        let k : Lock := { level := 2, fn := none, holder := p, target := e, since := d.clk.ftc, toFwd := some x }
        { d with brg := { d.brg with lock := some k } }
      | .cfg r =>
        let k : Lock := { level := 1, fn := none, holder := p, target := 0, since := d.clk.ftc, toFwd := none }
        (({ d with brg := { d.brg with lock := some k } }).cfgAnswer p.val r x.m).ends x
      | _ => (d.answer (p.val / 8) x.m (.cpl .ur)).ends x
  | _, _ => d

/-- LOCK_GRANT (R410). -/
def execLockGrant (s : State) : Host.Outcome State Fault Refusal := s.upd (s.dev.onDie Dev.grantLock)

/-- R412: whether the queues of port `e` hold an ION or IOP of a source other than `h`. -/
def Dev.othersQueued (d : Dev) (e : Nat) (h : Fin 64) : Bool :=
  let alien (x : QMsg) : Bool := (x.m.cls = .ion || x.m.cls = .iop) && x.ing != some h
  (d.busyQueues e).any (fun q => (d.queue q).msgs.any alien) || (d.prt e).sideNp.any fun x => alien x.2

/-- R412: the MRdLk goes to its target once no other source's ION or IOP is queued there. -/
def Dev.forwardLock (d : Dev) : Dev :=
  match d.brg.lock with
  | some l =>
    match l.toFwd with
    | some x =>
      if d.othersQueued l.target.val l.holder then d
      else ({ d with brg := { d.brg with lock := some { l with toFwd := none } } }).stageOut x
    | none => d
  | none => d

/-- LOCK_FORWARD (R412). -/
def execLockForward (s : State) : Host.Outcome State Fault Refusal := s.upd (s.dev.onDie Dev.forwardLock)

/-- UNLOCK_RECEIVE (R412). -/
def execUnlockReceive (p : Port) (s : State) : Host.Outcome State Fault Refusal :=
  s.upd (s.dev.onDie fun d => d.unlockFrom p.val)

/-- LOCK_TIMEOUT (R413). -/
def execLockTimeout (s : State) : Host.Outcome State Fault Refusal := s.upd (s.dev.onDie fun d => d.endLock 1)

/-- R415 cause 0x1: tIO_CPL expires on the tracked ION of edge `src` with `tag` toward port `p`. -/
def execIoCplTimeout (p : Port) (src : Edge) (tag : BitVec 16) (s : State) : Host.Outcome State Fault Refusal :=
  s.upd (s.dev.onDie fun d =>
    match d.brg.trks.find? fun k => k.port == p && k.src == src && k.tag == tag && !k.got with
    | some k =>
      let d := { d with brg := { d.brg with trks := d.brg.trks.erase k, late := d.brg.late ++ [k] } }
      let d := (d.setOutst p.val ((d.outst p.val).filter fun m => !(m.cls = .ion && m.src == src && m.tag == tag))).count
        (cTile (p.val / 8) 14)
      (d.answer (p.val / 8) k.m (.cpl .ca)).brgFault .brgFarErr F.BRG_ERR.FAR_ERR p.val 1 src.toNat
    | none => d)

/-! ### Group 0xC700 (R425, R426) -/

/-- BRIDGE_CFG (R426). -/
def execBridgeCfg (r : FoernReq) (s : State) : Host.Outcome State Fault Refusal :=
  s.upd (s.dev.onDie fun d => d.foern r (fmCmd 0xC700) fun _ pay d =>
    let w := le pay 0 4
    let cpl := w % 1024
    let lock := w / 1024 % 1024
    if pay.length ≠ 4 || 2 ^ 25 ≤ w || cpl = 0 || 1000 < cpl || lock = 0 || 1000 < lock then .fail .invalidParam
    else
      let d := d.putWord .BRG_CTL 0 w
      .done d (d.stageNow 0x7000 [0]))

/-- BRG_LOCK as it reads now (R422). -/
def Dev.lockWord (d : Dev) : Nat :=
  let n := min d.brg.waiters.length 63 * 2 ^ 14
  match d.brg.lock with
  | some l => l.level + l.holder.val * 4 + (if l.level = 2 then l.target.val * 256 else 0) + n
  | none => n

/-- LOCK_STATUS (R425). -/
def execLockStatus (r : FoernReq) (s : State) : Host.Outcome State Fault Refusal :=
  s.upd (s.dev.onDie fun d => d.foern r (fmCmd 0xC701) fun _ pay d =>
    if pay.length ≠ 0 then .fail .invalidParam
    else .ok (bytes 4 d.lockWord ++ bytes 8 ((d.brg.lock.map (·.since.toNat)).getD 0)) d [])

/-- MCAST_APERTURE_SET (R426). -/
def execMcastApertureSet (r : FoernReq) (s : State) : Host.Outcome State Fault Refusal :=
  s.upd (s.dev.onDie fun d => d.foern r (fmCmd 0xC702) fun h pay d =>
    let e := h.sel.toNat
    let g := le pay 2 2
    let dest := le pay 4 8
    if pay.length ≠ 12 || 63 < e || 1 < le pay 0 1 || le pay 1 1 ≠ 0 || 4095 < g || dest % 4096 ≠ 0 then .fail .invalidParam
    else
      let d := ((d.put F.MCA.VALID e (le pay 0 1)).put F.MCA.GROUP e g).put F.MCA.DEST e dest
      .done d (d.stageNow 0x7001 [4 * e, 4 * e + 1, 4 * e + 2]))

/-- LOCK_RELEASE (R426). -/
def execLockRelease (r : FoernReq) (s : State) : Host.Outcome State Fault Refusal :=
  s.upd (s.dev.onDie fun d => d.foern r (fmCmd 0xC703) fun _ pay d =>
    if pay.length ≠ 0 then .fail .invalidParam
    else if d.brg.lock.isNone then .fail .stateMismatch
    else .done (d.endLock 3))

end Sys2Proof.Machine
end

