-- ==== Sys2Proof/Machine/RouteCmds.lean ====
section
/-!
DEFINITION. Group 0xC200: routes, bindings, multicast groups and auxiliary partitions (R171 to R175, R192, R215, R216).
-/

namespace Sys2Proof.Machine

/-! ### Routes (R171, R212, R215) -/

/-- Whether a route entry may be written (R216): reserved bits, and a valid entry that names a disabled port. -/
def Dev.routeOk (d : Dev) (w : Nat) : Bool :=
  decide (w < 256) && (w % 2 == 0 || w / 2 % 2 == 1 || d.enabled (w / 4))

/-- Write a route entry; one with VALID = 0 clears its route. -/
def Dev.putRoute (d : Dev) (e w : Nat) : Dev := d.putWord .TIL_ROUTE e (if w % 2 = 0 then 0 else w)

/-- ROUTE_WRITE (R171). -/
def execRouteWrite (r : FoernReq) (s : State) : Host.Outcome State Fault Refusal :=
  s.upd (s.dev.onDie fun d => d.foern r (fmCmd 0xC200) fun _ pay d =>
    let e := le pay 0 2
    let n := le pay 2 2
    let ws := wordsOf (pay.drop 4)
    if n = 0 || 256 < n || 4096 < e + n || pay.length ≠ 4 + 4 * n || ws.any (fun w => !d.routeOk w) then .fail .invalidParam
    else
      let d := (List.range n).foldl (fun d k => d.putRoute (e + k) (ws.getD k 0)) d
      .done d (d.stageNow 0x2000 ((List.range n).map (e + ·))))

/-- ROUTE_READ (R215). -/
def execRouteRead (r : FoernReq) (s : State) : Host.Outcome State Fault Refusal :=
  s.upd (s.dev.onDie fun d => d.foern r (fmCmd 0xC204) fun _ pay d =>
    let e := le pay 0 2
    let n := le pay 2 2
    if pay.length ≠ 4 || n = 0 || 256 < n || 4096 < e + n then .fail .invalidParam
    else .ok ((List.range n).flatMap fun k => bytes 4 (d.word .TIL_ROUTE (e + k))) d [])

/-! ### Bindings (R173 to R175, R214) -/

/-- The number of a vPPB entry. -/
def vppbNo (h v : Nat) : Nat := h * 32 + v

/-- R173: a target that a vPPB may be bound to: routed, and not the edge ID of a local port whose role is not target. -/
def Dev.bindTarget (d : Dev) (e : Nat) : Bool :=
  d.bit F.TIL_ROUTE.VALID e &&
    (List.range 64).all fun p => !(d.bit F.TIL_PCFG.EDGE_VALID p && d.get F.TIL_PCFG.EDGE_ID p == e) || d.isTarget p

/-- R173: a device bound whole, or this logical device of it, is bound to a vPPB already.
DEDUCED, unsafe: log entry 27. -/
def Dev.ldBound (d : Dev) (e ld : Nat) (ldv : Bool) : Bool :=
  (List.range 2048).any fun i =>
    d.get F.TIL_VPPB.STATE i != 0 && d.get F.TIL_VPPB.TARGET_EDGE i == e &&
      (!ldv || !d.bit F.TIL_VPPB.LD_VALID i || d.get F.TIL_VPPB.LD_ID i == ld)

/-- R259: a valid window uses this logical device. -/
def Dev.ldWindowed (d : Dev) (e ld : Nat) (ldv : Bool) : Bool :=
  (List.range 256).any fun w => d.bit F.WIN.VALID w && (List.range (d.winWays w)).any fun j =>
    let k := w * 16 + j
    d.get F.WIN.TEDGE k == e && (!ldv || !d.bit F.WIN.TLD_VALID k || d.get F.WIN.TLD_ID k == ld)

/-- A BIND or UNBIND runs on host port `h`. -/
def Dev.binding (d : Dev) (h : Nat) : Bool := (d.bgFind 0xC201 h).isSome || (d.bgFind 0xC202 h).isSome

/-- The port that an edge ID's traffic takes, whose counts order the events of a target behind it (R406). -/
def Dev.sourcePort (d : Dev) (e : Nat) : Option Nat :=
  match d.route (BitVec.ofNat 12 e) with
  | .port p => some p
  | _ => none

/-- R409: the source of a target's events holds 32 of them. -/
def Dev.eventsFull (d : Dev) (e : Nat) : Bool :=
  match d.sourcePort e with
  | some p => decide (32 ≤ (d.prt p).events.length)
  | none => false

/-- A hot-plug event of a target on the vPPBs bound to it (R407); without a route it waits for nothing.
DEDUCED, unsafe: log entry 28. -/
def Dev.hotplugTarget (d : Dev) (e : Nat) : Dev :=
  match d.sourcePort e with
  | some p => d.hotplugEdge p (BitVec.ofNat 12 e)
  | none => (d.boundTo (BitVec.ofNat 12 e)).foldl (fun d x =>
      d.deliverEvent x.1 { stamp := 0, what := .hotplug (Fin.ofNat 64 x.1) (Fin.ofNat 32 x.2) }) d

/-- BIND of vPPB `v` of host port `p` to edge ID `e`; `b` holds a logical device in [3:0], valid by bit 7.
DEDUCED, unsafe: log entry 27. -/
def Dev.bindReq (d : Dev) (p v b e : Nat) : Ans :=
  let ldv := decide (128 ≤ b)
  let i := vppbNo p v
  if 64 ≤ p || !d.isHost p || v = 0 || 31 < v || b / 16 % 8 ≠ 0 || 4096 ≤ e || !d.bindTarget e then .fail .invalidParam
  else if d.get F.TIL_VPPB.STATE i ≠ 0 || d.ldBound e (b % 16) ldv || d.ldWindowed e (b % 16) ldv then .fail .stateMismatch
  else if d.binding p || d.eventsFull e then .fail .busyBackground
  else
    let w := 1 + e * 4 + b % 16 * 2 ^ 14 + (if ldv then 2 ^ 18 else 0)
    .bg p (d.putWord .TIL_VPPB i w) [⟨0x2001, i, w + 1⟩]

/-- BIND (R173). -/
def execBind (r : FoernReq) (s : State) : Host.Outcome State Fault Refusal :=
  s.upd (s.dev.onDie fun d => d.foern r (fmCmd 0xC201) fun h pay d =>
    if pay.length ≠ 4 then .fail .invalidParam else d.bindReq h.sel.toNat (le pay 0 1) (le pay 1 1) (le pay 2 2))

/-- R173: the internal path of the binding vPPB of host port `p` completes. -/
def Dev.bindDone (d : Dev) (p : Nat) : Dev :=
  match (List.range 32).find? fun v => d.get F.TIL_VPPB.STATE (vppbNo p v) == 1 with
  | some v =>
    let i := vppbNo p v
    let e := d.get F.TIL_VPPB.TARGET_EDGE i
    if d.eventsFull e then d
    else
      let d := d.put F.TIL_VPPB.STATE i 2
      let d := match d.sourcePort e with
        | some q => d.arise q (.hotplug (Fin.ofNat 64 p) (Fin.ofNat 32 v))
        | none => d.deliverEvent p { stamp := 0, what := .hotplug (Fin.ofNat 64 p) (Fin.ofNat 32 v) }
      d.bgDone 0xC201 p .ok []
  | none => d

/-- BIND_COMPLETE (R173). -/
def execBindComplete (p : Port) (s : State) : Host.Outcome State Fault Refusal :=
  s.upd (s.dev.onDie fun d => d.bindDone p.val)

/-- Take the messages that `mine` picks out of the queues and the side buffer of port `p`. -/
def Dev.takeMine (d : Dev) (p : Nat) (mine : Msg → Bool) : List QMsg × Dev :=
  let rt := d.prt p
  let qs := d.sw.queues.filter fun x => x.1 / 256 == p
  let all := (qs.flatMap fun x => match x.2 with | some q => q.msgs | none => []) ++ rt.sideNp.map (·.2)
  let d := qs.foldl (fun d x =>
    let q := d.queue x.1
    let keep := q.msgs.filter fun y => !mine y.m
    let same := decide ((keep : List QMsg).head? = q.msgs.head?)
    let d := d.setQueue x.1 { q with msgs := keep, headOff := if same then q.headOff else 0, bad := q.bad && same }
    if q.bad && !same then d.retire (p / 8) else d) d
  (all.filter fun y => mine y.m, d.setPrt p { rt with sideNp := rt.sideNp.filter fun y => !mine y.2.m })

/-- Messages of the pipeline that `mine` picks, which have not committed, are answered as lost when they do. -/
def Dev.turnPipe (d : Dev) (mine : Msg → Bool) : Dev :=
  let turned := d.sw.pipe.filter fun x => mine x.m
  (d.unhold turned).setPipe fun x => if mine x.m then { x with dest := .answer .lost, gate := .go, pol := none, resv := false } else x

/-- R174 mode 0x2: the requests of host port `h`'s hierarchy that are queued or outstanding toward target `e`, and the
logical device if one is named. The flush is logged with cause 0x6 (R198); the target port stays up.
DEDUCED, unsafe: log entry 27. -/
def Dev.flushTarget (d : Dev) (h e : Nat) (ld : Option Nat) : Dev :=
  match d.sourcePort e with
  | none => d
  | some p =>
    let mine (m : Msg) : Bool := m.src == d.edgeOf h && m.dst.toNat == e && (ld.isNone || ld == some m.ldId.toNat) && !m.mcast &&
      (m.cls = .req || m.cls = .rwd || m.cls = .ion || m.cls = .iop)
    let d := (d.set F.TIL_ERR.LAYOVER (p / 8)).raise .layoverExpire (uTile (p / 8) 0x11) p (p + 6 * 256)
    let (queued, d) := d.takeMine p mine
    let d := queued.foldl (fun d y => d.flushMsg p y) d
    let (staged, d) := d.takeStaged fun s => mine s.m
    let d := staged.foldl (fun d s => (d.lostAnswer (uTile (p / 8) 0x11) p s.m).ends s) d
    (d.turnPipe mine).loseReqs p ((d.outst p).filter mine)

/-- An unbind ends: the event of R407, then the vPPB is unbound. -/
def Dev.unbindDone (d : Dev) (p v : Nat) : Dev :=
  let i := vppbNo p v
  let d := d.hotplugTarget (d.get F.TIL_VPPB.TARGET_EDGE i)
  let x : VppbRt := { d.brg.vppb.get VppbRt.reset i with unbind := none, attn := false }
  let d := { d with brg := { d.brg with vppb := d.brg.vppb.put VppbRt.reset i x } }
  (d.putWord .TIL_VPPB i 0).bgDone 0xC202 p .ok []

/-- The vPPB of host port `p` that is being unbound, with its mode. -/
def Dev.unbinding (d : Dev) (p : Nat) : Option (Nat × Fin 3) :=
  (List.range 32).findSome? fun v => ((d.brg.vppb.get VppbRt.reset (vppbNo p v)).unbind).map fun m => (v, m)

/-- A surprise removal ends at once. -/
def Dev.surprise (d : Dev) (p : Nat) : Dev :=
  match d.unbinding p with
  | some (v, 2) => d.unbindDone p v
  | _ => d

/-- R413: the surprise removal of the locked vPPB of host port `h` ends the locked sequence. -/
def Dev.unbindLock (d : Dev) (h e : Nat) : Dev :=
  match d.brg.lock, d.sourcePort e with
  | some l, some p => if l.level = 2 && l.holder.val = h && l.target.val = p then d.endLock 4 else d
  | _, _ => d

/-- R174: start unbinding vPPB `v` of host port `p`. -/
def Dev.unbindStart (d : Dev) (p v : Nat) (mode : Fin 3) : Dev :=
  let i := vppbNo p v
  let x : VppbRt := { d.brg.vppb.get VppbRt.reset i with unbind := some mode, attn := decide (mode = 1) }
  let d := ({ d with brg := { d.brg with vppb := d.brg.vppb.put VppbRt.reset i x } }).put F.TIL_VPPB.STATE i 3
  if mode = 2 then
    (d.unbindLock p (d.get F.TIL_VPPB.TARGET_EDGE i)).flushTarget p (d.get F.TIL_VPPB.TARGET_EDGE i) (if d.bit F.TIL_VPPB.LD_VALID i then some (d.get F.TIL_VPPB.LD_ID i) else none)
  else d

/-- UNBIND of vPPB `v` of host port `p`; a surprise removal replaces a pending unbind (R175).
DEDUCED, unsafe: log entry 27. -/
def Dev.unbindReq (d : Dev) (p v mode : Nat) : Ans :=
  let i := vppbNo p v
  let e := d.get F.TIL_VPPB.TARGET_EDGE i
  if 64 ≤ p || !d.isHost p || v = 0 || 31 < v || 2 < mode then .fail .invalidParam
  else if d.get F.TIL_VPPB.STATE i = 0 then .fail .stateMismatch
  else if mode = 2 && d.get F.TIL_VPPB.STATE i = 3 then .bg p ((d.bgAbort 0xC202 p).unbindStart p v 2) [⟨0x2001, i, 0⟩]
  else if d.binding p || d.eventsFull e then .fail .busyBackground
  else .bg p (d.unbindStart p v (Fin.ofNat 3 mode)) [⟨0x2001, i, 0⟩]

/-- UNBIND (R174). -/
def execUnbind (r : FoernReq) (s : State) : Host.Outcome State Fault Refusal :=
  s.upd (s.dev.onDie fun d => (d.foern r (fmCmd 0xC202) fun h pay d =>
    if pay.length ≠ 2 then .fail .invalidParam else d.unbindReq h.sel.toNat (le pay 0 1) (le pay 1 1)).surprise (le r.raw 2 2))

/-- The host disables the vPPB's link (`power` false) or turns its slot power off: a mode 0x1 unbind waits for the
power. -/
def execUnbindComplete (p : Port) (power : Bool) (s : State) : Host.Outcome State Fault Refusal :=
  s.upd (s.dev.onDie fun d =>
    match d.unbinding p.val with
    | some (v, m) =>
      if (m = 0 || power) && !d.eventsFull (d.get F.TIL_VPPB.TARGET_EDGE (vppbNo p.val v)) then d.unbindDone p.val v else d
    | none => d)

/-- The vPPB entry as it reads (R214): vPPB 0 of a host port is bound, other roles read 0. -/
def Dev.vppbWord (d : Dev) (i : Nat) : Nat :=
  if d.isHost (i / 32) then (if i % 32 = 0 then 2 else d.word .TIL_VPPB i) else 0

/-- BIND_STATUS (R215). -/
def execBindStatus (r : FoernReq) (s : State) : Host.Outcome State Fault Refusal :=
  s.upd (s.dev.onDie fun d => d.foern r (fmCmd 0xC207) fun h pay d =>
    let p := h.sel.toNat
    if pay.length ≠ 0 || 64 ≤ p || !d.isHost p then .fail .invalidParam
    else .ok ((List.range 32).flatMap fun v => bytes 4 (d.vppbWord (vppbNo p v))) d [])

/-! ### Multicast groups (R192, R213) -/

/-- R192: the group's words on one edge. A change of MEMBERS, ROOT or ROOT_PORT on the root restarts GSEQ. -/
def Dev.putGroup (d : Dev) (g m w : Nat) : Dev :=
  let valid := decide (w % 2 = 1)
  let root := w / 2 % 2
  let port := w / 4 % 64
  let changed := d.get F.TIL_MCAST.MEMBERS g != m || d.get F.TIL_MCAST.ROOT g != root || d.get F.TIL_MCAST.ROOT_PORT g != port
  let wasRoot := d.bit F.TIL_MCAST.ROOT g
  if !valid then (d.clearFlds [F.TIL_MCAST.MEMBERS, F.TIL_MCAST.VALID, F.TIL_MCAST.ROOT, F.TIL_MCAST.ROOT_PORT, F.TIL_MCAST.CLASS, F.TIL_MCAST.GSEQ] g)
  else
    let d := (d.put F.TIL_MCAST.MEMBERS g m).putWord .TIL_MCAST2 g w
    if changed && (wasRoot || root = 1) then d.put F.TIL_MCAST.GSEQ g 0 else d

/-- MCAST_GROUP_SET (R192). -/
def execMcastGroupSet (r : FoernReq) (s : State) : Host.Outcome State Fault Refusal :=
  s.upd (s.dev.onDie fun d => d.foern r (fmCmd 0xC203) fun h pay d =>
    let g := h.sel.toNat
    let w := le pay 8 4
    if pay.length ≠ 12 || 4096 ≤ g || 2048 ≤ w || (w % 4 = 1 && !d.isIl (w / 4 % 64)) then .fail .invalidParam
    else
      let d := d.putGroup g (le pay 0 8) w
      .done d (d.stageNow 0x2002 [4 * g, 4 * g + 1, 4 * g + 2]))

/-- MCAST_GROUP_READ (R215). -/
def execMcastGroupRead (r : FoernReq) (s : State) : Host.Outcome State Fault Refusal :=
  s.upd (s.dev.onDie fun d => d.foern r (fmCmd 0xC205) fun h pay d =>
    let g := h.sel.toNat
    if pay.length ≠ 0 || 4096 ≤ g then .fail .invalidParam
    else .ok (bytes 4 (d.word .TIL_MCAST0 g) ++ bytes 4 (d.word .TIL_MCAST1 g) ++ bytes 4 (d.word .TIL_MCAST2 g) ++
      bytes 4 (d.word .TIL_MCAST3 g)) d [])

/-! ### The auxiliary partition (R186) -/

/-- AUX_PARTITION_SET (R186). DEDUCED, unsafe: log entry 63. -/
def execAuxPartitionSet (r : FoernReq) (s : State) : Host.Outcome State Fault Refusal :=
  s.upd (s.dev.onDie fun d => d.foern r
    { opcode := 0xC206, may := fun p _ _ => fmOnly p, modes := fun m => m = .bringUp || m = .quiesce } fun h pay d =>
    let t := h.sel.toNat
    if pay.length ≠ 4 || 8 ≤ t || 128 < le pay 0 1 || le pay 0 1 < le pay 1 1 + le pay 2 1 + le pay 3 1 then .fail .invalidParam
    else if d.mode = .quiesce && d.auxUsed t .straggler + d.auxUsed t .blend + d.auxUsed t .telemetry ≠ 0 then .fail .notQuiesced
    else
      let d := d.putWord .TIL_AUX_CFG t (le pay 0 4)
      .done d (d.stageNow 0x2003 [t]))

/-! ### A hot reset from the host (R104, R387) -/

/-- R104: the port is down with a window of 0, the virtual bridges of the host's hierarchy lose what the standard's
reset clears, bindings stay, and the host's instances are reset. A management port only goes down (R102, R103). -/
def execHotResetReceived (p : Port) (s : State) : Host.Outcome State Fault Refusal :=
  s.upd (s.dev.onDie fun d =>
    if !d.enabled p.val || d.isTarget p.val || d.isIl p.val then d
    else if !d.isHost p.val then (if (d.prt p.val).up then d.linkDown p.val 5 else d.endLayover p.val)
    else
      let d := if (d.prt p.val).up then d.linkDown p.val 5 else d.endLayover p.val
      let d := (List.range 32).foldl (fun d v =>
        let i := vppbNo p.val v
        let x : VppbRt := { d.brg.vppb.get VppbRt.reset i with pdc := false, dlsc := false, attn := false }
        ({ d with brg := { d.brg with vppb := d.brg.vppb.put VppbRt.reset i x } } : Dev)) d
      d.insResetPort p.val)

end Sys2Proof.Machine
end

