-- ==== Sys2Proof/Machine/Coherence.lean ====
section
/-!
DEFINITION. The commands of the directory slices (chapters 07 and 08): tollgate edges, held answers, timeouts, prefetch,
scrub, dead agents, and group 0xC400.
-/

namespace Sys2Proof.Machine

/-! ### Edges and answers (R279, R297, R301) -/

/-- TOLLGATE_EDGE (R279). -/
def execTollgateEdge (t : Tile) (s : State) : Host.Outcome State Fault Refusal :=
  s.upd (s.dev.onDie fun d => if d.tileFenced t.val then d else d.tollgate t.val)

/-- BI_RESPONSE_RELEASE (R297). -/
def execBiResponseRelease (p : Port) (line : BitVec 46) (s : State) : Host.Outcome State Fault Refusal :=
  s.upd (s.dev.onDie fun d => d.releaseHeld p.val line.toNat)

/-- BI_CONFLICT_ACK (R301). -/
def execBiConflictAck (p : Port) (line : BitVec 46) (s : State) : Host.Outcome State Fault Refusal :=
  s.upd (s.dev.onDie fun d => d.conflictAck p.val line.toNat)

/-! ### Dead agents (R320 to R323) -/

/-- R320: an answer of host `p` for a line is not given within BI_TIMEOUT. -/
def execBiTimeoutExpiry (p : Port) (line : BitVec 46) (s : State) : Host.Outcome State Fault Refusal :=
  s.upd (s.dev.onDie fun d =>
    let l := line.toNat
    let t := homeSlice l
    if d.owes p.val l then
      ((d.set F.DIR_ERR.BISNP_TIMEOUT t).raise .bisnpTimeout (uTile t 0x13) p.val (addrOf l + p.val)).killHost p.val 3
    else d)

/-- R322, R323: the walks for host `h` end: its holdings are reclaimed, the lines poisoned go on the reclaim report, the
DEAD bit clears and the port may train again. The report waits for the sequence of the record of R320, and after a recovery for the reconciliation (R325). -/
def Dev.deadEnd (d : Dev) (h : Port) : Dev :=
  if d.mode = .bringUp && !d.pwr.reconciled then d
  else match d.coh.walks.find? fun w => decide (w.why = .dead h), d.lastSeq .agentDead h.val with
  | some w, some seq =>
    let (d, l) := d.deadWalk h.val
    let d := l.foldl (fun d x => d.report
      { ty := 0x10, b1 := h.val, inst := x.2.2, lines := x.2.1, addr := BitVec.ofNat 64 (addrOf x.1) } seq) d
    let d := d.eachSlice fun d t => d.put F.DIR_RECLAIM.BUSY t 0
    let d := d.put F.DIR_DEAD.DEAD 0 (d.get F.DIR_DEAD.DEAD - 2 ^ h.val)
    let d := { d with coh := { d.coh with
      walks := d.coh.walks.erase w, deadDown := dropHost d.coh.deadDown h.val } }
    let n := l.foldl (fun a x => a + x.2.1) 0
    (List.range 8).foldl (fun d _ => d.bgDone 0xC403 h.val .ok (bytes 4 n)) d
  | _, _ => d

/-- DEAD_AGENT_WALK_END (R323). DEDUCED, unsafe: log entry 24. -/
def execDeadAgentWalkEnd (p : Port) (s : State) : Host.Outcome State Fault Refusal :=
  s.upd (s.dev.onDie fun d => d.deadEnd p)

/-- R265: ENABLE is written as 1. `ok`: the four opcodes are values that the standard leaves reserved in their classes.
DESIGN CHOICE, unsafe: log entry 8. -/
def execFwdDvsecEnable (p : Port) (ok : Bool) (s : State) : Host.Outcome State Fault Refusal :=
  s.upd (s.dev.onDie fun d =>
    if !d.isHost p.val then d
    else
      let d := d.set F.FWDV.ENABLE p.val
      let on := d.get F.DIR_FWD.ACTIVE
      if ok then
        ((d.set F.FWDV.ACTIVE p.val).put F.FWDV.OPC_ERR p.val 0).put F.DIR_FWD.ACTIVE 0
          (if on.testBit p.val then on else on + 2 ^ p.val)
      else d.set F.FWDV.OPC_ERR p.val)

/-! ### Prefetch and scrub (R312 to R315) -/

/-- Whether lanes W, P and Q of slice `t` take nothing on this edge. -/
def Dev.laneIdle (d : Dev) (t : Nat) : Bool :=
  let w := (d.slice t).wPick
  let d := d.moveWrites t
  let s := d.slice t
  let used := s.parked.length + s.p.length
  w.isNone && (d.pPick t).isNone &&
    match s.qPick (d.get F.DIR_PTR.PTR t) with
    | none => true
    | some o =>
      if s.busy (lineOf o.m.addr.toNat) then decide (256 ≤ used)
      else decide (4096 - s.trks.length ≤ used) || s.noSlot o || (!d.wayOk t o && decide (256 ≤ used))

/-- PREFETCH_HINT_ACCEPT (R312). -/
def execPrefetchHintAccept (t : Tile) (s : State) : Host.Outcome State Fault Refusal :=
  s.upd (s.dev.onDie fun d => if d.laneIdle t.val then d.acceptHint t.val else d)

/-- PREFETCH_READ_RETURN (R313). -/
def execPrefetchReadReturn (t : Tile) (id : Fin 4096) (data : Line) (poison : Bool) (s : State) :
    Host.Outcome State Fault Refusal :=
  s.upd (s.dev.onDie fun d =>
    match (d.slice t.val).trks.find? fun k => k.id == id.val && k.reading with
    | some k => if k.job = .prefetch then d.readReturn t.val id.val 0 data poison else d
    | none => d)

/-- PREFETCH_LINE_EXPIRY (R314). -/
def execPrefetchLineExpiry (t : Tile) (line : BitVec 46) (s : State) : Host.Outcome State Fault Refusal :=
  s.upd (s.dev.onDie fun d => d.expirePf t.val line.toNat)

/-- `errs`: what has flipped in the row's codewords. The scrub reads its next row, unless SCRUB_INT = 0 stops it (R329); `look`
names the set that a demand look-up reads in its place (R315). -/
def execScrubRowRead (t : Tile) (look : Option (BitVec 18)) (errs : List CwErr) (s : State) : Host.Outcome State Fault Refusal :=
  s.upd (s.dev.onDie fun d => match look with
    | some set => d.readRow t.val set.toNat errs
    | none => if d.get F.DIR_RECOV_CTL.SCRUB_INT = 0 then d else d.scrubRow t.val errs)

/-- tTGT expires on the target read of tracker `id`, or on the target write of writeback slot `id` (R319). -/
def execTargetTimeout (t : Tile) (write : Bool) (id : Fin 4096) (s : State) : Host.Outcome State Fault Refusal :=
  s.upd (s.dev.onDie fun d => if write then d.writeTimeout t.val id.val else d.readTimeout t.val id.val)

/-! ### Directory quotas (R369) -/

/-- The entries of instance `i` in slice `t` that a quota search may take, in set and way order from the cursor. -/
def Dev.quotaVictims (d : Dev) (t : Nat) (i : Fin 1024) : List (Nat × Entry) :=
  let l := d.coh.dir.filter fun x =>
    x.1 / 16 / 2 ^ 18 == t && decide (x.2.inst = some i) && decide (x.2.st ≠ .b) && decide (x.2.st ≠ .u) && !x.2.poison
  let c := (d.slice t).cursor
  l.filter (fun x => c ≤ x.1 % 2 ^ 22) ++ l.filter (fun x => x.1 % 2 ^ 22 < c)

/-- The search of R369 for the request of tracker `id`: its victim is evicted; the request goes on once the eviction has
ended. -/
def Dev.quotaSearch (d : Dev) (t id : Nat) : Dev :=
  match (d.slice t).trk? id with
  | none => d
  | some k =>
    match k.op.m.inst with
    | none => d
    | some i =>
      let running := (d.slice t).trks.any fun j => j.job = .flush && (j.key.map fun x => (d.entry x).inst) == some (some i)
      if !k.quota || running then d
      else match d.quotaVictims t i with
        | [] => d
        | (key, e) :: _ =>
          if !(d.slice t).trkFree then d
          else
          let d := (d.count (cDev 22)).setSlice t { d.slice t with cursor := (key % 2 ^ 22 + 1) % 2 ^ 22 }
          d.flushEntry key e (hostsOf e.sharers)

/-- DIR_QUOTA_VICTIM_FOUND (R369). DEDUCED, unsafe: log entry 24. -/
def execDirQuotaVictimFound (t : Tile) (id : Fin 4096) (s : State) : Host.Outcome State Fault Refusal :=
  s.upd (s.dev.onDie fun d => d.quotaSearch t.val id.val)

/-! ### Windows and grants (R257 to R262, R292 to R295) -/

/-- The fabric range of a grant or translation overlaps window `w`. -/
def Dev.touchesWin (d : Dev) (w base size : Nat) : Bool :=
  decide (base < d.winBase w + d.winSize w) && decide (d.winBase w < base + size)

/-- A grant or an instance translation of this C64 references window `w`. -/
def Dev.winUsed (d : Dev) (w : Nat) : Bool :=
  ((d.listed F.GRANT.VALID).any fun k => d.bit F.GRANT.VALID k && d.bit F.GRANT.LOCAL k &&
      d.touchesWin w (d.get F.GRANT.FBASE k * 2 ^ 28) (d.get F.GRANT.SIZE k * 2 ^ 28)) ||
    ((d.listed F.XLATE.VALID).any fun k => d.bit F.XLATE.VALID k && d.bit F.XLATE.LOCAL k && d.bit F.INS.VALID (k / 64) &&
      d.touchesWin w (d.get F.XLATE.FBASE k * 2 ^ 21) (d.get F.XLATE.SIZE k * 2 ^ 21))

/-- WINDOW_CREATE (R295). -/
def execWindowCreate (r : FoernReq) (s : State) : Host.Outcome State Fault Refusal :=
  s.upd (s.dev.onDie fun d => d.foern r (fmCmd 0xC400) fun h pay d =>
    let w := h.sel.toNat
    let w0 := le pay 0 4
    let base := le pay 4 4
    let size := w0 / 2 ^ 8 % 16
    let n := 2 ^ (w0 / 2 ^ 12 % 4 + 1)
    let tg (j : Nat) := le pay (8 + 8 * j) 4
    let edge (j : Nat) := tg j % 4096
    let pf := decide (w0 / 4 % 2 = 1)
    let overlap := (List.range 256).any fun v => d.bit F.WIN.VALID v && v != w && d.touchesWin v (base * 2 ^ 28) (2 ^ (size + 28))
    if 256 ≤ w || pay.length ≠ 8 + 8 * n || w0 / 2 ^ 15 ≠ 0 || w0 / 2 ^ 7 % 2 ≠ 0 || 14 < size || 2 ^ 24 ≤ base ||
        base % 2 ^ size ≠ 0 || overlap || (List.range n).any (fun j => decide (2 ^ 17 ≤ tg j) || !d.bindTarget (edge j)) ||
        (pf && (w0 / 2 % 2 = 0 || w0 / 8 % 16 = 0)) then .fail .invalidParam
    else if d.bit F.WIN.VALID w || (List.range n).any (fun j => d.ldBound (edge j) (tg j / 2 ^ 12 % 16) (2 ^ 16 ≤ tg j)) then
      .fail .stateMismatch
    else
      let d := (List.range 8).foldl (fun d t => if d.get F.TIL_PWR_STATUS.STATE t = 3 then d.demand t else d) d
      let d := (d.putWord .WIN0 w (w0 / 2 * 2 + 1)).putWord .WIN1 w base
      let d := (List.range 16).foldl (fun d j =>
        (d.putWord .WIN_TGT (w * 16 + j) (if j < n then tg j else 0)).putWord .WIN_TDPA (w * 16 + j)
          (if j < n then le pay (12 + 8 * j) 4 else 0)) d
      .done d (d.stageNow 0x4002 ([w * 64, w * 64 + 1] ++ (List.range 32).map fun k => w * 64 + 4 + k)))

/-- WINDOW_DESTROY (R295). -/
def execWindowDestroy (r : FoernReq) (s : State) : Host.Outcome State Fault Refusal :=
  s.upd (s.dev.onDie fun d => d.foern r (fmCmd 0xC401) fun h pay d =>
    let w := h.sel.toNat
    if 256 ≤ w || pay.length ≠ 0 then .fail .invalidParam
    else if !d.bit F.WIN.VALID w || d.winUsed w then .fail .stateMismatch
    else if d.coh.destroying.contains w then .fail .busyBackground
    else
      let d := { d with coh := { d.coh with destroying := d.coh.destroying ++ [w] } }
      .bg w (d.walkStart (.destroy (Fin.ofNat 256 w))) [⟨0x4002, w * 64, d.paramNow 0x4002 (w * 64) - 1⟩])

/-- Lines of window `w`. -/
def Dev.inWin (d : Dev) (w line : Nat) : Bool := d.windowOf (addrOf line) == some w

/-- A target access of window `w` is outstanding, or an entry of it is held or under a transaction. -/
def Dev.winBusy (d : Dev) (w : Nat) : Bool :=
  d.coh.slices.any (fun x => x.2.trks.any (fun k => d.inWin w k.line) || x.2.wbs.any (fun b => d.inWin w b.line)) ||
    d.coh.dir.any fun x => x.2.st ≠ .u && d.inWin w (lineAtKey x.1 x.2.tag)

/-- Clear the poison marks of the lines that `pick` selects; answers how many (R309). -/
def Dev.clearMarks (d : Dev) (pick : Nat → Bool) : Dev × Nat :=
  let (d, n) := d.coh.dir.foldl (fun (acc : Dev × Nat) x =>
    let e := acc.1.entry x.1
    let line := lineAtKey x.1 e.tag
    if e.poison && pick line then
      let d := (acc.1.count (cTile (x.1 / 16 / 2 ^ 18) 55)).putEntry x.1 (if e.st = .u then Entry.free else { e with poison := false })
      (if e.st = .u then d.released (x.1 / 16 / 2 ^ 18) line else d, acc.2 + 1)
    else acc) (d, 0)
  (List.range 8).foldl (fun (acc : Dev × Nat) t =>
    let gone := (acc.1.slice t).marks.filter fun x => pick x.1
    let d := acc.1.setSlice t { acc.1.slice t with marks := (acc.1.slice t).marks.filter fun x => !pick x.1 }
    (gone.foldl (fun d x => (d.count (cTile t 55)).release t (.line x.1)) d, acc.2 + gone.length)) (d, n)

/-- Drop prefetch buffer lines (R314). -/
def Dev.dropPfBy (d : Dev) (pick : Nat → Bool) : Dev :=
  d.eachSlice fun d t => ((d.slice t).pf.filter fun x => pick x.1).foldl (fun d x => d.dropPf t x.1) d

/-- R295: once no target access of the window is outstanding, its marks and prefetch lines go, and VALID clears. -/
def Dev.destroyEnd (d : Dev) (w : Fin 256) : Dev :=
  match d.walkEnd (.destroy w) with
  | (d, none) => d
  | (d', some _) =>
    if d'.winBusy w.val then
      -- lines taken since by a request already accepted
      if d'.walkBusy then d else d'.walkStart (.destroy w)
    else
      let d := ((d'.clearMarks (d'.inWin w.val)).1.dropPfBy (d'.inWin w.val)).put F.WIN.VALID w.val 0
      ({ d with coh := { d.coh with destroying := d.coh.destroying.erase w.val } }).bgDone 0xC401 w.val .ok []

/-- WINDOW_DESTROY_COMPLETE (R295). -/
def execWindowDestroyComplete (w : Fin 256) (s : State) : Host.Outcome State Fault Refusal :=
  s.upd (s.dev.onDie fun d => d.destroyEnd w)

/-- PREFETCH_CFG (R295). -/
def execPrefetchCfg (r : FoernReq) (s : State) : Host.Outcome State Fault Refusal :=
  s.upd (s.dev.onDie fun d => d.foern r (fmCmd 0xC404) fun h pay d =>
    let w := h.sel.toNat
    let v := le pay 0 4
    if 256 ≤ w || pay.length ≠ 4 || 31 < v || v = 1 then .fail .invalidParam
    else if !d.bit F.WIN.VALID w || !d.bit F.WIN.PREFETCHABLE w then .fail .stateMismatch
    else
      let d := (d.put F.WIN.PF_EN w (v % 2)).put F.WIN.PF_DEPTH w (v / 2)
      .done (if v % 2 = 0 then d.dropPfBy (d.inWin w) else d) (d.stageNow 0x4002 [w * 64]))

/-- Two ranges overlap. -/
def rangesMeet (a n b m : Nat) : Bool := decide (a < b + m) && decide (b < a + n)

/-- R261: a DPA range of host port `p`, in bytes, meets a grant other than `g`, or an aperture other than instance `i`. -/
def Dev.dpaClash (d : Dev) (p : Nat) (g i : Option Nat) (base size : Nat) : Bool :=
  (List.range 32).any (fun j => some j != g && d.bit F.GRANT.VALID (p * 32 + j) &&
      rangesMeet base size (d.get F.GRANT.DPA_BASE (p * 32 + j) * 2 ^ 28) (d.get F.GRANT.SIZE (p * 32 + j) * 2 ^ 28)) ||
    (d.listed F.INS.VALID).any fun j => some j != i && d.bit F.INS.VALID j && d.get F.INS.HOST_PORT j == p &&
      rangesMeet base size (d.apBase j) (d.apSize j)

/-- A grant that R261 does not allow: its size, or a range that passes the DPA space or the fabric address space (R295). -/
def badGrant (dpa size fb : Nat) : Bool :=
  decide (size = 0) || decide (16384 < size) || decide (2 ^ 18 < dpa + size) || decide (2 ^ 24 < fb + size)

/-- R286: window `w` no longer meets R257 or R259, or overlaps a lower-numbered window. -/
def Dev.winBad (d : Dev) (w : Nat) : Bool :=
  let tg (j : Nat) := d.get F.WIN.TEDGE (w * 16 + j)
  decide (14 < d.get F.WIN.SIZE w) || decide (d.winBase w % d.winSize w ≠ 0) ||
    (List.range w).any (fun v => d.bit F.WIN.VALID v && d.touchesWin v (d.winBase w) (d.winSize w)) ||
    (List.range (d.winWays w)).any fun j =>
      (d.bit F.TIL_ROUTE.VALID (tg j) && !d.bindTarget (tg j)) ||
        d.ldBound (tg j) (d.get F.WIN.TLD_ID (w * 16 + j)) (d.bit F.WIN.TLD_VALID (w * 16 + j))

/-- R286: grant `k` (port × 32 + index) no longer meets R261, or overlaps a lower-numbered grant of its port. -/
def Dev.grantBad (d : Dev) (k : Nat) : Bool :=
  let p := k / 32
  let dpa := d.get F.GRANT.DPA_BASE k
  let size := d.get F.GRANT.SIZE k
  badGrant dpa size (d.get F.GRANT.FBASE k) ||
    (List.range (k % 32)).any (fun j => d.bit F.GRANT.VALID (p * 32 + j) &&
      rangesMeet dpa size (d.get F.GRANT.DPA_BASE (p * 32 + j)) (d.get F.GRANT.SIZE (p * 32 + j))) ||
    (d.listed F.INS.VALID).any fun j => d.bit F.INS.VALID j && d.get F.INS.HOST_PORT j == p &&
      rangesMeet (dpa * 2 ^ 28) (size * 2 ^ 28) (d.apBase j) (d.apSize j)

/-- R286: at Bring-up every window and grant is checked; one that fails is logged and made invalid.
DEDUCED, unsafe: log entry 25. -/
def Dev.checkWindows (d : Dev) : Dev :=
  let d := (d.listed F.WIN.VALID).foldl (fun d w =>
    if d.bit F.WIN.VALID w && d.winBad w then
      (d.put F.WIN.VALID w 0).cohFault .windowCfg F.DIR_ERR.WINDOW_CFG 0 0 w
    else d) d
  (d.listed F.GRANT.VALID).foldl (fun d k =>
    if d.bit F.GRANT.VALID k && d.grantBad k then
      (d.put F.GRANT.VALID k 0).cohFault .windowCfg F.DIR_ERR.WINDOW_CFG (k / 256) 0 (k % 32 + k / 32 * 256 + 2 ^ 16)
    else d) d

/-- WINDOW_GRANT. The limits on a range are those of a grant being set. -/
def execWindowGrant (r : FoernReq) (s : State) : Host.Outcome State Fault Refusal :=
  s.upd (s.dev.onDie fun d => d.foern r (fmCmd 0xC405) fun h pay d =>
    let p := h.sel.toNat
    let g := le pay 0 1
    let fl := le pay 1 1
    let home := le pay 2 2
    let dpa := le pay 4 4
    let size := le pay 8 4
    let fb := le pay 12 4
    let k := p * 32 + g
    let valid := decide (fl % 2 = 1)
    let bad := badGrant dpa size fb || fl = 3
    if 64 ≤ p || !d.isHost p || pay.length ≠ 16 || 31 < g || 7 < fl || 4095 < home || (valid && bad) then .fail .invalidParam
    else if valid then
      if d.dpaClash p (some g) none (dpa * 2 ^ 28) (size * 2 ^ 28) then .fail .stateMismatch
      else
        let d := (((d.putWord .GRANT0 k (fl + home * 8)).putWord .GRANT1 k dpa).putWord .GRANT2 k size).putWord .GRANT3 k fb
        .done d (d.stageNow 0x4003 ((List.range 4).map fun j => 4 * k + j))
    else
      let lo := d.get F.GRANT.FBASE k * 2 ^ 22
      let hi := if d.bit F.GRANT.VALID k && d.bit F.GRANT.LOCAL k then lo + d.get F.GRANT.SIZE k * 2 ^ 22 else lo
      let d := d.put F.GRANT.VALID k 0
      .bg k (d.walkStart (.revoke (Fin.ofNat 64 p) (Fin.ofNat 32 g) lo hi)) (d.stageNow 0x4003 [4 * k]))

/-- Host port `p` still holds lines of a revoked range through grants, or a request that decoded before still runs, and no grant
covers the line anew (R284). -/
def Dev.revokeLeft (d : Dev) (p lo hi : Nat) : Bool :=
  let free (line : Nat) : Bool := decide (lo ≤ line) && decide (line < hi) && !(List.range 32).any fun j =>
    let k := p * 32 + j
    let base := d.get F.GRANT.FBASE k * 2 ^ 22
    d.bit F.GRANT.VALID k && decide (base ≤ line) && decide (line < base + d.get F.GRANT.SIZE k * 2 ^ 22)
  let mine (m : Msg) : Bool := m.src == d.edgeOf p && m.inst.isNone && free (lineOf m.addr.toNat) &&
    match m.op with | .rdS | .rdA | .invA => true | _ => false
  d.coh.dir.any (fun x => x.2.inst.isNone && x.2.holds p && free (lineAtKey x.1 x.2.tag)) ||
    d.sw.pipe.any (fun x => x.port.val == p && mine x.m) ||
    d.coh.slices.any fun x => x.2.q.any (fun o => mine o.m) || x.2.p.any (fun o => mine o.m) ||
      x.2.parked.any (fun o => mine o.2.m) || x.2.trks.any fun k => !k.done && k.job = .demand && mine k.op.m

/-- The revocation of grant `g` of host port `p` ends once its back-invalidates have, and covers the lines that requests decoded
against the old grant took meanwhile (R284). -/
def execWindowGrantRevokeComplete (p : Port) (g : Fin 32) (s : State) : Host.Outcome State Fault Refusal :=
  s.upd (s.dev.onDie fun d =>
    match d.coh.walks.find? fun w => match w.why with | .revoke q j _ _ => q == p && j == g | _ => false with
    | some w =>
      match d.walkEnd w.why, w.why with
      | (d', some _), .revoke _ _ lo hi =>
        if d'.revokeLeft p.val lo hi then d'.walkStart w.why else d'.bgDone 0xC405 (p.val * 32 + g.val) .ok []
      | (d', _), _ => d'
    | none => d)

/-! ### Flushes, dead agents, status and dumps (R294, R295) -/

/-- DIR_FLUSH_HOST (R295). -/
def execDirFlushHost (r : FoernReq) (s : State) : Host.Outcome State Fault Refusal :=
  s.upd (s.dev.onDie fun d => d.foern r (fmCmd 0xC402) fun h pay d =>
    let p := h.sel.toNat
    let w := le pay 0 2
    let host := if p = 0xFFFF then none else some (Fin.ofNat 64 p)
    let win := if w = 0xFFFF then none else some (Fin.ofNat 256 w)
    if pay.length ≠ 4 || le pay 2 2 ≠ 0 || (p ≠ 0xFFFF && (64 ≤ p || !d.isHost p)) || (w ≠ 0xFFFF && 256 ≤ w) then
      .fail .invalidParam
    else if w ≠ 0xFFFF && !d.bit F.WIN.VALID w then .fail .stateMismatch
    else .bg (p * 65536 + w) (d.walkStart (.flush host win)) [])

/-- DIR_FLUSH_WALK_END (R295). -/
def execDirFlushWalkEnd (host : Option Port) (window : Option (Fin 256)) (s : State) : Host.Outcome State Fault Refusal :=
  s.upd (s.dev.onDie fun d =>
    match d.walkEnd (.flush host window) with
    | (d, some n) =>
      d.bgDone 0xC402 ((host.map (·.val)).getD 0xFFFF * 65536 + (window.map (·.val)).getD 0xFFFF) .ok (bytes 4 n)
    | (d, none) => d)

/-- AGENT_DECLARE_DEAD (R320). -/
def execAgentDeclareDead (r : FoernReq) (s : State) : Host.Outcome State Fault Refusal :=
  s.upd (s.dev.onDie fun d => d.foern r (fmCmd 0xC403) fun h pay d =>
    let p := h.sel.toNat
    if pay.length ≠ 0 || 64 ≤ p || !d.isHost p then .fail .invalidParam
    else .bg p (d.killHost p 4) [])

/-- WINDOW_STATUS (R294). -/
def execWindowStatus (r : FoernReq) (s : State) : Host.Outcome State Fault Refusal :=
  s.upd (s.dev.onDie fun d => d.foern r (fmCmd 0xC406) fun h pay d =>
    let w := h.sel.toNat
    if pay.length ≠ 0 || 256 ≤ w then .fail .invalidParam
    else .ok (bytes 4 (d.word .WIN0 w) ++ bytes 4 (d.word .WIN1 w) ++
      bytes 4 (if d.bit F.WIN.VALID w then (d.coh.dir.filter fun x => x.2.valid && d.inWin w (lineAtKey x.1 x.2.tag)).length else 0)) d [])

/-- The 256 bytes of a set row; retired ways read free. -/
def Dev.setRow (d : Dev) (t set : Nat) : List (BitVec 8) :=
  (List.range 16).flatMap fun w => bytes 16 (if d.wayLost t set w then 0 else (d.entry (dirKey t set w)).bits)

/-- DIR_SET_READ (R294). -/
def execDirSetRead (r : FoernReq) (s : State) : Host.Outcome State Fault Refusal :=
  s.upd (s.dev.onDie fun d => d.foern r (fmCmd 0xC407) fun h pay d =>
    let t := h.sel.toNat
    let set := le pay 0 4
    if pay.length ≠ 4 || 8 ≤ t || 2 ^ 18 ≤ set then .fail .invalidParam
    else .ok (d.setRow t set) d [])

/-- DIR_DUMP (R294). -/
def execDirDump (r : FoernReq) (s : State) : Host.Outcome State Fault Refusal :=
  s.upd (s.dev.onDie fun d =>
    d.foern r { opcode := 0xC408, may := fun p _ _ => fmOnly p, modes := fun m => m = .quiesce } fun h pay d =>
    let t := h.sel.toNat
    if pay.length ≠ 0 || (t ≠ 0xFFFF && 8 ≤ t) then .fail .invalidParam
    else if d.car.dump.isSome then .fail .busyBackground
    else
      let x := if t = 0xFFFF then (0, 8 * 2 ^ 18 - 1) else (t * 2 ^ 18, t * 2 ^ 18 + (2 ^ 18 - 1))
      .bg 0 { d with car := { d.car with dump := some x } } [])

/-- The dump finishes once its last row has gone out. -/
def execDirDumpComplete (s : State) : Host.Outcome State Fault Refusal :=
  s.upd (s.dev.onDie fun d =>
    match d.car.dump with
    | some (n, last) =>
      if last < n && (d.car.cur.map fun b => b.head.stream) != some 4 then
        ({ d with car := { d.car with dump := none } }).bgDone 0xC408 0 .ok []
      else d
    | none => d)

/-- DIR_MARK_CLEAR (R333). -/
def execDirMarkClear (r : FoernReq) (s : State) : Host.Outcome State Fault Refusal :=
  s.upd (s.dev.onDie fun d => d.foern r (fmCmd 0xC409) fun h pay d =>
    let w := h.sel.toNat
    let off := le pay 0 8
    let n := le pay 8 4
    if pay.length ≠ 12 || 256 ≤ w || off % 64 ≠ 0 || n = 0 || 2 ^ 20 < n || (d.bit F.WIN.VALID w && d.winSize w < off + 64 * n) then
      .fail .invalidParam
    else if !d.bit F.WIN.VALID w then .fail .stateMismatch
    else
      let lo := lineOf (d.winBase w + off)
      .bg w { d with coh := { d.coh with walks := d.coh.walks ++ [{ why := .clear (Fin.ofNat 256 w) lo n, left := [], count := 0 }] } } [])

/-- R309: the marks of the range are cleared and counted. DEDUCED, unsafe: log entry 24. -/
def execDirMarkClearComplete (w : Fin 256) (s : State) : Host.Outcome State Fault Refusal :=
  s.upd (s.dev.onDie fun d =>
    match d.coh.walks.find? fun x => match x.why with | .clear v _ _ => v == w | _ => false with
    | some x =>
      match x.why with
      | .clear _ lo n =>
        let d := { d with coh := { d.coh with walks := d.coh.walks.erase x } }
        let (d, k) := d.clearMarks fun l => decide (lo ≤ l) && decide (l < lo + n)
        d.bgDone 0xC409 w.val .ok (bytes 4 k)
      | _ => d
    | none => d)

end Sys2Proof.Machine
end

