-- ==== Sys2Proof/Machine/Blend.lean ====
section
/-!
DEFINITION. The commands of the Blend engines (chapter 09): contributions, staged lines, results, rearm, tFOLD, and group
0xC500.
-/

namespace Sys2Proof.Machine

/-! ### The engine (R341, R342, R346, R349, R351, R352) -/

/-- The first staged block of tile `t` whose rank is next on its line: fold, rank and line. -/
def Dev.stagedNext (d : Dev) (t : Nat) : Option (Nat × Nat × Nat) :=
  d.bld.folds.findSome? fun x =>
    if x.1 / 64 = t && d.get F.FOLD.STATE x.1 = 1 then
      (x.2.staged.find? fun y => y.2.isSome && x.2.cnt.get 0 (y.1 / 64) == y.1 % 64).map fun y => (x.1, y.1 % 64, y.1 / 64)
    else none

/-- R342: the engine of tile `t` takes the oldest request at its input, unless a staged line has become next; its message then
leaves its ingress and has completed (R406). A contribution that finds no staging space, or meets a fold about to rearm, is held
at its ingress, with the later ones of its source. `unc`: the accumulator's codeword is uncorrectable (R344). -/
def Dev.foldEdge (d : Dev) (t : Nat) (unc : Bool) : Dev :=
  if (d.stagedNext t).isSome then d
  else match d.bld.inq.find? fun x => x.1 / 64 == t with
    | none => d
    | some x =>
      let d1 := { d with bld := { d.bld with inq := d.bld.inq.erase x } }
      let r := d1.foldRt x.1
      let hold := d1.setFoldRt x.1 { r with held := r.held ++ [x.2] }
      if x.2.m.cls = .rwd && r.held.any (fun s => s.m.src == x.2.m.src) then hold
      else match d1.foldTake x.1 x.2.m unc with
        | some d2 => d2.ends x.2
        | none => if d.get F.FOLD.STATE x.1 = 1 then hold.count (cTile t 25) else hold

/-- FOLD_REQUEST (R341). -/
def execFoldRequest (t : Tile) (unc : Bool) (s : State) : Host.Outcome State Fault Refusal :=
  s.upd (s.dev.onDie fun d => if d.tileFenced t.val then d else d.foldEdge t.val unc)

/-- R342, R344: the staged line that has become next is combined; its block or the accumulator may be uncorrectable. -/
def Dev.foldDrain (d : Dev) (t : Nat) (unc : Bool) : Dev :=
  match d.stagedNext t with
  | none => d
  | some (f, rk, l) =>
    let (data, poison) := ((d.foldRt f).staged.get none (l * 64 + rk)).getD (0, false)
    (((d.foldUnstage f rk l).count (cTile t 19))).foldCombine f rk l data poison unc

/-- BLEND_STAGED_DRAIN (R342). -/
def execBlendStagedDrain (t : Tile) (unc : Bool) (s : State) : Host.Outcome State Fault Refusal :=
  s.upd (s.dev.onDie fun d => if d.tileFenced t.val then d else d.foldDrain t.val unc)

/-- R349: every line has been written and every result write has ended: the fold is DONE. -/
def execFoldResultWriteComplete (f : FoldId) (s : State) : Host.Outcome State Fault Refusal :=
  s.upd (s.dev.onDie fun d =>
    if d.get F.FOLD.STATE f.val = 2 && (d.foldRt f.val).writing = [] then
      ((d.put F.FOLD.STATE f.val 3).count (cTile (f.val / 64) 21)).notice f.val 1
    else d)

/-- R351: the fold reopens with the next epoch; held writes go to the engine. -/
def Dev.rearm (d : Dev) (f : Nat) : Dev :=
  let r := d.foldRt f
  let d := (d.put F.FOLD.STATE f 1).put F.FOLD.EPOCH f (d.get F.FOLD.EPOCH f + 1)
  let d := d.clearFlds [F.FOLD.LINES_DONE, F.FOLD.POISONED, F.FOLD.RANKS_IN] f
  (d.setFoldRt f { r with cnt := [], acc := [], written := [], poisLog := [] }).foldRequeue f

/-- FOLD_REARM (R351). -/
def execFoldRearm (f : FoldId) (s : State) : Host.Outcome State Fault Refusal :=
  s.upd (s.dev.onDie fun d =>
    if d.get F.FOLD.STATE f.val = 3 && d.bit F.FOLD.AUTO_REARM f.val && !(d.foldRt f.val).stays && !d.tileFenced (f.val / 64) then d.rearm f.val else d)

/-- R352: tFOLD runs from the first contribution of the epoch. -/
def execFoldTimeout (f : FoldId) (s : State) : Host.Outcome State Fault Refusal :=
  s.upd (s.dev.onDie fun d =>
    if d.get F.FOLD.STATE f.val = 1 && d.get F.FOLD.TIMEOUT f.val ≠ 0 && (d.foldRt f.val).written ≠ [] then
      d.foldAbandon f.val 1
    else d)

/-! ### Group 0xC500 (R335 to R337, R345, R346, R361, R362) -/

/-- Ranks of open folds bound to instance `i` (R367). -/
def Dev.foldsUsed (d : Dev) (i : Nat) : Nat :=
  (d.listed F.FOLD_RANK.INST_VALID).countP fun k =>
    d.get F.FOLD.STATE (k / 64) != 0 && d.bit F.FOLD_RANK.INST_VALID k && d.get F.FOLD_RANK.INSTANCE k == i

/-- Rank entries as bindings: two that match the same writes are equal. -/
def rankKey (w : Nat) : Nat := if w / 2 ^ 22 % 2 = 1 then w % 2 ^ 23 else w % 2 ^ 12

/-- A breach of R336 or R337 by the parameters of FOLD_OPEN. -/
def Dev.foldBad (d : Dev) (f : Nat) (pay : List (BitVec 8)) : Bool :=
  let ty := le pay 0 1 % 8
  let op := le pay 0 1 / 8 % 8
  let notify := le pay 1 1
  let ranks := le pay 2 1
  let lines := le pay 4 2
  let group := le pay 6 2
  let base := le pay 12 8
  let res := le pay 20 8
  let size := lines * 64
  let rks := wordsOf (pay.drop 36)
  ranks = 0 || 64 < ranks || pay.length ≠ 36 + 4 * ranks || lines = 0 || 1024 < lines || 5 < ty || 5 < op ||
    (3 ≤ op && ty < 3) || 1 < notify || le pay 3 1 ≠ 0 || le pay 10 2 ≠ 0 || 4095 < group || base % 2 ^ 16 ≠ 0 ||
    2 ^ 52 < base + size || res % 64 ≠ 0 || rks.any (fun w => 2 ^ 23 ≤ w) || !(rks.map rankKey).Nodup ||
    (List.range 256).any (fun w => d.bit F.WIN.VALID w && d.touchesWin w base size) ||
    (List.range 512).any (fun g => g != f && d.get F.FOLD.STATE g != 0 &&
      rangesMeet base size (d.foldBase g) (d.get F.FOLD.LINES g * 64)) ||
    !(List.range 256).any (fun w => d.bit F.WIN.VALID w && decide (d.winBase w ≤ res) && decide (res + size ≤ d.winBase w + d.winSize w)) ||
    (notify = 1 && (!d.bit F.TIL_MCAST.VALID group || le pay 28 8 % 16 ≠ 0))

/-- The modes of group 0xC500. -/
def foldModes : Mode → Bool
  | .service | .degraded | .quiesce => true
  | _ => false

/-- FOLD_OPEN (R362). -/
def execFoldOpen (r : FoernReq) (s : State) : Host.Outcome State Fault Refusal :=
  s.upd (s.dev.onDie fun d =>
    d.foern r { opcode := 0xC500, may := fun p _ _ => fmOnly p, modes := foldModes } fun h pay d =>
    let f := h.sel.toNat
    let b0 := le pay 0 1
    let lines := le pay 4 2
    let ranks := le pay 2 1
    let acc := (lines + 3) / 4
    let cells := if b0 / 64 % 2 = 1 then ranks * acc else acc
    let rks := wordsOf (pay.drop 36)
    let insOf (w : Nat) := w / 2 ^ 12 % 1024
    let short := rks.any fun w => w / 2 ^ 22 = 1 &&
      decide (d.get F.INS.Q_FOLDS (insOf w) < d.foldsUsed (insOf w) + rks.countP fun v => v / 2 ^ 22 == 1 && insOf v == insOf w)
    if 512 ≤ f || d.foldBad f pay then .fail .invalidParam
    else if d.get F.FOLD.STATE f ≠ 0 then .fail .stateMismatch
    else if !d.auxCan (f / 64) .blend cells || short then .fail .poolExhausted
    else
      let d := ((d.demand (f / 64)).auxTake (f / 64) .blend cells).setFoldRt f { FoldRt.empty with cells := cells }
      let w0 := 1 + b0 % 64 * 16 + b0 / 64 * 2 ^ 10 + le pay 1 1 * 2 ^ 12 + ranks * 2 ^ 14
      let d := (d.putWord .FOLD0 f w0).putWord .FOLD1 f (lines + le pay 6 2 * 2 ^ 16)
      let d := (((d.put F.FOLD.FWIN f (le pay 12 8 / 2 ^ 16)).put F.FOLD.RES f (le pay 20 8 / 64)).put F.FOLD.NOTIFY_ADDR f
        (le pay 28 8 / 16 * 16)).put F.FOLD.TIMEOUT f (le pay 8 2)
      let d := (List.range ranks).foldl (fun d k => d.putWord .FOLD_RANK (f * 64 + k) (rks.getD k 0)) d
      .ok (bytes 4 cells) d [])

/-- Free fold `f`: its cells, its entry words and its ranks. -/
def Dev.foldFree (d : Dev) (f : Nat) : Dev :=
  let d := d.foldRequeue f
  let d := (d.auxFree (f / 64) .blend (d.foldRt f).cells).setFoldRt f FoldRt.empty
  let d := d.clearFlds [F.FOLD.STATE, F.FOLD.TYPE, F.FOLD.OP, F.FOLD.STAGE_RES, F.FOLD.AUTO_REARM, F.FOLD.NOTIFY_EN, F.FOLD.RANKS,
    F.FOLD.LINES, F.FOLD.NOTIFY_GROUP, F.FOLD.FWIN, F.FOLD.RES, F.FOLD.NOTIFY_ADDR, F.FOLD.TIMEOUT, F.FOLD.EPOCH, F.FOLD.LINES_DONE,
    F.FOLD.POISONED, F.FOLD.RANKS_IN, F.FOLD.CAUSE] f
  (List.range 64).foldl (fun d k =>
    d.clearFlds [F.FOLD_RANK.EDGE, F.FOLD_RANK.INSTANCE, F.FOLD_RANK.INST_VALID] (f * 64 + k)) d

/-- FOLD_CLOSE (R362). -/
def execFoldClose (r : FoernReq) (s : State) : Host.Outcome State Fault Refusal :=
  s.upd (s.dev.onDie fun d =>
    d.foern r { opcode := 0xC501, may := fun p _ _ => fmOnly p, modes := foldModes } fun h pay d =>
    let f := h.sel.toNat
    let abort := decide (le pay 0 4 = 1)
    if 512 ≤ f || pay.length ≠ 4 || 1 < le pay 0 4 then .fail .invalidParam
    else match d.get F.FOLD.STATE f with
      | 0 => .fail .stateMismatch
      | 1 => if abort then .done ((d.foldAbandon f 5).foldFree f) else .fail .stateMismatch
      | 2 => .fail .busyBackground
      | _ => .done (d.foldFree f))

/-- Word 12 of a fold entry: staged blocks and cells. -/
def Dev.foldCells (d : Dev) (f : Nat) : Nat := ((d.foldRt f).staged.length) % 2 ^ 16 + (d.foldRt f).cells % 2 ^ 16 * 2 ^ 16

/-- R361: who may read a fold's status. -/
def Dev.foldSees (d : Dev) (p : Principal) (f : Nat) : Bool :=
  match p with
  | .fm | .factory => true
  | .host q => (List.range (d.get F.FOLD.RANKS f)).any fun k => d.get F.FOLD_RANK.EDGE (f * 64 + k) == d.get F.TIL_PCFG.EDGE_ID q.val
  | .tenant i => (List.range (d.get F.FOLD.RANKS f)).any fun k =>
      d.bit F.FOLD_RANK.INST_VALID (f * 64 + k) && d.get F.FOLD_RANK.INSTANCE (f * 64 + k) == i.val
  | .monitor => false

/-- FOLD_STATUS (R361). -/
def execFoldStatus (r : FoernReq) (s : State) : Host.Outcome State Fault Refusal :=
  s.upd (s.dev.onDie fun d =>
    d.foern r { opcode := 0xC502, may := fun p _ sel => d.foldSees p sel.toNat, modes := foldModes } fun h pay d =>
    let f := h.sel.toNat
    if 512 ≤ f || pay.length ≠ 0 then .fail .invalidParam
    else .ok (bytes 4 (d.word .FOLD0 f) ++ bytes 4 (d.word .FOLD8 f) ++ bytes 4 (d.word .FOLD9 f) ++ bytes 4 (d.word .FOLD10 f) ++
      bytes 4 (d.word .FOLD11 f) ++ bytes 4 (d.foldCells f) ++ bytes 4 (d.word .FOLD13 f)) d [])

end Sys2Proof.Machine
end

