-- ==== Sys2Proof/Machine/Instances.lean ====
section
/-!
DEFINITION. The commands of tenant instances (chapter 10): creation, reset, freeze, save, restore and destruction.
-/

namespace Sys2Proof.Machine

/-! ### Translation tables and classes (R364 to R367) -/

/-- A translation entry as its four words. -/
abbrev XEnt := List Nat

def XEnt.valid (e : XEnt) : Bool := e.getD 0 0 % 2 == 1
def XEnt.coh (e : XEnt) : Bool := (e.getD 0 0).testBit 1
def XEnt.here (e : XEnt) : Bool := (e.getD 0 0).testBit 2
def XEnt.off (e : XEnt) : Nat := e.getD 1 0
def XEnt.size (e : XEnt) : Nat := e.getD 2 0
/-- The fabric base and size of an entry, in bytes. -/
def XEnt.base (e : XEnt) : Nat := e.getD 3 0 * 2 ^ 21
def XEnt.len (e : XEnt) : Nat := e.size * 2 ^ 21

/-- The entries in a payload. -/
def xents (pay : List (BitVec 8)) (n : Nat) : List XEnt :=
  (List.range n).map fun k => (List.range 4).map fun w => le pay (16 * k + 4 * w) 4

/-- The valid window that contains a fabric range. -/
def Dev.rangeWin (d : Dev) (base size : Nat) : Bool :=
  (List.range 256).any fun w => d.bit F.WIN.VALID w && decide (d.winBase w ≤ base) && decide (base + size ≤ d.winBase w + d.winSize w)

/-- Whether an entry breaks R365 in an aperture of `ap` units of 2 MiB, but for the window of a COHERENT one. -/
def xentBad (ap : Nat) (e : XEnt) : Bool :=
  2 ^ 16 ≤ e.getD 0 0 || 2 ^ 23 ≤ e.off || 2 ^ 23 ≤ e.size || 2 ^ 31 ≤ e.getD 3 0 ||
    (XEnt.valid e && (e.size = 0 || ap < e.off + e.size || 2 ^ 31 < e.getD 3 0 + e.size || (XEnt.coh e && !XEnt.here e)))

/-- Two valid entries overlap. -/
def xentsClash : List XEnt → Bool
  | [] => false
  | e :: l => (XEnt.valid e && l.any fun x => XEnt.valid x && rangesMeet e.off e.size x.off x.size) || xentsClash l

/-- A breach of R365 by a table. -/
def Dev.xlateBad (d : Dev) (ap : Nat) (es : List XEnt) : Bool :=
  es.any (xentBad ap) || xentsClash es || es.any fun e => XEnt.valid e && XEnt.coh e && !d.rangeWin (XEnt.base e) (XEnt.len e)

/-- Every target of window `w` sits on a target port of tile `t`. -/
def Dev.winLocal (d : Dev) (t w : Nat) : Bool :=
  (List.range (d.winWays w)).all fun j =>
    match d.route (BitVec.ofNat 12 (d.get F.WIN.TEDGE (w * 16 + j))) with
    | .port p => d.isTarget p && p / 8 == t
    | _ => false

/-- The bytes that two ranges share. -/
def shared (a n b m : Nat) : Nat := min (a + n) (b + m) - max a b

/-- R366: the range lies in windows of targets of tile `t`, or in fold windows of its engine. -/
def Dev.rangeLocal (d : Dev) (t base size : Nat) : Bool :=
  let ws := (List.range 256).filter fun w => d.bit F.WIN.VALID w && d.winLocal t w
  let fs := (List.range 64).filter fun k => d.get F.FOLD.STATE (t * 64 + k) != 0
  let a := ws.foldl (fun a w => a + shared base size (d.winBase w) (d.winSize w)) 0
  let b := fs.foldl (fun a k => a + shared base size (d.foldBase (t * 64 + k)) (d.get F.FOLD.LINES (t * 64 + k) * 64)) 0
  a + b == size

/-- R366: the size class, true for W. -/
def Dev.insClass (d : Dev) (p trk : Nat) (es : List XEnt) : Bool :=
  decide (512 < trk) || es.any fun e => XEnt.valid e && (XEnt.coh e || !XEnt.here e || !d.rangeLocal (p / 8) (XEnt.base e) (XEnt.len e))

/-- Write a table into instance `i`: its entries, XCOUNT, COH and the class. -/
def Dev.putXlate (d : Dev) (i : Nat) (es : List XEnt) : Dev :=
  let d := (List.range 64).foldl (fun d k =>
    let e := es.getD k []
    let j := i * 64 + k
    (((d.putWord .XLATE0 j (e.getD 0 0)).putWord .XLATE1 j (e.getD 1 0)).putWord .XLATE2 j (e.getD 2 0)).putWord .XLATE3 j (e.getD 3 0)) d
  let d := (d.put F.INS.XCOUNT i es.length).put F.INS.COH i (if es.any fun e => XEnt.valid e && XEnt.coh e then 1 else 0)
  d.put F.INS.CLASS i (if d.insClass (d.get F.INS.HOST_PORT i) (d.get F.INS.Q_TRK i) es then 1 else 0)

/-- The table of instance `i`. -/
def Dev.xlateOfIns (d : Dev) (i : Nat) : List XEnt :=
  (List.range (d.get F.INS.XCOUNT i)).map fun k =>
    let j := i * 64 + k
    [d.word .XLATE0 j, d.word .XLATE1 j, d.word .XLATE2 j, d.word .XLATE3 j]

/-! ### Pools (R367, R390, R397) -/

/-- Quotas of an instance: TRK, HOLD, CELLS, FOLDS, DIR. -/
structure Quotas where
  trk   : Nat
  hold  : Nat
  cells : Nat
  folds : Nat
  dir   : Nat
  deriving DecidableEq, Repr

/-- The reserved counts of every pool. -/
def Dev.reserved (d : Dev) : Quotas :=
  let is := (d.listed F.INS.VALID).filter fun i => d.bit F.INS.VALID i
  let sum (f : Fld) : Nat := is.foldl (fun a i => a + d.get f i) 0
  let transit := (d.listed F.POL.TRANSIT).foldl (fun a i => a + if d.bit F.POL.TRANSIT i then d.get F.POL.HOLD_MAX i else 0) 0
  { trk := sum F.INS.Q_TRK, hold := sum F.INS.Q_HOLD + transit, cells := sum F.INS.Q_CELLS, folds := sum F.INS.Q_FOLDS,
    dir := sum F.INS.Q_DIR }

/-- Whether every pool can give a quota. -/
def Dev.poolsGive (d : Dev) (q : Quotas) : Bool :=
  let r := d.reserved
  decide (r.trk + q.trk ≤ d.get F.INS_POOL_TRK.SIZE) && decide (r.hold + q.hold ≤ d.get F.INS_POOL_HOLD.SIZE) &&
    decide (r.cells + q.cells ≤ d.get F.INS_POOL_CELLS.SIZE) && decide (r.folds + q.folds ≤ d.get F.INS_POOL_FOLDS.SIZE) &&
    decide (r.dir + q.dir ≤ d.get F.INS_POOL_DIR.SIZE * 16)

/-- A quota out of the range of R367, with whether an entry is COHERENT. -/
def Quotas.bad (q : Quotas) (coh : Bool) : Bool :=
  q.trk = 0 || 16384 < q.trk || q.hold = 0 || 4096 < q.hold || q.cells < 3 || 65536 < q.cells || 64 < q.folds ||
    4194304 < q.dir || (coh && q.dir < 16)

/-- The lowest free VF of host port `p`'s window device, less 1 (R370). -/
def Dev.freeVf (d : Dev) (p : Nat) : Option Nat :=
  let used := ((d.listed F.INS.VALID).filter fun i => d.bit F.INS.VALID i && d.get F.INS.HOST_PORT i == p).map fun i => d.get F.INS.VF i
  (List.range 256).find? fun v => !used.contains v

/-- What INSTANCE_CREATE and INSTANCE_RESTORE set up. -/
structure NewIns where
  port : Nat
  slot : Nat
  apSize : Nat
  apBase : Nat
  q    : Quotas
  squash : Nat
  es   : List XEnt
  deriving DecidableEq, Repr

/-- A breach of R364, R365 or R367. -/
def Dev.newBad (d : Dev) (x : NewIns) : Bool :=
  64 ≤ x.port || !d.isHost x.port || 31 < x.slot || 16 < x.apSize || x.apBase % 2 ^ (x.apSize + 28) ≠ 0 ||
    2 ^ 46 < x.apBase + 2 ^ (x.apSize + 28) || x.squash < 10 || 100000 < x.squash ||
    x.q.bad (x.es.any fun e => XEnt.valid e && XEnt.coh e) || d.xlateBad (2 ^ (x.apSize + 7)) x.es

/-- Enter instance `i` with VF `vf` (less 1), its generation and its state. -/
def Dev.enterIns (d : Dev) (i : Nat) (x : NewIns) (vf gen st : Nat) : Dev :=
  let d := (((d.set F.INS.VALID i).put F.INS.HOST_PORT i x.port).put F.INS.SLOT i x.slot).put F.INS.VF i vf
  let d := (((d.put F.INS.AP_BASE i (x.apBase / 2 ^ 28)).put F.INS.AP_SIZE i x.apSize).put F.INS.Q_TRK i x.q.trk).put F.INS.Q_HOLD i x.q.hold
  let d := (((d.put F.INS.Q_CELLS i x.q.cells).put F.INS.Q_FOLDS i x.q.folds).put F.INS.Q_DIR i x.q.dir).put F.INS.SQUASH_US i x.squash
  let d := (d.put F.INS.STATE i st).put F.INS.GEN i gen
  (d.clearFlds [F.INS.RESETS, F.INS.QUOTA, F.INS.SQUASH, F.INS.LATE, F.INS.ACCESS] i).put F.POL.HOLD_MAX i x.q.hold |>.putXlate i x.es

/-- An instance command of the FM, in the modes of R396. -/
def insCmd (opcode : Nat) : Cmd := fmCmd opcode

/-- R387: what a command answers in a state that R373 does not allow it in. -/
def stateDetail (st : Nat) : Detail := if st = 2 || st = 3 || st = 5 then .busyBackground else .stateMismatch

/-! ### Creation (R370, R372, R396, R397) -/

/-- INSTANCE_CREATE (R370). DEDUCED, unsafe: log entry 26. -/
def execInstanceCreate (r : FoernReq) (s : State) : Host.Outcome State Fault Refusal :=
  s.upd (s.dev.onDie fun d => d.foern r (insCmd 0xC600) fun h pay d =>
    let i := h.sel.toNat
    let n := le pay 3 1
    let x : NewIns :=
      { port := le pay 0 1, slot := le pay 1 1, apSize := le pay 2 1, apBase := le pay 4 8,
        q := { trk := le pay 12 2, hold := le pay 14 2, cells := le pay 16 4, folds := le pay 20 2, dir := le pay 24 4 },
        squash := le pay 28 4, es := xents (pay.drop 32) n }
    if 1024 ≤ i || n = 0 || 64 < n || pay.length ≠ 32 + 16 * n || le pay 22 2 ≠ 0 || d.newBad x then .fail .invalidParam
    else if d.bit F.INS.VALID i || d.dpaClash x.port none (some i) x.apBase (2 ^ (x.apSize + 28)) || d.bit F.POL.TRANSIT i then
      .fail .stateMismatch
    else match d.freeVf x.port with
      | none => .fail .poolExhausted
      | some vf =>
        if !d.poolsGive x.q then .fail .poolExhausted
        else
          let d := (d.put F.POL.EN i 0).enterIns i x vf 0 1
          let ev : InsEvent := { host := x.port, inst := i, vf := vf + 1, base := x.apBase, size := 2 ^ (x.apSize + 28) }
          let d := { d with ins := { d.ins with evlog := d.ins.evlog ++ [ev] } }
          .ok (bytes 2 (vf + 1) ++ bytes 2 (d.get F.INS.CLASS i)) d [])

/-! ### Resets (R374 to R379, R387) -/

/-- Who may reset or read instance `i` (R396). -/
def Dev.insMay (d : Dev) (p : Principal) (i : Nat) (tenant : Bool) : Bool :=
  match p with
  | .fm | .factory => true
  | .host q => d.bit F.INS.VALID i && d.get F.INS.HOST_PORT i == q.val
  | .tenant j => tenant && j.val == i
  | .monitor => false

/-- INSTANCE_RESET (R375). DEDUCED, unsafe: log entry 26. -/
def execInstanceReset (r : FoernReq) (s : State) : Host.Outcome State Fault Refusal :=
  s.upd (s.dev.onDie fun d =>
    d.foern r { opcode := 0xC601, may := fun p _ sel => d.insMay p sel.toNat false, modes := liveModes } fun h pay d =>
    let i := h.sel.toNat
    let st := d.get F.INS.STATE i
    if 1024 ≤ i || pay.length ≠ 0 then .fail .invalidParam
    else if st = 0 then .fail .stateMismatch
    else if st = 2 || st = 3 || st = 5 || d.genBusy i then .fail .busyBackground
    else
      let (d, n, fin) := d.insReset i
      if fin then .ok (bytes 2 (d.get F.INS.GEN i) ++ bytes 2 n) d []
      else .later { d with ins := { d.ins with resets := d.ins.resets ++ [(i, r.via, h)] } })

/-- R374, R387: a Function Level Reset of the instance's VF. -/
def execVfFlr (i : Inst) (s : State) : Host.Outcome State Fault Refusal :=
  s.upd (s.dev.onDie fun d => if d.get F.INS.STATE i.val = 0 || d.genBusy i.val then d else (d.insReset i.val).1)

/-- R375, R380: tSQUASH after the reset or freeze began, each request still outstanding is squashed. -/
def execSquashTimeout (i : Inst) (s : State) : Host.Outcome State Fault Refusal :=
  s.upd (s.dev.onDie fun d =>
    if d.get F.INS.STATE i.val = 2 || d.get F.INS.STATE i.val = 3 then
      let (d, n) := d.squashAll i.val
      { d with ins := { d.ins with squashed := d.ins.squashed.modify 0 i.val (· + n) } }
    else d)

/-- R380 step 3 starts once no request is outstanding. DEDUCED, unsafe: log entry 24. -/
def Dev.freezeWalk (d : Dev) (i : Inst) : Dev :=
  if d.insOpen i.val = [] then d.walkStart (.freeze i) else d

/-- Start freezing instance `i`. -/
def Dev.freeze (d : Dev) (i : Nat) : Dev :=
  (({ d with ins := { d.ins with flushed := d.ins.flushed.erase i, waiting := d.ins.waiting.filter (· != i) } } : Dev).put F.INS.STATE i 3).freezeWalk (Fin.ofNat 1024 i)

/-- R375 steps 4 and 5: no request of the old generation is outstanding. An instance fenced meanwhile is frozen then (R500). -/
def Dev.resetDrained (d : Dev) (i : Nat) : Dev :=
  if d.get F.INS.STATE i ≠ 2 || d.insOpen i ≠ [] then d
  else
    let n := d.ins.squashed.get 0 i
    let d := (d.raiseGen i).put F.INS.STATE i 1
    let mine := d.ins.resets.filter fun x => x.1 == i
    let d := { d with ins := { d.ins with squashed := d.ins.squashed.erase i, resets := d.ins.resets.filter fun x => x.1 != i } }
    let d := mine.foldl (fun d x => d.respond (x.2.2.rsp x.2.1 .ok (bytes 2 (d.get F.INS.GEN i) ++ bytes 2 n))) d
    if d.flt.fences.contains (.instance_, i) then d.freeze i else d

/-- INSTANCE_RESET_DRAINED (R375). -/
def execInstanceResetDrained (i : Inst) (s : State) : Host.Outcome State Fault Refusal :=
  s.upd (s.dev.onDie fun d => d.resetDrained i.val)

/-! ### Freezing and destroying (R380, R381, R386) -/

/-- The instance goes to FREE: folds that await its ranks are abandoned, held requests are answered as never issued,
quotas and VF return, and the doorbell of its mailbox is cleared (R616). -/
def Dev.insFree (d : Dev) (i : Nat) : Dev :=
  let d := (d.foldIns i).answerHeld i false
  let d := d.clearFlds [F.INS.VALID, F.INS.CLASS, F.INS.COH, F.INS.HOST_PORT, F.INS.SLOT, F.INS.VF, F.INS.XCOUNT, F.INS.AP_BASE,
    F.INS.AP_SIZE, F.INS.Q_TRK, F.INS.Q_HOLD, F.INS.Q_CELLS, F.INS.Q_FOLDS, F.INS.Q_DIR, F.INS.SQUASH_US, F.INS.STATE, F.INS.GEN,
    F.INS.RESETS, F.INS.QUOTA, F.INS.SQUASH, F.INS.LATE, F.INS.ACCESS, F.POL.HOLD_MAX] i
  let d := (List.range 64).foldl (fun d k => d.clearFlds [F.XLATE.VALID, F.XLATE.COHERENT, F.XLATE.LOCAL, F.XLATE.WRITABLE,
    F.XLATE.HOME_EDGE, F.XLATE.AP_OFF, F.XLATE.SIZE, F.XLATE.FBASE] (i * 64 + k)) d
  let d := { d with ins := { d.ins with destroy := d.ins.destroy.filter (· != i), saves := d.ins.saves.erase i, vf := d.ins.vf.erase i,
                                        flushed := d.ins.flushed.erase i, waiting := d.ins.waiting.filter (· != i) } }
  (d.clearBell (.tenantMbox (Fin.ofNat 1024 i))).bgDone 0xC606 i .ok []

/-- INSTANCE_FREEZE (R380). -/
def execInstanceFreeze (r : FoernReq) (s : State) : Host.Outcome State Fault Refusal :=
  s.upd (s.dev.onDie fun d => d.foern r (insCmd 0xC602) fun h pay d =>
    let i := h.sel.toNat
    if 1024 ≤ i || pay.length ≠ 0 then .fail .invalidParam
    else if d.get F.INS.STATE i ≠ 1 then .fail (stateDetail (d.get F.INS.STATE i))
    else .bg i (d.freeze i) [])

/-- R380 step 4: the walks have finished and the instance has no request outstanding and no entry left. -/
def Dev.freezeEnd (d : Dev) (i : Inst) : Dev :=
  if d.get F.INS.STATE i.val ≠ 3 || d.insOpen i.val ≠ [] then d
  else if !d.coh.walks.any (fun w => decide (w.why = .freeze i)) then d.freezeWalk i
  else match d.walkEnd (.freeze i) with
    | (d, none) => d
    | (d, some n) =>
      let d := { d with ins := { d.ins with flushed := d.ins.flushed.modify 0 i.val (· + n) } }
      if d.coh.dir.any fun x => x.2.inst = some i && x.2.valid && x.2.st ≠ .u then d.freezeWalk i
      else
        let total := d.ins.flushed.get 0 i.val
        let d := ((d.put F.INS.STATE i.val 4).count (cDev 26)).bgDone 0xC602 i.val .ok (bytes 4 total)
        if d.ins.destroy.contains i.val then d.insFree i.val else d

/-- INSTANCE_FREEZE_COMPLETE (R380). -/
def execInstanceFreezeComplete (i : Inst) (s : State) : Host.Outcome State Fault Refusal :=
  s.upd (s.dev.onDie fun d => d.freezeEnd i)

/-- R381: the head of hold queue `i` has waited tFROZEN. -/
def execFrozenWaitTimeout (i : Inst) (s : State) : Host.Outcome State Fault Refusal :=
  s.upd (s.dev.onDie fun d =>
    let st := d.get F.INS.STATE i.val
    match (d.pol i.val).hold with
    | x :: l =>
      if 3 ≤ st && st ≤ 5 && !x.spec then
        ((({ d with ins := { d.ins with waiting := d.ins.waiting.filter (· != i.val) } } : Dev).setPol i.val
          { d.pol i.val with hold := l, metered := false }).squash i.val x.m true true).ends x
      else d
    | [] => d)

/-- A save that still waits is given up when its instance leaves FROZEN. -/
def Dev.dropSave (d : Dev) (i : Nat) : Dev :=
  match d.ins.saves.get none i with
  | some { wait := some (v, h, _), .. } =>
    ({ d with ins := { d.ins with saves := d.ins.saves.erase i } }).respond (h.rsp v .stateMismatch [])
  | _ => d

/-- A destroy of a frozen instance proceeds at once. -/
def Dev.destroyNow (d : Dev) (i : Nat) : Dev :=
  if d.ins.destroy.contains i && d.get F.INS.STATE i = 4 then (d.dropSave i).insFree i else d

/-- INSTANCE_DESTROY (R386). -/
def execInstanceDestroy (r : FoernReq) (s : State) : Host.Outcome State Fault Refusal :=
  s.upd (s.dev.onDie fun d => (d.foern r (insCmd 0xC606) fun h pay d =>
    let i := h.sel.toNat
    let st := d.get F.INS.STATE i
    let go := { d with ins := { d.ins with destroy := d.ins.destroy ++ [i] } }
    if 1024 ≤ i || pay.length ≠ 0 then .fail .invalidParam
    else if st = 1 then .bg i (go.freeze i) []
    else if st = 4 then .bg i go []
    else .fail (stateDetail st)).destroyNow (le r.raw 2 2))

/-! ### Saving and thawing (R382, R383, R385) -/

/-- The VF's state: as a restore left it, else what the guest has written, which the model does not know (R383).
DEDUCED, unsafe: log entry 26. -/
def Dev.vfState (d : Dev) (i : Nat) : List (BitVec 8) :=
  match d.ins.vf.get [] i with
  | [] => (List.range 256).map fun k => Config.freeByte (0x383000 + i) k
  | l => l

/-- The blob with the given CRC field. -/
def Dev.blobWith (d : Dev) (i crc : Nat) : List (BitVec 8) :=
  let g (f : Fld) : Nat := d.get f i
  let n := g F.INS.XCOUNT
  let p := d.pol i
  bytes 2 0x4B49 ++ bytes 2 1 ++ bytes 4 (368 + 16 * n) ++ bytes 2 (d.get F.GLB_NODE.NODE_ID) ++ bytes 2 i ++
    bytes 1 (g F.INS.HOST_PORT) ++ bytes 1 (g F.INS.SLOT) ++ bytes 1 (g F.INS.CLASS + 2 * g F.INS.COH) ++ bytes 1 n ++
    bytes 8 d.clk.ftc.toNat ++ bytes 2 (g F.INS.GEN) ++ bytes 2 0 ++ bytes 4 crc ++ bytes 8 (d.apBase i) ++
    bytes 1 (g F.INS.AP_SIZE) ++ bytes 3 0 ++ bytes 2 (g F.INS.Q_TRK) ++ bytes 2 (g F.INS.Q_HOLD) ++ bytes 4 (g F.INS.Q_CELLS) ++
    bytes 2 (g F.INS.Q_FOLDS) ++ bytes 2 0 ++ bytes 4 (g F.INS.Q_DIR) ++ bytes 4 (g F.INS.SQUASH_US) ++
    bytes 1 (g F.POL.EN + 2 * g F.POL.AWARE) ++ bytes 7 0 ++ bytes 8 (d.sw.rates.get 0 (2 ^ 20 + 2 * i)) ++
    bytes 8 (d.sw.rates.get 0 (2 ^ 20 + 2 * i + 1)) ++ bytes 4 (g F.POL.CBS) ++ bytes 4 (g F.POL.PBS) ++
    bytes 4 (p.tc / 256) ++ bytes 4 (p.tp / 256) ++ bytes 8 0 ++ d.vfState i ++
    (d.xlateOfIns i).flatMap fun e => e.flatMap fun w => bytes 4 w

/-- The blob of instance `i`. -/
def Dev.blob (d : Dev) (i : Nat) : List (BitVec 8) := d.blobWith i (crc32 (d.blobWith i 0)).toNat

/-- The hold queue is empty: the instance enters SAVING; the blob goes to Caravan, or waits for its chunks to be read. -/
def Dev.saveStart (d : Dev) (i : Nat) (caravan : Bool) (off : Nat) : Dev × List (BitVec 8) :=
  let b := d.blob i
  let d := d.put F.INS.STATE i 5
  let sv : Save := { caravan := caravan, blob := b, got := if caravan then 0 else off + 1024, wait := none }
  let d := { d with ins := { d.ins with saves := d.ins.saves.put none i (some sv) } }
  if caravan then
    (if (d.get F.CAR_CFG.STREAM_EN).testBit 4 then { d with car := { d.car with blobs := d.car.blobs ++ [(i, b)] } } else d,
      bytes 4 b.length)
  else (d, bytes 4 b.length ++ (b.drop off).take 1024)

/-- INSTANCE_SAVE (R382). DEDUCED, unsafe: log entry 26. -/
def execInstanceSave (r : FoernReq) (s : State) : Host.Outcome State Fault Refusal :=
  s.upd (s.dev.onDie fun d => d.foern r (insCmd 0xC603) fun h pay d =>
    let i := h.sel.toNat
    let tr := le pay 0 1
    let off := le pay 4 4
    let total := 368 + 16 * d.get F.INS.XCOUNT i
    let st := d.get F.INS.STATE i
    if 1024 ≤ i || pay.length ≠ 8 || 1 < tr || le pay 1 3 ≠ 0 || (tr = 0 && off ≠ 0) || (0 < st && tr = 1 && total ≤ off) then
      .fail .invalidParam
    else match st, d.ins.saves.get none i with
      | 4, none =>
        if (d.pol i).hold = [] then
          let (d, out) := d.saveStart i (tr = 0) off
          .ok out d []
        else
          let sv : Save := { caravan := decide (tr = 0), blob := [], got := 0, wait := some (r.via, h, off) }
          .later { d with ins := { d.ins with saves := d.ins.saves.put none i (some sv) } }
      | 5, some sv =>
        if tr = 1 && !sv.caravan then
          .ok (bytes 4 sv.blob.length ++ (sv.blob.drop off).take 1024)
            { d with ins := { d.ins with saves := d.ins.saves.put none i (some { sv with got := max sv.got (off + 1024) }) } } []
        else .fail .busyBackground
      | 4, some _ => .fail .busyBackground
      | st, _ => .fail (stateDetail st))

/-- A save that waits finds the hold queue empty. -/
def execInstanceSaveStart (i : Inst) (s : State) : Host.Outcome State Fault Refusal :=
  s.upd (s.dev.onDie fun d =>
    match d.get F.INS.STATE i.val, d.ins.saves.get none i.val with
    | 4, some { caravan := c, wait := some (v, h, off), .. } =>
      if (d.pol i.val).hold = [] then
        let (d, out) := d.saveStart i.val c off
        d.respond (h.rsp v .ok out)
      else d
    | _, _ => d)

/-- The last byte of the blob has gone out: back to FROZEN. -/
def execInstanceBlobSent (i : Inst) (s : State) : Host.Outcome State Fault Refusal :=
  s.upd (s.dev.onDie fun d =>
    match d.get F.INS.STATE i.val, d.ins.saves.get none i.val with
    | 5, some sv =>
      let out := if sv.caravan then !(d.car.blobs.any fun x => x.1 == i.val) && (d.car.cur.map fun b => b.head.stream) != some 5
        else decide (sv.blob.length ≤ sv.got)
      if out then
        ({ d with ins := { d.ins with saves := d.ins.saves.erase i.val } }.put F.INS.STATE i.val 4).count (cDev 27)
      else d
    | _, _ => d)

/-- INSTANCE_THAW (R385). -/
def execInstanceThaw (r : FoernReq) (s : State) : Host.Outcome State Fault Refusal :=
  s.upd (s.dev.onDie fun d => d.foern r (insCmd 0xC605) fun h pay d =>
    let i := h.sel.toNat
    if 1024 ≤ i || pay.length ≠ 0 then .fail .invalidParam
    else if d.get F.INS.STATE i ≠ 4 then .fail (stateDetail (d.get F.INS.STATE i))
    else .done ((d.dropSave i).put F.INS.STATE i 1))

/-! ### Restoring (R384) -/

/-- Whether a blob passes the checks of its form. -/
def blobOk (b : List (BitVec 8)) : Bool :=
  let n := le b 15 1
  le b 0 2 == 0x4B49 && le b 2 2 == 1 && decide (1 ≤ n) && decide (n ≤ 64) && b.length == 368 + 16 * n && le b 4 4 == b.length &&
    le b 28 4 == (crc32 (b.take 28 ++ [0, 0, 0, 0] ++ b.drop 32)).toNat

/-- A reserved bit of a blob is set (R8, R383). -/
def blobReserved (b : List (BitVec 8)) : Bool :=
  3 < le b 14 1 || le b 26 2 ≠ 0 || le b 41 3 ≠ 0 || le b 54 2 ≠ 0 || 3 < le b 64 1 || le b 65 7 ≠ 0 || le b 104 8 ≠ 0

/-- R384: with DOWNGRADE, an entry whose window is not homed here becomes uncached and remote. -/
def Dev.downgrade (d : Dev) (home : Nat) (e : XEnt) : XEnt :=
  let fold := (List.range 512).any fun f => d.get F.FOLD.STATE f != 0 &&
    rangesMeet (XEnt.base e) (XEnt.len e) (d.foldBase f) (d.get F.FOLD.LINES f * 64)
  if XEnt.valid e && !d.rangeWin (XEnt.base e) (XEnt.len e) && !fold then
    [e.getD 0 0 % 2 + e.getD 0 0 / 8 % 2 * 8 + home * 16, e.off, e.size, e.getD 3 0]
  else e

/-- Act on a complete blob for instance `i`; `h` holds the first 24 bytes of the request. -/
def Dev.restoreBlob (d : Dev) (i : Nat) (h b : List (BitVec 8)) : Ans :=
  let down := (le h 2 1).testBit 0
  let es := xents (b.drop 368) (le b 15 1)
  let es := if down then es.map (d.downgrade (le h 12 2)) else es
  let lost := es.any fun e => XEnt.valid e && XEnt.coh e && !d.rangeWin (XEnt.base e) (XEnt.len e)
  let x : NewIns :=
    { port := le h 0 1, slot := le h 1 1, apSize := le b 40 1, apBase := le h 4 8,
      q := { trk := le b 44 2, hold := le b 46 2, cells := le b 48 4, folds := le b 52 2, dir := le b 56 4 },
      squash := le b 60 4, es := es }
  if !blobOk b then .errWith .invalidParam (d.raise .instBlob (uDev 0x03) 0 i)
  else if blobReserved b then .fail .invalidParam
  else if lost then .fail .stateMismatch
  else if d.newBad x then .fail .invalidParam
  else if d.dpaClash x.port none (some i) x.apBase (2 ^ (x.apSize + 28)) || d.bit F.POL.TRANSIT i then .fail .stateMismatch
  else match d.freeVf x.port with
    | none => .fail .poolExhausted
    | some vf =>
      if !d.poolsGive x.q then .fail .poolExhausted
      else
        let refill := d.get F.SCH_CTL.REFILL
        let (cir, d) := d.rateFld (rateOf (le b 72 8) refill)
        let (pir, d) := d.rateFld (rateOf (le b 80 8) refill)
        let d := d.enterIns i x vf ((le b 24 2 + 1) % 2 ^ 16) 4
        let d := (((((d.put F.POL.EN i (le b 64 1 % 2)).put F.POL.AWARE i (le b 64 1 / 2 % 2)).put F.POL.CIR i cir).put F.POL.PIR i pir).put
          F.POL.CBS i (le b 88 4)).put F.POL.PBS i (le b 92 4)
        let d := d.setPol i { d.pol i with tc := le b 96 4 * 256, tp := le b 100 4 * 256 }
        let d := { d with
          sw := { d.sw with rates := (d.sw.rates.put 0 (2 ^ 20 + 2 * i) (le b 72 8)).put 0 (2 ^ 20 + 2 * i + 1) (le b 80 8) },
          ins := { d.ins with vf := d.ins.vf.put [] i ((b.drop 112).take 256) } }
        let d := d.count (cDev 28)
        .ok (bytes 2 (vf + 1) ++ bytes 2 (d.get F.INS.CLASS i) ++ bytes 2 (d.get F.INS.GEN i)) d []

/-- INSTANCE_RESTORE (R384). -/
def execInstanceRestore (r : FoernReq) (s : State) : Host.Outcome State Fault Refusal :=
  s.upd (s.dev.onDie fun d => d.foern r (insCmd 0xC604) fun h pay d =>
    let i := h.sel.toNat
    let fl := le pay 2 1
    let stream := le pay 3 1
    let off := le pay 16 4
    let total := le pay 20 4
    let st := d.get F.INS.STATE i
    let got := match d.ins.restores.get none i with
      | some x => x.bytes
      | none => []
    let chunk := pay.drop 24
    if 1024 ≤ i || pay.length < 24 || 3 < fl || le pay 14 2 ≠ 0 || 4095 < le pay 12 2 || 1024 < chunk.length then .fail .invalidParam
    else if st ≠ 0 then .fail (stateDetail st)
    else if fl / 2 = 1 then
      if chunk ≠ [] || stream < 0x90 || 0x9F < stream then .fail .invalidParam
      else match d.car.held.get none (stream - 0x90) with
        | none => .fail .stateMismatch
        | some b => ({ d with car := { d.car with held := d.car.held.erase (stream - 0x90) } }).restoreBlob i (pay.take 24) b
    else
      let forget := { d with ins := { d.ins with restores := d.ins.restores.erase i } }
      let got := if off = 0 then [] else got
      if off ≠ got.length || chunk = [] || 1392 < total || total < off + chunk.length then .errWith .invalidParam forget
      else if off + chunk.length < total then
        .done { d with ins := { d.ins with restores := d.ins.restores.put none i (some { head := pay.take 24, bytes := got ++ chunk }) } }
      else forget.restoreBlob i (pay.take 24) (got ++ chunk))

/-! ### Status, translation and pools (R392, R396, R397) -/

/-- A word of an instance entry as it reads. -/
def Dev.insWord (d : Dev) (i w : Nat) : Nat :=
  match w with
  | 0 => d.word .INS0 i | 1 => d.word .INS1 i | 2 => d.word .INS2 i | 3 => d.word .INS3 i | 4 => d.word .INS4 i
  | 5 => d.word .INS5 i | 6 => d.word .INS6 i | 8 => d.word .INS8 i
  | 9 => ((d.insOpen i).countP fun r => r.m.gen.toNat == d.get F.INS.GEN i) % 2 ^ 16 +
      ((d.insOut i).countP fun r => r.squashed) % 2 ^ 16 * 2 ^ 16
  | 10 => (d.insBlocks i + 3) / 4 % 2 ^ 20 + d.foldsUsed i % 2 ^ 7 * 2 ^ 20
  | 11 => (d.coh.dir.countP fun x => decide (x.2.inst = some (Fin.ofNat 1024 i)) && x.2.valid) % 2 ^ 26
  | 12 => d.word .INS12 i | 13 => d.word .INS13 i
  | _ => 0

/-- INSTANCE_STATUS (R396). -/
def execInstanceStatus (r : FoernReq) (s : State) : Host.Outcome State Fault Refusal :=
  s.upd (s.dev.onDie fun d =>
    d.foern r { opcode := 0xC607, may := fun p _ sel => d.insMay p sel.toNat true, modes := liveModes } fun h pay d =>
    let i := h.sel.toNat
    if 1024 ≤ i || pay.length ≠ 0 then .fail .invalidParam
    else .ok ((List.range 14).flatMap fun w => bytes 4 (d.insWord i w)) d [])

/-- INSTANCE_XLATE_SET (R397). -/
def execInstanceXlateSet (r : FoernReq) (s : State) : Host.Outcome State Fault Refusal :=
  s.upd (s.dev.onDie fun d => d.foern r (insCmd 0xC608) fun h pay d =>
    let i := h.sel.toNat
    let n := le pay 0 1
    let es := xents (pay.drop 4) n
    let coh := es.any fun e => XEnt.valid e && XEnt.coh e
    if 1024 ≤ i || n = 0 || 64 < n || pay.length ≠ 4 + 16 * n || le pay 1 3 ≠ 0 || d.xlateBad (2 ^ (d.get F.INS.AP_SIZE i + 7)) es ||
        (coh && d.get F.INS.Q_DIR i < 16) then .fail .invalidParam
    else if d.get F.INS.STATE i ≠ 4 then .fail .stateMismatch
    else
      let d := d.putXlate i es
      .ok (bytes 4 (d.get F.INS.CLASS i)) d [])

/-- INSTANCE_POOL_SET (R397). -/
def execInstancePoolSet (r : FoernReq) (s : State) : Host.Outcome State Fault Refusal :=
  s.upd (s.dev.onDie fun d => d.foern r (insCmd 0xC609) fun _ pay d =>
    let v (k : Nat) := le pay (4 * k) 4
    let u := d.reserved
    if pay.length ≠ 20 || v 0 < u.trk || 32768 < v 0 || v 1 < u.hold || 65536 < v 1 || v 2 < u.cells || 524288 < v 2 ||
        v 3 < u.dir || 4194304 < v 3 || v 3 % 16 ≠ 0 || v 4 < u.folds || 512 < v 4 then .fail .invalidParam
    else
      let d := ((d.put F.INS_POOL_TRK.SIZE 0 (v 0)).put F.INS_POOL_HOLD.SIZE 0 (v 1)).put F.INS_POOL_CELLS.SIZE 0 (v 2)
      let d := (d.put F.INS_POOL_DIR.SIZE 0 (v 3 / 16)).put F.INS_POOL_FOLDS.SIZE 0 (v 4)
      .ok (bytes 4 u.trk ++ bytes 4 u.hold ++ bytes 4 u.cells ++ bytes 4 u.dir ++ bytes 4 u.folds) d [])

end Sys2Proof.Machine
end

