-- ==== Sys2Proof/Machine/IlOps.lean ====
section
/-!
DEFINITION. The interlink link layer: headers, sequence and replay, credits, slots, sessions and retrain (R126 to R151).
-/

namespace Sys2Proof.Machine

/-! ### Numbers -/

/-- a − b modulo 4,096. -/
def dist12 (a b : BitVec 12) : Nat := (a - b).toNat

/-- The pool sizes of port `p` (R157). -/
def Dev.pools (d : Dev) (p : Nat) : List Nat :=
  [d.get F.PRT_IL_VCPOOL0.REQ p, d.get F.PRT_IL_VCPOOL0.RWD p, d.get F.PRT_IL_VCPOOL1.SNP p, d.get F.PRT_IL_VCPOOL1.RSP p,
   d.get F.PRT_IL_VCPOOL2.DRS p, d.get F.PRT_IL_VCPOOL2.IO p]

/-- Entry `v` of a list of messages in progress, and the list with it set. -/
def openOf (l : List (Option Msg)) (v : Nat) : Option Msg := (l.getD v none)

/-- R129: whether pool sizes are allowed. -/
def poolsOk (l : List Nat) : Bool :=
  (l.take 5).all (fun n => decide (32 ≤ n)) && decide (64 ≤ six l 5) && decide (l.foldl (· + ·) 0 ≤ 2048)

/-- The state code of R139. -/
def Dev.ilState (d : Dev) (p : Nat) : Nat := d.get F.PRT_IL_STATUS.STATE p

/-- Enter an interlink state, with its LTSSM code (R139). -/
def Dev.ilEnter (d : Dev) (p st : Nat) : Dev :=
  let lt := match st with | 2 => 1 | 3 => 2 | 4 => 2 | 5 => 4 | 6 => 3 | 7 => 7 | _ => 0
  (d.put F.PRT_IL_STATUS.STATE p st).put F.PRT_STATUS.LTSSM p lt

/-- Return to DETECT: the exchange in progress is dropped (R139 to R141). -/
def Dev.ilDetect (d : Dev) (p : Nat) : Dev :=
  (d.ilEnter p 1).setIl p { d.ilRt p with
    peer := none, ackRx := false, ackResume := false, ackTx := false, peerBad := false, ctrlq := [] }

/-- An interlink fault of port `p` that names sequence `seq` (R152), with its error bit (R161). -/
def Dev.ilFault (d : Dev) (k : Kind) (bit : Fld) (p seq : Nat) (level : Option Nat := none) : Dev :=
  (d.set bit p).raise k (uPort p) p (p + seq * 65536) level

/-! ### Retrain (R143 to R145) -/

/-- The width a retrain asks for: never above PRT_CFG.WIDTH; 0 asks for the current one. -/
def Dev.ilWidth (d : Dev) (p w : Nat) : Nat :=
  if w = 0 then d.get F.PRT_STATUS.WIDTH_NOW p else min w (d.get F.PRT_CFG.WIDTH p)

/-- R143, R144 step 1: start a retrain in ACTIVE, unless one is being asked for. -/
def Dev.ilRetrain (d : Dev) (p reason w : Nat) : Dev :=
  let r := d.ilRt p
  if d.ilState p = 5 && r.retrain.isNone then
    let w := BitVec.ofNat 3 (d.ilWidth p w)
    d.setIl p { r with
      retrain := some { reason := BitVec.ofNat 8 reason, width := w, asking := true, phase := 0, tries := 0 },
      ctrlq := r.ctrlq ++ [.retrainReq w (BitVec.ofNat 8 reason)] }
  else d

/-- R144 step 2: enter PAUSE with a width: the reorder buffer is cleared and go-back-N ends. -/
def Dev.ilPause (d : Dev) (p w : Nat) : Dev :=
  let r := d.ilRt p
  let d := ((d.ilEnter p 6).put F.PRT_IL_STATUS.GBN p 0).count (cPort p 23)
  d.setIl p { r with
    rob := [], toName := [], named := [], sendGbn := false, resend := [],
    peer := none, ackRx := false, ackResume := false, ackTx := false,
    retrain := some { reason := 0, width := BitVec.ofNat 3 w, asking := false, phase := 0,
                      tries := (r.retrain.map (·.tries)).getD 0 } }

/-- R137: replay exhaustion; not declared in PAUSE (R147). -/
def Dev.ilExhaust (d : Dev) (p seq : Nat) : Dev :=
  if d.ilState p = 5 then
    (d.ilFault .ilReplayExhaust F.PRT_IL_ERR.REPLAY_EXHAUST p seq).ilRetrain p 3 0
  else d

/-! ### Headers (R130 to R135) -/

/-- Apply the ACK of a header: free what it covers. Answers whether it named a sequence never sent; one that an earlier ACK
covered is stale. -/
def Dev.ilAck (d : Dev) (p : Nat) (ack : BitVec 12) : Dev × Bool :=
  let r := d.ilRt p
  let n := dist12 r.txNext (r.acked + 1)
  let k := dist12 ack r.acked
  if k ≤ n then
    let left (s : BitVec 12) : Bool := decide (k < dist12 s r.acked)
    (d.setIl p { r with acked := ack, replay := r.replay.filter fun f => left f.1.hdr.seq, resend := r.resend.filter left }, false)
  else (d, !decide (3072 < k))

/-- Apply the NAK of a header (R135, R136). -/
def Dev.ilNak (d : Dev) (p : Nat) (s : BitVec 12) (gbn : Bool) : Dev × Bool :=
  let r := d.ilRt p
  let d := if gbn then d else d.count (cPort p 13)
  let n := dist12 r.txNext (r.acked + 1)
  let k := dist12 s r.acked
  if 1 ≤ k && k ≤ n then
    if gbn then
      let l := (r.replay.map fun f => f.1.hdr.seq).filter fun q => decide (k ≤ dist12 q r.acked)
      (d.setIl p { r with resend := r.resend.filter (fun q => !l.contains q) ++ l }, false)
    else if r.resend.contains s then (d, false)
    else (d.setIl p { r with resend := r.resend ++ [s] }, false)
  else (d, !(k = 0 || decide (3072 < k)))

/-- Apply a credit count (R130). Answers whether it advances beyond the slots outstanding. -/
def Dev.ilCredit (d : Dev) (p v count : Nat) : Dev × Bool :=
  let r := d.ilRt p
  let adv := (count + 65536 - six r.returned v) % 65536
  if adv ≤ (six r.sent v + 65536 - six r.returned v) % 65536 then
    (d.setIl p { r with returned := setSix r.returned v count }, false)
  else (d, true)

/-- Learn of missing flits: every sequence from rx_expected up to `s` that is not held is named once (R134). -/
def Dev.ilGaps (d : Dev) (p : Nat) (s : BitVec 12) : Dev :=
  let r := d.ilRt p
  let n := dist12 s r.rxExp
  if n > 1023 || d.bit F.PRT_IL_STATUS.GBN p then d
  else
    let miss := ((List.range n).map fun k => r.rxExp + BitVec.ofNat 12 k).filter fun q =>
      !(r.rob.any fun f => f.hdr.seq == q) && !r.toName.contains q && !r.named.contains q
    d.setIl p { r with toName := r.toName ++ miss }

/-- FK_IL_PROTOCOL for flit `seq`, if `bad` (R151). -/
def Dev.ilProto (d : Dev) (p seq : Nat) (bad : Bool) : Dev :=
  if bad then d.ilFault .ilProtocol F.PRT_IL_ERR.PROTOCOL p seq else d

/-- Apply a header received in ACTIVE: the ACK first, then the NAK, then the credit count (R147), with the further counts that an
IDLE flit carries. Each violation is logged once per flit (R151). -/
def Dev.ilHdr (d : Dev) (p : Nat) (h : IlHdr) (credits : List (BitVec 16)) : Dev :=
  let (d, bad) := d.ilAck p h.ack
  let d := d.ilProto p h.seq.toNat bad
  let (d, bad) := match h.nak with
    | some s => d.ilNak p s h.gbn
    | none => (d, false)
  let d := d.ilProto p h.seq.toNat bad
  let counts := (if h.crVc.toNat < 6 then [(h.crVc.toNat, h.crCount.toNat)] else []) ++
    (List.range credits.length).map fun v => (v, (credits.getD v 0).toNat)
  let (d, bad) := counts.foldl (fun (a : Dev × Bool) c => let (d, b) := a.1.ilCredit p c.1 c.2; (d, a.2 || b)) (d, false)
  if bad then d.ilFault .ilCreditViol F.PRT_IL_ERR.CREDIT_VIOL p h.seq.toNat else d

/-! ### Receiving DATA (R127, R128, R133) -/

/-- The port releases to the core, in order, the slots that the link has released (R132, R406). A slot that continues a TLP whose
beginning a link-down discarded is discarded too (R179). -/
def Dev.ilPump : Nat → Dev → Nat → Dev
  | 0, d, _ => d
  | fuel + 1, d, p =>
    let r := d.ilRt p
    match r.wait with
    | [] => d
    | x :: l =>
      let rest := d.setIl p { r with wait := l }
      let begun := (d.unfinished p x.m.cls).isSome
      if !d.carries p || (!begun && d.relFull p) then d
      else if !begun && decide (2 ≤ x.pos.toNat) then Dev.ilPump fuel (rest.ilFreeN p x.vc.toNat 1) p
      else Dev.ilPump fuel (rest.ingress (Fin.ofNat 64 p) 0 true .edge x.m (ilSlots x.m - 1) false) p

/-- Release what port `p` can. -/
def Dev.ilServe (d : Dev) (p : Nat) : Dev := Dev.ilPump (d.ilRt p).wait.length d p

/-- The last `n` slots of channel `v` are taken out of a list. -/
def dropLastOn (v : Nat) : Nat → List IlSlot → List IlSlot
  | 0, l => l
  | n + 1, l => match (l.reverse.find? fun x => x.vc.toNat == v) with
    | some x => dropLastOn v n (l.reverse.erase x).reverse
    | none => l

/-- A slot breaks the message in progress on channel `v`: its `busy` slots and that one are discarded and their credit returned
(R151). -/
def Dev.ilBreak (d : Dev) (p v busy : Nat) : Dev :=
  let r := d.ilRt p
  let d := d.setIl p { r with
    wait := dropLastOn v busy r.wait, open_ := setSix r.open_ v 0, openM := r.openM.set v none,
    occ := setSix r.occ v (six r.occ v + 1) }
  let d := d.dropMsgs p fun x => x.port.val == p && x.more != 0 && vcOf x.m.cls.code == v
  let d := d.ilFreeN p v (busy + 1)
  match openOf r.openM v with
  | some m => d.malformed p m
  | none => d

/-- Release one slot: it takes its place in the pool of its channel, or is discarded with its message when it breaks the
rules of R126 to R128: each message that it breaks and whose head has come is answered as malformed, and one without a head is
counted (R151, R201). `early`: its header has been released early (R138). Answers whether it broke them.
DEDUCED, unsafe: log entry 17. -/
def Dev.ilSlot (d : Dev) (p : Nat) (x : IlSlot) (early : Bool) : Dev × Bool :=
  let r := d.ilRt p
  let v := x.vc.toNat
  let busy := six r.open_ v
  let first := x.pos.toNat < 2
  let m := (openOf r.openM v).getD x.m
  let last := decide (busy + 1 = ilSlots m)
  let ok := v < 6 && vcOf x.icls.toNat = v && 1 ≤ x.len.toNat && x.len.toNat ≤ 56 && (first == (busy == 0)) &&
    ((x.pos.toNat % 3 == 0) == last)
  if ok then
    (d.setIl p { r with
      open_ := setSix r.open_ v (if last then 0 else busy + 1), openM := r.openM.set v (if last then none else some m),
      occ := setSix r.occ v (six r.occ v + 1), wait := if early then r.wait else r.wait ++ [x] }, false)
  else
    let d := if v < 6 then d.ilBreak p v busy else d
    (if first then d.malformed p x.m else if busy = 0 then d.count (cTile (p / 8) 6) else d, true)

/-- Release a flit in order (R132): the slots of it that were released early have their verdict (R138); the others enter as checked
slots. -/
def Dev.ilRelease (d : Dev) (p : Nat) (seq : BitVec 12) (slots : List IlSlot) : Dev :=
  let early := ((d.openSlots p).filter fun y => y.flit == seq.toNat).length
  let d := d.passFlit p seq.toNat
  let (d, bad) := (List.range slots.length).foldl (fun (a : Dev × Bool) k => match slots[k]? with
    | some x => let (d, b) := a.1.ilSlot p x (decide (k < early)); (d, a.2 || b)
    | none => a) (d, false)
  let r := d.ilRt p
  let d := d.setIl p { r with rxExp := r.rxExp + 1, toName := r.toName.erase seq, named := r.named.erase seq }
  (d.ilProto p seq.toNat bad).ilServe p

def IlBody.slots : IlBody → List IlSlot
  | .data s | .replay s => s
  | _ => []

/-- Release the flits of the reorder buffer that have become next. -/
def Dev.ilDrain : Nat → Dev → Nat → Dev
  | 0, d, _ => d
  | fuel + 1, d, p =>
    let r := d.ilRt p
    match r.rob.find? fun f => f.hdr.seq == r.rxExp with
    | some f => Dev.ilDrain fuel ((d.setIl p { r with rob := r.rob.erase f }).ilRelease p f.hdr.seq (IlBody.slots f.body)) p
    | none => d

/-- Slots of a list on channel `v`. -/
def onVc (v : Nat) (l : List IlSlot) : Nat := (l.filter fun x => x.vc.toNat == v).length

/-- Whether the slots fit the free pools, with what the reorder buffer holds (R151). -/
def Dev.ilRoom (d : Dev) (p : Nat) (slots : List IlSlot) : Bool :=
  let r := d.ilRt p
  let held := r.rob.flatMap fun f => IlBody.slots f.body
  (List.range 6).all fun v => decide (onVc v slots = 0) || decide (six r.occ v + onVc v held + onVc v slots ≤ six r.pools v)

/-- R133: a DATA or REPLAY flit that passed its CRC. -/
def Dev.ilData (d : Dev) (p : Nat) (h : IlHdr) (body : IlBody) : Dev :=
  let r := d.ilRt p
  let slots := IlBody.slots body
  let k := dist12 h.seq r.rxExp
  let held := r.rob.any fun f => f.hdr.seq == h.seq
  let gbn := d.bit F.PRT_IL_STATUS.GBN p
  if k > 1023 || (decide (k > 0) && held) then (d.count (cPort p 15)).setIl p { r with ackSoon := true }
  else if k > 0 && gbn then d
  else if !d.ilRoom p slots then d.ilFault .ilCreditViol F.PRT_IL_ERR.CREDIT_VIOL p h.seq.toNat (some 1)
  else if k > 256 then
    let d := ((d.ilFault .ilReorderOvf F.PRT_IL_ERR.REORDER_OVF p h.seq.toNat).set F.PRT_IL_STATUS.GBN p).count (cPort p 14)
    d.setIl p { d.ilRt p with sendGbn := true, toName := [], named := [] }
  else if k > 0 then
    (d.setIl p { r with rob := r.rob ++ [{ hdr := h, body := body }], toName := r.toName.erase h.seq,
                        named := r.named.erase h.seq }).ilGaps p h.seq
  else
    let d := (d.ilRelease p h.seq slots).ilDrain 256 p
    if gbn && (d.ilRt p).rob = [] then d.put F.PRT_IL_STATUS.GBN p 0 else d

/-- An IDLE flit: its header, its six credit counts, and the sequences it reveals as missing (R130, R134, R150). -/
def Dev.ilIdle (d : Dev) (p : Nat) (h : IlHdr) (credits : List (BitVec 16)) : Dev :=
  (d.ilHdr p h credits).ilGaps p h.seq

/-! ### Sessions (R139 to R142) -/

/-- The widest of x16, x8 and x4 not above `top` whose aligned quads are all in `q`. -/
def widest (q : BitVec 4) (top : Nat) : Nat :=
  let all := q.toNat
  if top ≥ 5 && all = 15 then 5
  else if top ≥ 4 && (all % 4 = 3 || all / 4 = 3) then 4
  else if top ≥ 3 && all ≠ 0 then 3
  else 0

/-- Whether port `p` may resume its session. -/
def Dev.ilMayResume (d : Dev) (p : Nat) : Bool :=
  d.ilState p = 6 || (d.bit F.PRT_IL_CFG.RESUME_EN p && (d.prt p).layover && (d.ilRt p).sessionIdent.isSome)

/-- The PARAM body that port `p` sends (R149). -/
def Dev.ilParam (d : Dev) (p : Nat) : IlParam :=
  let r := d.ilRt p
  let res := d.ilMayResume p
  let s := BitVec.ofNat 16 (d.get F.PRT_IL_STATUS.SESSION p)
  { node := BitVec.ofNat 16 (d.get F.GLB_NODE.NODE_ID), serial := Config.serial, session := if res then s else s + 1,
    resume := res, quads := r.quads, rxExp := r.rxExp, pools := (d.pools p).map (BitVec.ofNat 16 ·),
    freed := (d.ilGive p |>.ilRt p).freed.map (BitVec.ofNat 16 ·) }

/-- The session of the exchange: this end's, its next one, or the one the partner proposes (R142). -/
def Dev.ilSession (d : Dev) (p : Nat) (b : IlParam) (resume : Bool) : BitVec 16 :=
  let mine := BitVec.ofNat 16 (d.get F.PRT_IL_STATUS.SESSION p)
  if resume then mine else if d.bit F.PRT_IL_STATUS.LEADER p then mine + 1 else if b.resume then b.session + 1 else b.session

/-- Whether this end sees every condition of a resume kept (R142). -/
def Dev.ilResumes (d : Dev) (p : Nat) (b : IlParam) : Bool :=
  d.ilState p = 6 || (d.ilMayResume p && b.resume && b.session == BitVec.ofNat 16 (d.get F.PRT_IL_STATUS.SESSION p) &&
    (d.ilRt p).sessionIdent == some b.serial)

/-- PARAM cannot go on: back to DETECT, or after a pause the port is down (R140, R141, R146). -/
def Dev.ilParamFail (d : Dev) (p : Nat) : Dev := if d.ilState p = 6 then d.linkDown p 0xA else d.ilDetect p

/-- The exchange runs: PARAM, or PAUSE after lock. -/
def Dev.ilInParam (d : Dev) (p : Nat) : Bool :=
  d.ilState p = 4 || (d.ilState p = 6 && ((d.ilRt p).retrain.map (·.phase)).getD 0 = 2)

/-- R141: a PARAM body is received. -/
def Dev.ilParamRx (d : Dev) (p : Nat) (b : IlParam) : Dev :=
  if !d.ilInParam p then d
  else
    let node := d.get F.GLB_NODE.NODE_ID
    if !poolsOk (b.pools.map (·.toNat)) || b.pools.length ≠ 6 then d.ilFault .ilProtocol F.PRT_IL_ERR.PROTOCOL p 0
    else if b.node.toNat = node then (d.ilFault .ilPeerMismatch F.PRT_IL_ERR.PEER_MISMATCH p 0).ilParamFail p
    else if d.bit F.PRT_IL_PEER.PEER_CHECK p && decide (b.node.toNat ≠ d.get F.PRT_IL_PEER.PEER_NODE p) then
      let r := d.ilRt p
      let d := if r.peerLogged then d else d.ilFault .ilPeerMismatch F.PRT_IL_ERR.PEER_MISMATCH p 0
      d.setIl p { r with peerLogged := true, peerBad := true }
    else
      -- R140: only quads equalised at both ends count
      let asked := if d.ilState p = 6 then (((d.ilRt p).retrain.map fun x => x.width.toNat)).getD 0 else d.get F.PRT_CFG.WIDTH p
      let w := widest ((d.ilRt p).quads &&& b.quads) asked
      if w = 0 then d.ilParamFail p
      else
        let d := (d.put F.PRT_STATUS.WIDTH_TRAINED p w).put F.PRT_IL_STATUS.LEADER p (if node > b.node.toNat then 1 else 0)
        d.setIl p { d.ilRt p with peer := some b }

/-- Resolve a layover of a standard port whose partner has shown identity `v` (R106, R197): the window ends, or a different
identity flushes with cause 0x2. A port with IDE required waits for IDE. -/
def Dev.resolveLayover (d : Dev) (p : Nat) (v : BitVec 64) : Dev :=
  let r := d.prt p
  if !r.layover then d
  else match r.ref with
    | none => d
    | some x =>
      if x = v then
        if d.bit F.PRT_IDE.REQUIRED p && !d.bit F.PRT_STATUS.IDE_ACTIVE p then d
        else d.setPrt p { r with layover := false, ref := none }
      else
        let d := (d.set F.PRT_ERR.ID_MISMATCH p).flushPort p 2
        if d.isHost p then ({ d with coh := { d.coh with deadDown := addHost d.coh.deadDown p } }).linkDown p 8 else d

/-- The slots that wait for a flit, without those that continue a message already begun, and those (R127). -/
def IlRt.txSplit (r : IlRt) : List IlSlot × List IlSlot :=
  r.txq.foldl (fun (a : List IlSlot × List IlSlot) x =>
    if x.pos.toNat < 2 || a.1.any (fun y => y.vc == x.vc) then (a.1 ++ [x], a.2) else (a.1, a.2 ++ [x])) ([], [])

/-- The messages whose last slot is in an unacknowledged flit, or still waits after their first has been sent (R142). -/
def IlRt.unacked (r : IlRt) : List Msg :=
  lastSlots (r.replay.flatMap (fun f => IlBody.slots f.1.body) ++ r.txSplit.2)

/-- The quads of a width, the lowest aligned ones among `q` (R140). DESIGN CHOICE, unsafe: log entry 74. -/
def quadsOf (q : BitVec 4) (w : Nat) : BitVec 4 :=
  if w = 5 then 15
  else if w = 4 then (if q.toNat % 4 = 3 then 3 else 12)
  else ([1, 2, 4, 8].find? fun b => (q &&& b) != 0).getD 0

/-- A resume (R142) or the end of a pause (R144 step 5): what the partner's rx_expected acknowledges is freed, the rest is resent, and
the partner's counts of freed slots are taken (R130). -/
def Dev.ilResume (d : Dev) (p : Nat) (b : IlParam) : Dev :=
  let r := d.ilRt p
  let ack := b.rxExp - 1
  let left := r.replay.filter fun f => decide (dist12 ack r.acked < dist12 f.1.hdr.seq r.acked)
  let d := d.setIl p { r with
    acked := ack, replay := left, resend := left.map (·.1.hdr.seq), rob := [], toName := [], named := [], sendGbn := false }
  let (d, bad) := (List.range 6).foldl (fun (a : Dev × Bool) v =>
    let (d, b) := a.1.ilCredit p v (b.freed.getD v 0).toNat; (d, a.2 || b)) (d, false)
  if bad then d.ilFault .ilCreditViol F.PRT_IL_ERR.CREDIT_VIOL p 0 else d

/-- A new session (R142) discards what is left of the old one: a partner that is not the one of the layover flushes the port
(R106, R197); else the unacknowledged messages are answered as lost, which is a port reset. -/
def Dev.ilForget (d : Dev) (p : Nat) (serial : BitVec 64) : Dev :=
  let lost := (d.ilRt p).unacked
  if (d.prt p).layover && (d.prt p).ref.any (· != serial) then (d.set F.PRT_ERR.ID_MISMATCH p).flushPort p 2
  else
    let d := lost.foldl (fun d m => match m.cls with
      | .req | .rwd | .ion => d.loseReqs p [m]
      | _ => d.lostAnswer (uTile (p / 8) 0x11) p m) d
    if lost = [] then d else d.portReset p

/-- R140, R142, R144 step 5: enter ACTIVE, resuming or starting a session; a width below the configured one is logged. The layover
ends (R197). -/
def Dev.ilActive (d : Dev) (p : Nat) (b : IlParam) : Dev :=
  let r := d.ilRt p
  let pause := d.ilState p = 6
  let res := pause || (d.ilResumes p b && r.ackResume)
  let leader := d.get F.PRT_IL_STATUS.LEADER p
  let reversed := d.get F.PRT_STATUS.LANE_REVERSED p
  let width := d.get F.PRT_STATUS.WIDTH_TRAINED p
  let session := (d.ilSession p b false).toNat
  let d :=
    if res then (if pause then d else (d.set F.PRT_IL_STATUS.RESUMED p).count (cPort p 24)).ilResume p b
    else
      let d := (d.ilForget p b.serial).dropPartial p
      ((d.put F.PRT_IL_STATUS.RESUMED p 0).put F.PRT_IL_STATUS.SESSION p session).setIl p
        { IlRt.reset with limit := b.pools.map (·.toNat), pools := d.pools p, timeId := r.timeId, quads := r.quads,
                          nulls := r.nulls, ctrlq := r.ctrlq, txq := (d.ilRt p).txSplit.1 }
  let d := ((d.ilEnter p 5).put F.PRT_IL_STATUS.LEADER p leader).set F.PRT_STATUS.DL_ACTIVE p
  let d := ((d.put F.PRT_STATUS.RATE p 6).put F.PRT_STATUS.FLIT p 2).put F.PRT_STATUS.LANE_REVERSED p reversed
  let d := ((d.put F.PRT_STATUS.WIDTH_TRAINED p width).put F.PRT_STATUS.WIDTH_NOW p width).unitTime p
  let d := if width < d.get F.PRT_CFG.WIDTH p then
      (d.set F.PRT_ERR.DEGRADED p).raise .linkDegrade (uPort p) p (Config.faultAddr Kind.linkDegrade.code p).toNat
    else d
  let d := (d.put F.PRT_PARTNER_ID.ID p b.serial.toNat).set F.PRT_STATUS.ID_CONFIRMED p
  let d := d.setIl p { d.ilRt p with
    sessionIdent := some b.serial, peer := none, ackRx := false, ackResume := false, ackTx := false, retrain := none, peerLogged := false,
    used := quadsOf (r.quads &&& b.quads) width }
  (d.setPrt p { d.prt p with up := true, layover := false, ref := none }).ilServe p

/-- Enter ACTIVE once PARAM_ACK has been both sent and received (R141). -/
def Dev.ilTryActive (d : Dev) (p : Nat) : Dev :=
  let r := d.ilRt p
  match r.peer with
  | some b => if r.ackRx && r.ackTx then d.ilActive p b else d
  | none => d

end Sys2Proof.Machine
end

