-- ==== Sys2Proof/Machine/IlSend.lean ====
section
/-!
DEFINITION. What an interlink port sends (R123, R130 to R137, R146, R150): headers, replays, control bodies, data and idle flits.
-/

namespace Sys2Proof.Machine

/-! ### Sending (R123, R130 to R137, R150, R589) -/

/-- The header of the next flit: its sequence, the acknowledgement, the oldest sequence to name, and the credit count of
channel `v` (7: none). Answers the session with the NAK taken off its list and CR_VC stepped. A NAK with NAK_GBN is
sent once and is not among the named sequences that tIL_NAK repeats. DESIGN CHOICE, unsafe: log entry 74. -/
def IlRt.header (r : IlRt) (seq : BitVec 12) (v : Nat) : IlHdr × IlRt :=
  let (nak, gbn, r) : Option (BitVec 12) × Bool × IlRt :=
    if r.sendGbn then (some r.rxExp, true, { r with sendGbn := false })
    else match r.toName with
      | s :: l => (some s, false, { r with toName := l, named := r.named ++ [s] })
      | [] => (none, false, r)
  ({ seq := seq, ack := r.rxExp - 1, nak := nak, gbn := gbn, crVc := BitVec.ofNat 3 v,
     crCount := BitVec.ofNat 16 (if v < 6 then six r.freed v else 0) },
    { r with ackSoon := false, crVc := if v < 6 then (v + 1) % 6 else r.crVc })

/-- Choose up to `n` waiting slots in order, each with credit on its channel; a channel that lacks credit holds its later
slots (R130). Answers the chosen slots, the rest, the counts of slots sent, and the channels stopped. -/
def pickSlots (limit returned : List Nat) : Nat → List IlSlot → List Nat → List Nat → List IlSlot × List IlSlot × List Nat × List Nat
  | _, [], sent, stop => ([], [], sent, stop)
  | n, x :: l, sent, stop =>
    let v := x.vc.toNat
    if n = 0 then ([], x :: l, sent, stop)
    else if stop.contains v then
      let (a, b, s, c) := pickSlots limit returned n l sent stop
      (a, x :: b, s, c)
    else if (six sent v + 65536 - six returned v) % 65536 < six limit v then
      let (a, b, s, c) := pickSlots limit returned (n - 1) l (setSix sent v ((six sent v + 1) % 65536)) stop
      (x :: a, b, s, c)
    else
      let (a, b, s, c) := pickSlots limit returned n l sent (stop ++ [v])
      (a, x :: b, s, c)

/-- Put a flit on the wire with its CRC-64 (R125); an injection inverts it (R513). -/
def Dev.ilOut (d : Dev) (p : Nat) (f : IlFlit) : Dev :=
  let n := d.flt.injLink.get 0 p
  { d with wire := d.wire ++ [(Fin.ofNat 64 p, f, if 0 < n then ~~~ (IlFlit.crc f) else IlFlit.crc f)],
           flt := { d.flt with injLink := d.flt.injLink.put 0 p (n - 1) } }

/-- Whether a message of port `p` is ready: a slot waits, or a queue or side buffer of the port is not empty. -/
def Dev.ilReady (d : Dev) (p : Nat) : Bool :=
  !(d.ilRt p).txq.isEmpty || !(d.prt p).sideNp.isEmpty || !(d.prt p).sideCpl.isEmpty ||
    (d.sw.queues.any fun x => x.1 / 256 == p && match x.2 with
      | some q => !q.msgs.isEmpty
      | none => false)

/-- R589: attribute the four slot positions of a flit that carries `used` slots of message content. -/
def Dev.ilSlotCount (d : Dev) (p used : Nat) (nullsToo : Bool) : Dev :=
  let r := d.ilRt p
  let n := if nullsToo then min r.nulls (4 - used) else 0
  let d := d.setIl p { r with nulls := r.nulls - n }
  let d := (d.count (cPort p 0) used).count (cPort p 1) n
  d.count (cPort p (if d.ilReady p then 3 else 2)) (4 - used - n)

/-- Selective NAKs sent (R162). -/
def Dev.ilNakCount (d : Dev) (p : Nat) (h : IlHdr) : Dev := if h.nak.isSome && !h.gbn then d.count (cPort p 12) else d

/-- Resend the first flit queued for replay (R135). -/
def Dev.ilSendReplay (d : Dev) (p : Nat) (s : BitVec 12) (f : IlFlit) : Dev :=
  let r := d.ilRt p
  let (h, r) := r.header s r.crVc
  let tries := ((r.replay.find? fun x => x.1.hdr.seq == s).map (·.2)).getD 0 + 1
  let r := { r with resend := r.resend.erase s,
                    replay := r.replay.map fun x => if x.1.hdr.seq = s then (x.1, tries) else x }
  let d := (((d.setIl p r).ilOut p { hdr := h, body := .replay (IlBody.slots f.body) }).ilNakCount p h).count (cPort p 5)
  let d := d.count (cPort p 1) 4
  if tries ≥ max 1 (d.get F.PRT_IL_CFG.REPLAY_LIM p) then d.ilExhaust p s.toNat else d

/-- Send a control body: the PARAM body as it stands now, time stamps inserted as it leaves (R148, R149). A PARAM_ACK that has left
is noted (R141). -/
def Dev.ilSendCtrl (d : Dev) (p : Nat) (c : IlCtrl) : Dev :=
  let r := d.ilRt p
  let (h, r) := r.header r.txNext r.crVc
  let now := d.stampAt p
  let (c, r) := match c with
    | .param _ => (IlCtrl.param (d.ilParam p), r)
    | .paramAck s b => (IlCtrl.paramAck s b, { r with ackTx := true })
    | .timeReq id _ => (IlCtrl.timeReq id now, { r with timeReq := some (id, now) })
    | .timeRsp id t2 _ => (IlCtrl.timeRsp id t2 now, r)
    | c => (c, r)
  let d := ((((d.setIl p { r with ctrlq := r.ctrlq.tail }).ilOut p { hdr := h, body := .ctrl c }).ilNakCount p h).count
    (cPort p 7)).ilSlotCount p 0 false
  match c with
  | .paramAck _ _ => d.ilTryActive p
  | _ => d

/-- Send new DATA with the chosen slots (R131). -/
def Dev.ilSendData (d : Dev) (p : Nat) (slots rest : List IlSlot) (sent : List Nat) : Dev :=
  let r := d.ilRt p
  let (h, r) := r.header r.txNext r.crVc
  let f : IlFlit := { hdr := h, body := .data slots }
  ((((d.setIl p { r with txq := rest, sent := sent, txNext := r.txNext + 1, replay := r.replay ++ [(f, 0)] }).ilOut p
    f).ilNakCount p h).count (cPort p 4)).ilSlotCount p slots.length true

/-- Send IDLE with all six credit counts (R150). -/
def Dev.ilSendIdle (d : Dev) (p : Nat) : Dev :=
  let r := d.ilRt p
  let (h, r) := r.header r.txNext 7
  ((((d.setIl p r).ilOut p { hdr := h, body := .idle (r.freed.map (BitVec.ofNat 16 ·)) }).ilNakCount p h).count
    (cPort p 6)).ilSlotCount p 0 true

/-- The channels on which a message waits for credit: in a slot, or at the head of a queue (R162). -/
def Dev.ilStalled (d : Dev) (p : Nat) (stop : List Nat) : List Nat :=
  let heads := (d.busyQueues p).filterMap fun q => (d.queue q).msgs.head?
  (stop ++ (heads.filter fun h => !d.credit p h.m).map fun h => vcOf h.m.cls.code).eraseDups

/-- The next flit of port `p` (R131, R135, R144): REPLAY in ACTIVE, then CTRL where control bodies are exchanged, then in
ACTIVE new DATA or IDLE. DEDUCED, unsafe: log entry 17. -/
def Dev.ilSend (d : Dev) (p : Nat) : Dev :=
  let d := (d.ilServe p).ilGive p
  let r := d.ilRt p
  let active := d.ilState p = 5
  let d := if active && decide (1024 ≤ r.replay.length) then d.count (cPort p 16) else d
  let (slots, rest, sent, stop) := pickSlots r.limit r.returned 4 r.txq r.sent []
  let d := if active then (d.ilStalled p stop).foldl (fun d v => d.count (cPort p (17 + v))) d else d
  let again : Option (IlFlit × Nat) := r.resend.head?.bind fun s => r.replay.find? fun x => x.1.hdr.seq == s
  if active then
    match again, r.ctrlq with
    | some f, _ => d.ilSendReplay p f.1.hdr.seq f.1
    | none, c :: _ => d.ilSendCtrl p c
    | none, [] => if slots ≠ [] && r.replay.length < 1024 then d.ilSendData p slots rest sent else d.ilSendIdle p
  else
    match r.ctrlq with
    | c :: _ => if d.ilInParam p then d.ilSendCtrl p c else d
    | [] => d

/-- R146: LINK_DOWN three times, sent at once if the link is in ACTIVE. DEDUCED, unsafe: log entry 15. -/
def Dev.ilGoodbye (d : Dev) (p : Nat) (why : BitVec 8) : Dev :=
  if d.isIl p && d.ilState p = 5 then ((d.ilSendCtrl p (.linkDown why)).ilSendCtrl p (.linkDown why)).ilSendCtrl p (.linkDown why)
  else d

end Sys2Proof.Machine
end

