-- ==== Sys2Proof/Machine/Pins.lean ====
section
/-!
DEFINITION. The levels that the C64 drives on its pins (R74, R506, R525, R568, R610), as functions of the state.
-/

namespace Sys2Proof.Machine

/-- FAULT# is driven low while a record at L1 or above is unacknowledged, and released in Standby (R506). -/
def Dev.faultLow (d : Dev) : Bool :=
  d.powered && d.flt.log.any fun x => match x.2 with
    | some r => decide (1 ≤ r.level) && !r.acked
    | none => false

/-- ALERT# is driven low by Standby-Held (R525). -/
def Dev.alertLow (d : Dev) : Bool := d.pwr.alert

/-- The level the fabric die gives GPIO `n`, if it drives it (R74, R610): OUT where OE is set, the level that the last edge of the FTC
pulse left, or a copy of FAULT#. DESIGN CHOICE, unsafe: log entry 48. -/
def Dev.gpioDie (d : Dev) (n : Nat) : Option Bool :=
  match d.get F.GLB_CLAIM_GPIO.FUNC n with
  | 0x100 => if (d.get F.GLB_GPIO_OE.OE).testBit n then some ((d.get F.GLB_GPIO_OUT.OUT).testBit n) else none
  | 0x101 => some (d.pwr.pulses.get 0 n % 2 == 1)
  | 0x104 => some (!d.faultLow)
  | _ => none

/-- The level of GPIO `n` as the C64 drives it: with the fabric die off, the last level holds (R610). -/
def Dev.gpioOut (d : Dev) (n : Nat) : Option Bool :=
  if d.powered then d.gpioDie n
  else match d.pwr.gpioHeld.get 0 n with
    | 1 => some false
    | 2 => some true
    | _ => none

/-- What Butre keeps of the GPIOs when the fabric die goes off: the level of each output, and which GPIOs it senses (R610). -/
def Dev.gpioHold (d : Dev) : Dev :=
  let held : Tab Nat := (List.range 16).foldl (fun t n => t.put 0 n (match d.gpioDie n with
    | some false => 1
    | some true => 2
    | none => 0)) []
  let wake := ((List.range 16).filter fun n => d.get F.GLB_CLAIM_GPIO.FUNC n == 0x103).foldl (fun a n => a + 2 ^ n) 0
  { d with pwr := { d.pwr with gpioHeld := held, gpioWake := BitVec.ofNat 16 wake } }

/-- GPIO `n` is a wake input (R533). -/
def Dev.gpioSensed (d : Dev) (n : Nat) : Bool :=
  if d.powered then d.get F.GLB_CLAIM_GPIO.FUNC n == 0x103 else d.pwr.gpioWake.getLsbD n

/-- What a bay's LED shows. -/
inductive Led where
  | off | on | hz1 | hz4
  deriving DecidableEq, Repr

/-- R568: the LED of bay `b` follows BAY_CTL.LED, and in the automatic mode the bay's state. -/
def Dev.led (d : Dev) (b : Nat) : Led :=
  match d.get F.BAY_CTL.LED b with
  | 0 => .off | 1 => .on | 2 => .hz1 | 3 => .hz4
  | _ => match d.get F.BAY_STATUS.STATE b with
    | 5 | 6 => .on
    | 1 | 2 | 3 | 4 => .hz1
    | 7 | 8 | 9 => .hz4
    | _ => .off

end Sys2Proof.Machine
end

