-- ==== Sys2Proof/Machine/ModeOps.lean ====
section
/-!
DEFINITION. Mode changes (R34 to R46): what an entry to Bring-up flushes, resets and keeps (R10, R35, R38, R638), what the
loss of the fabric die leaves, the selection of a reference clock (R19), and the start of the boot (R429, R430).
-/

namespace Sys2Proof

/-- The mode codes of R34. -/
def Machine.Mode.code : Machine.Mode → Nat
  | .standby => 0 | .bringUp => 1 | .service => 2 | .degraded => 3 | .quiesce => 4 | .factory => 5

/-- The mode a code names; 0x6 and 0x7 are reserved. -/
def Machine.Mode.ofCode (c : Nat) : Option Machine.Mode :=
  [Machine.Mode.standby, .bringUp, .service, .degraded, .quiesce, .factory].find? fun m => m.code == c

end Sys2Proof

namespace Sys2Proof.Machine

/-! ### Mode changes -/

/-- Change the mode by a trigger of a rank (R45), 0 for none of the table's: the event record, the time and the rank are
kept (R495, R605). Reaching Service ends the run of L3 entries. -/
def Dev.setMode (d : Dev) (m : Mode) (rank : Nat) : Dev :=
  let d := d.event .modeChange (uDev 0x00) (BitVec.ofNat 32 (d.mode.code + m.code * 256 + rank * 65536))
  let d := { d with mode := m, pwr := { d.pwr with modeFtc := d.clk.ftc } }
  let d := d.put F.GLB_MODE.RANK 0 rank
  if m = .service then d.put F.GLB_RESET_CAUSE.L3_RUN 0 0 else d

/-- Some fence is in place: of a tile, or at L1 (R40, R638). -/
def Dev.anyFence (d : Dev) : Bool := !d.flt.fences.isEmpty || d.get F.FLT_FENCE_TILE.TILES != 0

/-- An L1 or L2 fence: Service becomes Degraded; Quiesce stays (R40, R46). -/
def Dev.degrade (d : Dev) : Dev := if d.mode = .service then d.setMode .degraded 4 else d

/-- The last fence is gone: Degraded becomes Service (R40, R504). -/
def Dev.undegrade (d : Dev) : Dev :=
  if d.mode = .degraded && !d.anyFence then d.setMode .service 0 else d

/-! ### Resets -/

/-- The register of a key. -/
def keyReg (k : Nat) : Nat := k / (65536 * 32) % 512

/-- Registers that stay whenever the directory array is kept (R323, R331). -/
def keyDir (k : Nat) : Bool :=
  [Reg.DIR_LOST, .DIR_DEAD_LO, .DIR_RECLAIM].any fun r => keyReg k == r.ctorIdx

/-- The management processor after its reset: flash, OTP and the responses issued stay; an open transfer and running
operations are lost, and a bank that a commit was writing is not valid (R447, R449, R461). -/
def MgtSt.restart (m : MgtSt) : MgtSt :=
  let other : Nat := match m.banks with
    | [some x, some y] => if x.gen.toNat ≥ y.gen.toNat then 1 else 0
    | [some _, none] => 1
    | _ => 0
  let banks := match m.commit with
    | some _ => m.banks.set other none
    | none => m.banks
  { MgtSt.reset with imgA := m.imgA, imgB := m.imgB, boot := m.boot, svnMin := m.svnMin, fuses := m.fuses, banks := banks,
                     rsp := m.rsp, certs := m.certs, ctlOut := m.ctlOut }

/-- What every reset of the fabric die clears. A bay event that waited at its port goes on to the collector. -/
def Dev.fabricClear (d : Dev) : Dev :=
  let evs := d.ports.flatMap fun x => x.2.events.filterMap fun e => match e.what with
    | .record code unit data hi => some (code, unit, data, hi)
    | _ => none
  let d := evs.foldl (fun d x =>
    d.event (if x.1 = 3 then .bayPresence else .bayAlert) x.2.1 x.2.2.1 x.2.2.2) d
  { d with sw := SwSt.reset, bld := BldSt.reset, ports := [], il := [], ins := InsSt.reset, brg := BrgSt.reset,
           mgt := d.mgt.restart, car := CarSt.reset, bus := { d.bus with hung := [] } }

/-- The collector stops: its queues wait in the cellar's log only as far as they were accepted; windows close and fences of
the fabric die end, bay fences stay (R494, R638). -/
def Dev.fltClear (d : Dev) : Dev :=
  { d with flt := { d.flt with
    running := false, wireEq := [], wireHigh := [], wireSig := [], wireRec := [], faultQ := [], reclQ := [], qFull := [], injCw := [],
    injWire := [], injLink := [], selfTestFail := 0, reinit := 0,
    fences := d.flt.fences.filter fun f => f.1 = .bay,
    log := d.flt.log.map fun x => (x.1, x.2.map fun r => { r with window := false }) } }

/-- The directory across an entry to Bring-up: the array, marks that wait for a way, the tags of the writeback slots and
the walks of dead hosts stay (R35, R325). -/
def CohSt.keepDir (c : CohSt) : CohSt :=
  let tags := c.slices.flatMap fun x => x.2.wbs.map (·.line) ++ x.2.thru.map (·.1)
  let slices := c.slices.filterMap fun x =>
    if x.2.marks = [] then none else some (x.1, { Slice.empty with marks := x.2.marks })
  { CohSt.reset with
    dir := c.dir, slices := slices, deadDown := c.deadDown, keepMarks := c.keepMarks, durable := c.durable,
    walks := c.walks.filter fun w => match w.why with
      | .dead _ => true
      | _ => false
    keepTags := (c.keepTags ++ tags).eraseDups }

/-- The warm reset of an entry to Bring-up (R10, R35, R39, R59); `keep` says whether the directory is kept. -/
def Dev.warmReset (d : Dev) (keep : Bool) : Dev :=
  let d := d.fabricClear.fltClear
  let d := { d with
    regs := d.regs.filter fun x => decide (keyDom x.1 ≤ 1) || (keep && keyDir x.1)
    cnt := [], shadow := []
    coh := if keep then d.coh.keepDir else CohSt.reset
    clk := { d.clk with slew := 0, slewAge := 0, timers := [] }
    pwr := { d.pwr with trans := none, wakeBoot := false, tested := false, mtfLogged := false, reconciled := !keep } }
  d.set F.PWR_TIME_STATUS.ESTIMATED

/-- The fabric die loses its power or its reset is asserted for Standby: only Butre, the cellar, the flash and the bay
counters stay (R10, R35, R493, R529). Records that the collector had not accepted stay pending. -/
def Dev.dieOff (d : Dev) : Dev :=
  let d := if d.powered then d.gpioHold else d
  let grants := (List.range 8).map fun t => d.get F.DIR_STAMP.COUNT t
  let late := d.flt.inq ++ d.flt.stalled ++ d.flt.arr
  let d := { d with flt := { d.flt with inq := [], stalled := [], arr := [], holdL3 := none } }
  let d := late.foldl Dev.pend (d.fabricClear.fltClear)
  { d with
    regs := d.regs.filter fun x => keyDom x.1 == 0
    cnt := d.cnt.filter fun x => decide (cBay 0 0 ≤ x.1) && decide (x.1 < cBay 32 0)
    shadow := []
    coh := { CohSt.reset with keepMarks := d.coh.keepMarks }
    clk := { d.clk with ftc := 0, res := 0, slew := 0, slewAge := 0, timers := [] }
    pwr := { d.pwr with trans := none, ctl := { grants := grants, seq := d.flt.seq } } }

/-! ### The flush of R38 -/

/-- Every request that no flush of a port reaches is answered as lost: what waits past stage 3, whole messages of the
pipeline, lane inputs, and parked requests. -/
def Dev.lostAll (d : Dev) : Dev :=
  let ops := d.coh.slices.flatMap fun x => (x.2.w ++ x.2.q ++ x.2.p ++ x.2.parked.map (·.2)).map fun o => (x.1, o.m)
  let (staged, d) := d.takeStaged fun _ => true
  let d := staged.foldl Dev.loseMsg d
  let (pipe, d) := d.takePipe fun _ => true
  let d := pipe.foldl (fun d x => d.loseMsg x.staged) d
  ops.foldl (fun d x => d.lostAnswer (uTile x.1 0x13) (d.targetPort (lineOf x.2.addr.toNat)) x.2) d

/-- R38: every enabled port is flushed with cause 0x5. -/
def Dev.flushAll (d : Dev) : Dev :=
  let d := d.lostAll
  ((List.range 64).filter d.enabled).foldl (fun d p => d.flushPort p 5) d

/-! ### The boot -/

/-- The strap balls when the fabric-die reset is released; XTAL_BYP stays as Butre latched it at VAUX power-on. -/
def Dev.strapsAre (d : Dev) (s : BitVec 7) : Dev :=
  { d with pwr := { d.pwr with straps := (s &&& ~~~ (0x20 : BitVec 7)) ||| (d.pwr.straps &&& (0x20 : BitVec 7)) } }

/-- Latch the straps on a release of the fabric-die reset (R604). -/
def Dev.latchStraps (d : Dev) : Dev :=
  let s := d.pwr.straps.toNat
  let d := (((d.put F.GLB_STRAP.SPI_4B 0 s).put F.GLB_STRAP.SPI_QUAD 0 (s / 2)).put F.GLB_STRAP.SPI_DIV 0 (s / 4)).put
    F.GLB_STRAP.BOOT_HOLD 0 (s / 16)
  d.put F.GLB_STRAP.PARAM_SKIP 0 (s / 64)

/-- R19: the core PLL locks to the lowest tile whose reference clock is present; with none, FK_MODE_TRANSITION_FAIL is
logged once in a Bring-up. -/
def Dev.selectRef (d : Dev) : Dev :=
  match (List.range 8).find? fun t => !d.pwr.refLost.getLsbD t with
  | some t => ((d.put F.GLB_CLK_STATUS.REF_TILE 0 t).set F.GLB_CLK_STATUS.CORE_LOCK).set F.GLB_CLK_STATUS.MGMT_LOCK
  | none =>
    let d := (d.put F.GLB_CLK_STATUS.CORE_LOCK 0 0).put F.GLB_CLK_STATUS.MGMT_LOCK 0 0
    if d.pwr.mtfLogged then d else ({ d with pwr := { d.pwr with mtfLogged := true } }).modeFail

/-- FK_FW_IMAGE for a slot with a cause (R463). -/
def Dev.fwImage (d : Dev) (slot cause : Nat) : Dev :=
  (d.set F.MGT_ERR.FW_IMAGE).raise .fwImage (uDev 0x03) 0 (slot + cause * 16)

/-- Steps 1 and 2 of R429 and R430: which slot the ROM starts from. -/
def Dev.bootSlot (d : Dev) : Dev :=
  let h := d.mgt.boot
  let s : Fin 2 := if h.copies then h.next.getD h.active else 0
  let d := { d with mgt := { d.mgt with from_ := s, fell := false } }
  if h.copies then d else d.fwImage 0 5

/-- The boot starts again at step 1 (R429); BOOT_HOLD keeps it in ROM recovery (R604). -/
def Dev.bootStart (d : Dev) : Dev :=
  let d := (d.latchStraps.selectRef).put F.MGT_FW_STATUS.STATE 0 0
  if d.bit F.GLB_STRAP.BOOT_HOLD then d.put F.MGT_FW_STATUS.STATE 0 4 else d.bootSlot

/-! ### Entry to Bring-up -/

/-- Every interlink in ACTIVE tells its partner that this end changes its mode (R146). -/
def Dev.goodbyes (d : Dev) : Dev := (List.range 64).foldl (fun d p => d.ilGoodbye p 3) d

/-- Butre carries out a Standby entry, and the fabric die has not been reset for it yet (R41, R527). -/
def Dev.entering (d : Dev) : Bool :=
  d.get F.PWR_STATUS.STATE == 1 && (d.pwr.seqr == .entry || d.pwr.seqr == .saving)

/-- A trigger of rank 3 ends a Standby entry (R45). DEDUCED, unsafe: log entry 33. -/
def Dev.endEntry (d : Dev) : Dev :=
  if d.entering then
    { (d.put F.PWR_STATUS.STATE 0 3).put F.PWR_CTL.MODE_REQ 0 0 with pwr := { d.pwr with seqr := .idle } }
  else d

/-- Neither reset pin is held. -/
def Dev.pinsUp (d : Dev) : Bool := !d.pwr.sysRst && !d.pwr.perst

/-- A new entry to Bring-up (R40) by cause (R606): R38 but for the end of Factory Test, the warm reset, the cause and the
run of L3 entries with its third entry's hold (R508), then the boot unless a reset pin is held. Nothing happens with the die off;
a Standby entry goes on past an L3 fault (R46), and the other triggers pre-empt it until the die is reset (R45). -/
def Dev.enterBringUp (d : Dev) (cause : Nat) (l3 : Option (BitVec 40) := none) : Dev :=
  if d.get F.PWR_STATUS.STATE ≠ 3 && !(d.entering && cause ≠ 6) then d
  else
    let d := d.endEntry.goodbyes
    let rank := if cause = 8 then 6 else 3
    let keep := decide (d.mode ≠ .factory)
    let run := d.get F.GLB_RESET_CAUSE.L3_RUN
    let d := if cause = 9 then d else d.flushAll
    let d := ((d.setMode .bringUp rank).warmReset keep).put F.GLB_MODE.RANK 0 rank
    let d := (d.put F.GLB_RESET_CAUSE.CAUSE 0 cause).put F.MGT_ERR.WATCHDOG 0 (if cause = 7 then 1 else 0)
    let d := match l3 with
      | some q =>
        let d := d.put F.GLB_RESET_CAUSE.L3_RUN 0 (min (run + 1) 3)
        if 2 ≤ run then
          ({ d with flt := { d.flt with holdL3 := some (d.flt.holdL3.getD q) } }).modeFail
        else d
      | none => d
    if d.pinsUp then d.bootStart else d

/-- The rails drop without a keep set (R40, R531): the loss is recorded, and the C64 is in Standby once they are off.
`restart` lets a wake follow after tRETRY. -/
def Dev.railsDrop (d : Dev) (restart : Bool) : Dev :=
  let on := decide (d.get F.PWR_STATUS.STATE = 3)
  let d := d.put F.PWR_WAKE_SOURCE.SOURCES 0 (d.get F.PWR_WAKE_SOURCE.SOURCES ||| 0x80)
  let d := ((d.dieOff).put F.PWR_STATUS.STATE 0 1).setMode .standby 2
  { d with pwr := { d.pwr with
    lost := true, restart := restart, keep := none, keepBad := !on, pair := if on then none else d.pwr.pair,
    seqr := .down false } }

end Sys2Proof.Machine
end

