-- ==== Sys2Proof/Machine/FaultOps.lean ====
section
/-!
DEFINITION. The fault collector (R489 to R510): records and their bytes, acceptance, escalation, the log, the streams, and
the actions of the levels.
-/

namespace Sys2Proof

/-- The domain type codes of R499. -/
def DomType.code : DomType → Nat
  | .device => 0 | .port => 1 | .tile => 2 | .cell => 3 | .sliceWays => 4 | .instance_ => 5 | .fold => 6 | .bay => 7

/-- The levels that a domain allows (R499). -/
def DomType.levels : DomType → List Nat
  | .device => [0, 3] | .tile => [0, 2, 3] | .port | .cell | .sliceWays => [0, 1, 2, 3]
  | .instance_ | .fold | .bay => [0, 1]

/-- The highest level that a domain allows: escalation stops there (R503). -/
def DomType.top : DomType → Nat
  | .instance_ | .fold | .bay => 1
  | _ => 3

end Sys2Proof

namespace Sys2Proof.Machine

/-! ### Records -/

/-- A kind that is fixed. -/
def What.fixed : What → Bool
  | .fault k => k.fixed
  | .event _ => true

def What.cls : What → FClass
  | .fault k => k.cls
  | .event _ => .event

def What.code : What → Nat
  | .fault k => k.code
  | .event e => e.code

def What.isEvent : What → Bool
  | .event _ => true
  | .fault _ => false

/-- The 32 bytes of a record (R489). -/
def Rec.bytes (r : Rec) : List (BitVec 8) :=
  let flag (b : Bool) (n : Nat) : Nat := if b then n else 0
  let b8 := r.level + r.reported * 4 + flag r.escalated 16 + flag r.compat 32 + flag r.c.dual 64 + flag r.c.injected 128
  let b9 := r.mode + flag r.c.what.isEvent 8 + r.c.dom.code * 16
  Machine.bytes 5 r.seq.toNat ++ Machine.bytes 1 r.c.what.code ++ Machine.bytes 2 (r.c.unit + r.c.what.cls.code * 2 ^ 12) ++
    Machine.bytes 1 b8 ++ Machine.bytes 1 b9 ++ Machine.bytes 2 r.c.idx ++ Machine.bytes 4 r.c.data.toNat ++
    Machine.bytes 8 r.c.addr.toNat ++ Machine.bytes 8 r.ftc.toNat

/-- The domain in which a record's escalation counts (R499). -/
def Coded.escDom (c : Coded) : DomType × Nat :=
  match c.dom with
  | .cell => (.tile, c.unit / 256)
  | .sliceWays => (.tile, c.idx)
  | x => (x, c.idx)

/-- The tile of a record's domain, for an L2 action (R500). -/
def Coded.tile (c : Coded) : Option Nat :=
  match c.dom with
  | .port => some (c.idx / 8)
  | .tile | .sliceWays => some c.idx
  | .cell => some (c.unit / 256)
  | .fold => some (c.idx / 64)
  | .device | .instance_ | .bay => none

/-- The records of the log. -/
def Dev.logged (d : Dev) : List Rec := d.flt.log.filterMap (·.2)

/-- An unacknowledged record at L1 or above. -/
def Rec.open_ (r : Rec) : Bool := !r.acked && decide (1 ≤ r.level)

def Dev.openRecs (d : Dev) : List Rec := d.logged.filter Rec.open_

/-- The level of FAULT# (R506): low while a record at L1 or above is unacknowledged, released in Standby. -/
def Dev.faultPin (d : Dev) : Bool := d.openRecs.isEmpty || d.mode = .standby

/-- Replace a record of the log. -/
def Dev.mapRec (d : Dev) (seq : BitVec 40) (f : Rec → Rec) : Dev :=
  { d with flt := { d.flt with log := d.flt.log.map fun x => (x.1, x.2.map fun r => if r.seq = seq then f r else r) } }

/-- FLT_STATUS (R516). -/
def Dev.fltStatus (d : Dev) : Nat :=
  let o := d.openRecs
  o.length + (o.foldl (fun a r => max a r.level) 0) * 2 ^ 9 + d.get F.FLT_STATUS.PEND_OVF * 2 ^ 11 + d.logged.length * 2 ^ 12 +
    ((d.logged.filter (·.window)).length) * 2 ^ 24

/-! ### The wire checker (R496, R497) -/

/-- The pair of a unit. -/
def pairOf (unit : Nat) : Option Nat :=
  let t := unit / 256
  let u := unit % 256
  if t < 8 then
    (if u < 8 then some (16 * t + u) else if 0x10 ≤ u && u < 0x18 then some (16 * t + 8 + (u - 0x10)) else none)
  else if t = 15 && u < 7 then some (128 + u) else none

/-- The checker runs in Bring-up and in Factory Test, while Butre sees the fabric die. -/
def Dev.checkOn (d : Dev) : Bool := (d.mode = .bringUp || d.mode = .factory) && d.die

/-- FK_WIRE for a pair with a cause: at L2 for a tile's unit, at L3 for a device unit. -/
def Dev.wireFault (d : Dev) (pair cause : Nat) (injected : Bool := false) : Dev :=
  d.offer { unit := uDev 0x11, what := .fault .wire, level := some (if pair < 128 then 2 else 3),
            dom := if pair < 128 then .tile else .device, idx := if pair < 128 then pair / 16 else 0,
            addr := BitVec.ofNat 64 (pair + cause * 256), injected := injected }

/-- A record accepted while the checker runs: it agrees with a pair that has signalled, or waits for it. -/
def Dev.wireSeen (d : Dev) (unit : Nat) : Dev × Bool :=
  match pairOf unit with
  | none => (d, false)
  | some p =>
    if !d.checkOn then (d, false)
    else if d.flt.wireSig.contains p then ({ d with flt := { d.flt with wireSig := d.flt.wireSig.erase p } }, true)
    else if d.flt.wireRec.contains p then (d, false)
    else ({ d with flt := { d.flt with wireRec := d.flt.wireRec ++ [p] } }, false)

/-! ### Fences and actions (R500 to R502) -/

/-- Note an L1 fence. -/
def Dev.addFence (d : Dev) (t : DomType) (i : Nat) : Dev :=
  if d.flt.fences.contains (t, i) then d else { d with flt := { d.flt with fences := d.flt.fences ++ [(t, i)] } }

def Dev.dropFence (d : Dev) (t : DomType) (i : Nat) : Dev :=
  { d with flt := { d.flt with fences := d.flt.fences.erase (t, i) } }

/-- Port `p` goes down with reason 0x8 and stays down. -/
def Dev.portOut (d : Dev) (p : Nat) : Dev :=
  let d := if (d.prt p).up then (d.ilGoodbye p 2).linkDown p 8 else d.endLayover p
  if d.isIl p then d.ilEnter p 7 else d

/-- The L1 actions. -/
def Dev.fenceL1 (d : Dev) (t : DomType) (i : Nat) : Dev :=
  let d := d.addFence t i
  let d := match t with
    | .port => d.portOut i
    | .instance_ => if d.get F.INS.STATE i = 1 then d.freeze i else d
    | .fold => if d.get F.FOLD.STATE i = 1 || d.get F.FOLD.STATE i = 2 then d.foldAbandon i 4 else d
    | .bay => d.bayFence i
    | .cell | .sliceWays | .tile | .device => d
  d.degrade

/-- What the fenced tile held (R501): the messages of its ports past stage 3 and in the pipeline, those held in its buffer,
contributions at its engine, and the requests of its slice are answered as lost, and its directory is discarded. -/
def Dev.tileLost (d : Dev) (t : Nat) : Dev :=
  let here (p : Option (Fin 64)) : Bool := (p.map fun p => p.val / 8 == t).getD false
  let fold (x : Dest) : Bool := match x with | .fold f => f.val / 64 == t | _ => false
  let (pipe, d) := d.takePipe fun x => x.port.val / 8 == t
  let d := pipe.foldl (fun d x => d.loseMsg x.staged) d
  let (staged, d) := d.takeStaged fun s => here s.ing || fold s.dest || (s.celled && s.dest.tile s.ing == t)
  let d := (staged.foldl Dev.loseMsg d).foldFence t
  let s := d.slice t
  let reqs := s.w ++ s.q ++ s.p ++ s.parked.map (·.2) ++
    (s.trks.filter fun k => k.job = .demand && !k.done).map (·.op)
  let wbs := s.wbs.filter fun b => !b.poison
  let d := d.setSlice t Slice.empty
  let d := { d with coh := { d.coh with dir := d.coh.dir.filter fun x => x.1 / 16 / 2 ^ 18 != t } }
  let d := reqs.foldl (fun d o => d.lostAnswer (uTile t 0x13) (d.targetPort (lineOf o.m.addr.toNat)) o.m) d
  wbs.foldl (fun d b => d.flushRec (uTile t 0x13) (d.targetPort b.line) (addrOf b.line) (d.edgeOf b.host)) d

/-- R501: fence tile `t`. -/
def Dev.tileFence (d : Dev) (t : Nat) : Dev :=
  if d.tileFenced t then d
  else
    let d := (List.range 8).foldl (fun d k =>
      let p := t * 8 + k
      let d := if d.enabled p then d.portOut p else d
      if d.isHost p then d.declareDead p 2 else d) d
    let d := d.tileLost t
    (d.put F.FLT_FENCE_TILE.TILES 0 (d.get F.FLT_FENCE_TILE.TILES ||| 2 ^ t)).degrade

/-- Fencing tile `t` would leave no tile unfenced, and R641 does not except the record. -/
def Dev.lastTile (d : Dev) (w : What) (t : Nat) : Bool :=
  (d.get F.FLT_FENCE_TILE.TILES ||| 2 ^ t) == 255 && !d.tileFenced t &&
    !(d.mode = .bringUp && (w == .fault .tileSelftest || w == .fault .wire))

/-- A host named dead by the policy of the record's kind (R507). -/
def Dev.deadByPolicy (d : Dev) (r : Rec) : Dev :=
  if r.dead && r.c.dom = .port && d.isHost r.c.idx then d.killHost r.c.idx 1 else d

/-- The action of a record's level starts (R500). -/
def Dev.action (d : Dev) (r : Rec) : Dev :=
  let d := d.deadByPolicy r
  let l3 (d : Dev) : Dev :=
    if r.c.what = .fault .fwWatchdog then d.enterBringUp 7 else d.enterBringUp 6 (some r.seq)
  match r.level with
  | 0 => d
  | 1 => (d.count (cDev 10)).fenceL1 r.c.dom r.c.idx
  | 2 =>
    let d := d.count (cDev 10)
    (match r.c.tile with
      | some t => if d.lastTile r.c.what t then l3 d else d.tileFence t
      | none => d)
  | _ => l3 (d.count (cDev 10))

/-! ### Acknowledgement and release (R503 to R505) -/

/-- Acknowledge one record; with `apply` its action starts. -/
def Dev.ackRec (d : Dev) (r : Rec) (apply : Bool) : Dev :=
  let d := d.mapRec r.seq fun x => { x with acked := true, window := false }
  let d := if r.window then d.count (cDev 8) else d
  let d := if r.window && apply then d.action { r with acked := true, window := false } else d
  let d := if d.flt.holdL3 = some r.seq then { d with flt := { d.flt with holdL3 := none } } else d
  match r.c.dom with
  | .cell | .sliceWays | .fold =>
    if d.flt.fences.contains (r.c.dom, r.c.idx) && !d.openRecs.any (fun x => x.c.dom == r.c.dom && x.c.idx == r.c.idx) then
      (d.dropFence r.c.dom r.c.idx).undegrade
    else d
  | _ => d

/-- R503: a record that finds 256 unacknowledged is acknowledged as it is accepted, so R504 holds of it at once. -/
def Dev.ackOvf (d : Dev) (r : Rec) (ovf : Bool) : Dev := if ovf then d.ackRec r false else d

/-! ### Acceptance (R489, R492 to R495, R503, R509, R510) -/

/-- The level before escalation (R499): the higher of the named level and the policy's. -/
def Dev.reported (d : Dev) (c : Coded) : Nat :=
  match c.what with
  | .event _ => 0
  | .fault k => max (c.level.getD 0) (d.policyLevel k)

/-- An unacknowledged record of the same class is held for the same escalation domain (R503). -/
def Dev.second (d : Dev) (c : Coded) : Bool :=
  d.openRecs.any fun r => r.c.what.cls == c.what.cls && r.c.escDom == c.escDom

/-- The level applied: escalated by one, or L3 in place of the fence of the last tile (R501, R503).
DEDUCED, unsafe: log entry 30. -/
def Dev.applied (d : Dev) (c : Coded) : Nat × Bool :=
  let l := d.reported c
  let up := decide (1 ≤ l) && !c.what.fixed && d.second c && decide (l < c.dom.top)
  let l := if up then l + 1 else l
  let last := l == 2 && (match c.tile with
    | some t => d.lastTile c.what t
    | none => false)
  (if last then 3 else l, up)

/-- Where the log puts the next record: the next empty slot, then the oldest record that is not an unacknowledged one at
L1 or above (R494). -/
def Dev.logSlot (d : Dev) : Nat :=
  if d.flt.log.length < 2048 then d.flt.log.length
  else
    let old := d.flt.log.filterMap fun x => match x.2 with
      | some r => if r.open_ then none else some (x.1, r.seq)
      | none => none
    match old with
    | [] => 0
    | x :: l => (l.foldl (fun a y => if y.2 < a.2 then y else a) x).1

/-- Stream 0x02 takes a record, unless its policy or CAR_CFG keeps it off; a full queue loses it on Caravan (R477, R494). -/
def Dev.stream (d : Dev) (r : Rec) : Dev :=
  let no := match r.c.what with
    | .fault k => d.bit F.FLT_POLICY.NO_STREAM k.code
    | .event _ => false
  if no || !(d.get F.CAR_CFG.STREAM_EN).testBit 1 then d
  else if d.flt.faultQ.length < 2048 then { d with flt := { d.flt with faultQ := d.flt.faultQ ++ [r] } }
  else
    let d := (d.count (cDev 19)).set F.CAR_ERR.OUT_LOST
    if d.flt.qFull.contains 2 then d
    else (({ d with flt := { d.flt with qFull := 2 :: d.flt.qFull } }).set F.CAR_ERR.OVERRUN).raise .carOverrun (uDev 0x05) 0 0x202

/-- What the acceptance of a record shows in the FLT registers and counters. -/
def Dev.noteRec (d : Dev) (r : Rec) : Dev :=
  match r.c.what with
  | .event _ => d.count (cDev 4)
  | .fault k =>
    let d := d.count (cDev r.level)
    let d := if r.escalated then d.count (cDev 5) else d
    match k with
    | .wire =>
      ((d.set F.FLT_ERR.WIRE).put F.FLT_WIRE.PAIR 0 r.c.addr.toNat).put F.FLT_WIRE.CAUSE 0 (r.c.addr.toNat / 256)
    | .faultLost => d.set F.FLT_ERR.LOST
    | _ => d

/-- The collector accepts a record: it completes it, logs it, sends it on, and starts its action or opens its window.
DEDUCED, unsafe: log entry 30. -/
def Dev.acceptRec (d : Dev) (c : Coded) : Dev :=
  let (lv, esc) := d.applied c
  let ovf := decide (1 ≤ lv) && decide (256 ≤ d.openRecs.length)
  let win := d.bit F.FLT_CTL.REACTION && decide (1 ≤ lv) && !c.what.fixed && !ovf &&
    decide ((d.logged.filter (·.window)).length < 32)
  let (d, dual) := d.wireSeen c.unit
  let dead := match c.what with
    | .fault k => d.bit F.FLT_POLICY.DEAD_HOST k.code
    | .event _ => false
  let r : Rec := { seq := d.flt.seq, c := { c with dual := dual }, level := lv, reported := d.reported c, escalated := esc,
                   compat := win, mode := d.mode.code, ftc := d.clk.ftc, acked := lv == 0 || ovf, window := win, dead := dead }
  let d := { d with flt := { d.flt with seq := d.flt.seq + 1, log := d.flt.log.put none d.logSlot (some r) } }
  let d := ((if ovf then d.set F.FLT_STATUS.PEND_OVF else d).noteRec r).stream r
  let d := match c.recl with
    | some x => d.report x r.seq
    | none => d
  if lv = 0 then d.deadByPolicy r else if win then d else (d.action r).ackOvf r ovf

/-- Room in the input queue: a waiting record moves in, then an owed FK_FAULT_LOST (R492). -/
def Dev.refillQ (d : Dev) : Dev :=
  match d.flt.stalled with
  | c :: l => { d with flt := { d.flt with stalled := l, inq := d.flt.inq ++ [c] } }
  | [] =>
    if 0 < d.flt.lostSince then
      let c : Coded := { unit := uDev 0x04, what := .fault .faultLost, dom := .device, idx := 0,
                         addr := BitVec.ofNat 64 d.flt.lostSince }
      { d with flt := { d.flt with lostSince := 0, inq := d.flt.inq ++ [c] } }
    else d

/-- One acceptance. -/
def Dev.acceptNext (d : Dev) : Dev :=
  if !d.flt.running || !d.die then d
  else match d.flt.inq with
    | [] => d.refillQ
    | c :: l => (({ d with flt := { d.flt with inq := l } }).refillQ).acceptRec c

/-- Up to `n` acceptances. -/
def Dev.acceptN : Nat → Dev → Dev
  | 0, d => d
  | n + 1, d => if d.flt.inq.isEmpty then d else Dev.acceptN n d.acceptNext

/-- R493: the collector starts, with Butre's pending records first. -/
def Dev.collectorStart (d : Dev) : Dev :=
  let lost : List Coded := if 0 < d.flt.butreLost then
      [{ unit := uDev 0x04, what := .fault .faultLost, dom := .device, idx := 0, addr := BitVec.ofNat 64 d.flt.butreLost }]
    else []
  let d := d.addSat F.FLT_LOST.LOST 0 d.flt.butreLost
  { d with flt := { d.flt with running := true, inq := d.flt.butre ++ lost ++ d.flt.inq, butre := [], butreLost := 0 } }

/-- A record at L1 or above is unacknowledged for a domain. -/
def Dev.heldFor (d : Dev) (t : DomType) (i : Nat) : Bool := d.openRecs.any fun r => r.c.dom == t && r.c.idx == i

/-- Release an L1 fence. -/
def Dev.releaseFence (d : Dev) (t : DomType) (i : Nat) : Dev :=
  let d := d.dropFence t i
  let d := match t with
    | .port => if d.isIl i && !d.bit F.PRT_CTL.LINK_DISABLE i && !d.tileFenced (i / 8) then d.ilEnter i 0 else d
    | .instance_ => if d.get F.INS.STATE i = 4 then (d.dropSave i).put F.INS.STATE i 1 else d
    | .bay => if d.baySt i = 9 then (d.setBaySt i 0).put F.BAY_CTL.ON_REQ i 0 else d
    | _ => d
  d.undegrade

end Sys2Proof.Machine
end

