-- ==== Sys2Proof/Machine/Power.lean ====
section
/-!
DEFINITION. The commands of Butre's rail sequencer, wake logic and cellar, of the supply and temperature watch and of the
tile power states (chapter 15).
-/

namespace Sys2Proof.Machine

/-! ### Rails going down (R523) -/

/-- The rails are off (R525, R527, R531): a failed attempt waits for its retry, and else the C64 is in Standby, where a
latched source starts a wake at once (R42). -/
def Dev.railsAreOff (d : Dev) : Dev :=
  match d.pwr.seqr with
  | .down true =>
    { d with pwr := { d.pwr with seqr := if d.get F.PWR_STATUS.STATE = 4 then .idle else .retry } }
  | .down false =>
    let d := { d.put F.PWR_STATUS.STATE 0 0 with pwr := { d.pwr with seqr := .idle } }
    (if d.mode = .standby then d else d.setMode .standby 6).wakeIfGood
  | _ => d

/-- Disable the highest channel that is up. -/
def Dev.disableStep (d : Dev) : Dev :=
  let d := match d.topCh with
    | some c => d.put F.PWR_STATUS.EN 0 (d.get F.PWR_STATUS.EN - 2 ^ c)
    | none => d
  if d.get F.PWR_STATUS.EN = 0 then d.railsAreOff else d

/-- RAIL_DISABLE_STEP (R523). -/
def execRailDisableStep (s : State) : Host.Outcome State Fault Refusal :=
  s.upd (match s.dev.pwr.seqr with
    | .down _ => s.dev.disableStep
    | _ => s.dev)

/-- What the restore put into the fabric die is lost with it. -/
def Dev.clearDie (d : Dev) : Dev :=
  { d with regs := d.regs.filter fun x => keyDom x.1 == 0, coh := CohSt.reset }

/-- The running attempt fails on a channel, and its channels go down from that edge on. -/
def Dev.failDown (d : Dev) (ch : Nat) : Dev := ((d.clearDie).attemptFail ch).disableStep

/-! ### Rails coming up (R523 to R526) -/

/-- Raise VR_EN of channel `c`; a regulator that already reports power-good has arrived. -/
def Dev.enable (d : Dev) (c : Nat) : Dev :=
  let d := d.put F.PWR_STATUS.EN 0 (d.get F.PWR_STATUS.EN ||| 2 ^ c)
  { d with pwr := { d.pwr with seqr := .up c ((d.get F.PWR_STATUS.PG).testBit c) } }

/-- VR_PG_RISE (R523). -/
def execVrPgRise (ch : Fin 6) (s : State) : Host.Outcome State Fault Refusal :=
  s.upd (let d := s.dev.put F.PWR_STATUS.PG 0 (s.dev.get F.PWR_STATUS.PG ||| 2 ^ ch.val)
    if d.pwr.seqr = .up ch.val false then { d with pwr := { d.pwr with seqr := .up ch.val true } } else d)

/-- `straps`: the strap balls as they stand when the fabric-die reset is released (R604).
DEDUCED, unsafe: log entry 34. -/
def execRailEnableStep (straps : BitVec 7) (s : State) : Host.Outcome State Fault Refusal :=
  s.upd (match s.dev.pwr.seqr with
    | .up c true =>
      (match s.dev.nextCh c with
        | some k => s.dev.enable k
        | none => { s.dev.strapsAre straps with pwr := { (s.dev.strapsAre straps).pwr with seqr := .pll } })
    | _ => s.dev)

/-- WAKE_VR_TIMEOUT (R525). -/
def execWakeVrTimeout (s : State) : Host.Outcome State Fault Refusal :=
  s.upd (match s.dev.pwr.seqr with
    | .up c false => s.dev.failDown c
    | _ => s.dev)

/-- CORE_PLL_LOCK (R524). -/
def execCorePllLock (s : State) : Host.Outcome State Fault Refusal :=
  s.upd (if s.dev.pwr.seqr = .pll then { s.dev with pwr := { s.dev.pwr with seqr := .restore } } else s.dev)

/-- WAKE_PLL_TIMEOUT (R525). -/
def execWakePllTimeout (s : State) : Host.Outcome State Fault Refusal :=
  s.upd (if s.dev.pwr.seqr = .pll then s.dev.failDown 7 else s.dev)

/-- WAKE_RETRY (R525). -/
def execWakeRetry (s : State) : Host.Outcome State Fault Refusal :=
  s.upd (if s.dev.pwr.seqr = .retry then s.dev.enable 0 else s.dev)

/-! ### The keep set at a wake (R524, R529, R530) -/

/-- Both control records failed: grant counts start again, and the log gives the next device sequence. -/
def Dev.recoverCtl (d : Dev) : Dev :=
  let seqs := d.flt.log.filterMap fun x => x.2.map fun r => r.seq.toNat
  let next : Nat := match seqs with
    | [] => 0
    | q :: l => l.foldl max q + 1
  { d with pwr := { d.pwr with pair := none, ctl := { PwrSt.reset.ctl with seq := BitVec.ofNat 40 next } } }

/-- Take the grant counts and the next device sequence from the control record. -/
def Dev.loadCtl (d : Dev) : Dev :=
  let d := (List.range 8).foldl (fun d t => d.put F.DIR_STAMP.COUNT t (d.pwr.ctl.grants.getD t 0)) d
  { d with flt := { d.flt with seq := d.pwr.ctl.seq } }

/-- Copy the image into the registers; its marks go to their home slices. -/
def Dev.restoreKeep (d : Dev) (img : KeepImg) : Dev :=
  let d := { d with
    regs := img.regs.foldl (fun t x => t.insert x.1 x.2) d.regs
    sw := { d.sw with rates := img.rates } }
  img.marks.foldl (fun d l => d.mark l false) d

/-- `imgBad`: the image in the cellar fails its tag, length or CRC-32 check; `ctlBad`: both copies of the control record
fail theirs. A cold reset leaves neither in the cellar, and a rail loss no image: then nothing is checked. -/
def Dev.restoreDone (d : Dev) (imgBad ctlBad : Bool) : Dev :=
  let cold := (d.get F.PWR_WAKE_SOURCE.SOURCES).testBit 6
  let ctlBad := ctlBad && !cold
  let bad := !cold && (d.pwr.keepBad || (imgBad && d.pwr.keep.isSome))
  let d := (if ctlBad then d.recoverCtl else d).loadCtl
  let img := if bad || cold then none else d.pwr.keep
  let d := d.put F.PWR_KEEP.VALID 0 (if img.isSome then 1 else 0)
  let d := match img with
    | some k => d.restoreKeep k
    | none => d
  -- a restored image may hold grant counts: the control record's stand
  let d := d.loadCtl
  let d := if bad || ctlBad then
      (d.set F.PWR_WAKE_RESULT.KEEP_BAD).pendFault .keepSet (uDev 0x10) 0 ((if bad then 1 else 0) + (if ctlBad then 2 else 0))
    else d
  { d with pwr := { d.pwr with wakeBoot := img.isSome, seqr := .finish } }

/-- KEEP_SET_RESTORE_DONE (R524). DEDUCED, unsafe: log entry 33. -/
def execKeepSetRestoreDone (imgBad ctlBad : Bool) (s : State) : Host.Outcome State Fault Refusal :=
  s.upd (if s.dev.pwr.seqr = .restore then s.dev.restoreDone imgBad ctlBad else s.dev)

/-! ### The end of a wake (R524 step 5) -/

/-- R62: the estimate of the FTC, rounded half up. -/
def estFtc (ftcIn : BitVec 64) (aocIn aocNow : BitVec 48) : BitVec 64 :=
  ftcIn + BitVec.ofNat 64 (((aocNow - aocIn).toNat * 1000000000 + 16384) / 32768)

/-- Load the FTC, with its flags (R62, R65, R66). Without an entry pair, the count at entry that WAKE_RECORD shows is a value the spec
does not state. -/
def Dev.loadFtc (d : Dev) : Dev :=
  let aoc := d.clk.aoc
  let ftc : BitVec 64 := match d.pwr.pair with
    | some (f, a) => estFtc f a aoc
    | none => 0
  let (k, d1) := d.fresh
  let (entry, d) : BitVec 48 × Dev := match d.pwr.pair with
    | some (_, a) => (a, d)
    | none => ((Config.free k).setWidth 48, d1)
  let low := d.pwr.pair.isSome && d.pwr.rcSince
  let d := { d with
    clk := { d.clk with ftc := ftc, res := 0, slew := 0, slewAge := 0 }
    pwr := { d.pwr with wakeRec := (entry, aoc, ftc) } }
  let d := (d.set F.PWR_TIME_STATUS.ESTIMATED).put F.PWR_TIME_STATUS.LOST 0 (if d.pwr.pair.isSome then 0 else 1)
  let d := d.put F.PWR_TIME_STATUS.LOW_ACCURACY 0 (if low then 1 else 0)
  if low then d.pendFault .aocSource (uDev 0x12) 0 (Config.faultAddr Kind.aocSource.code 0).toNat else d

/-- Step 5: the FTC, the status, the record of the wake, and Bring-up from there (R40, R606). -/
def Dev.wakeFinish (d : Dev) : Dev :=
  let d := d.loadFtc
  let d := (d.put F.PWR_CTL.MODE_REQ 0 0).put F.PWR_STATUS.STATE 0 3
  let n := d.pwr.fails
  let d := (d.put F.PWR_WAKE_RESULT.RESULT 0 (if n = 0 then 1 else 2)).put F.PWR_WAKE_RESULT.RETRIES 0 n
  let d := if n = 0 then d else
    d.pendFault .wakeFail (uDev 0x10) 0 (d.get F.PWR_WAKE_RESULT.FAIL_CH + n * 16)
  let d := d.event .wake (uDev 0x12) (BitVec.ofNat 32 (d.word .PWR_WAKE_SOURCE))
  let d := d.setMode .bringUp 5
  let cause := if (d.get F.PWR_WAKE_SOURCE.SOURCES).testBit 6 then 1 else if d.pwr.lost then 3 else 2
  let d := d.put F.GLB_RESET_CAUSE.CAUSE 0 cause
  let d := { d with
    cnt := [], shadow := [], coh := { d.coh with keepMarks := [] }
    pwr := { d.pwr with lost := false, fails := 0, seqr := .idle, trans := none, tested := false, mtfLogged := false,
                        reconciled := true } }
  if d.pinsUp then d.bootStart else d

/-- WAKE_FINISH (R524). DEDUCED, unsafe: log entry 33. -/
def execWakeFinish (s : State) : Host.Outcome State Fault Refusal :=
  s.upd (if s.dev.pwr.seqr = .finish then s.dev.wakeFinish else s.dev)

/-! ### Standby entry (R527) -/

/-- ENTRY_PAIR_SAMPLE (R61). -/
def execEntryPairSample (s : State) : Host.Outcome State Fault Refusal :=
  s.upd (let d := s.dev
    if d.powered && decide (d.get F.PWR_STATUS.STATE = 1) && d.pwr.pair.isNone then
      { d with pwr := { d.pwr with pair := some (d.clk.ftc, d.clk.aoc), rcSince := d.bit F.PWR_TIME_STATUS.RC_NOW } }
    else d)

/-- MP_WFI (R527). -/
def execMpWfi (s : State) : Host.Outcome State Fault Refusal :=
  s.upd (if s.dev.pwr.seqr = .entry then { s.dev with pwr := { s.dev.pwr with seqr := .saving } } else s.dev)

/-- STANDBY_ENTRY_TIMEOUT (R527). -/
def execStandbyEntryTimeout (s : State) : Host.Outcome State Fault Refusal :=
  s.upd (let d := s.dev
    if d.pwr.seqr = .entry then
      let d := (d.set F.PWR_WAKE_RESULT.NO_WFI).pendFault .modeTransitionFail (uDev 0x00) 0 modeFailAddr
      { d with pwr := { d.pwr with seqr := .saving } }
    else d)

/-- The keep set as it stands: its register fields, the state of the valid instances (R373), byte rates and marks. -/
def Dev.keepImg (d : Dev) : KeepImg :=
  { regs := d.regs.filter fun x => keyKeep x.1 || (x.1 / 65536 == F.INS.STATE.key 0 / 65536 && d.bit F.INS.VALID (keyIdx x.1))
    rates := d.sw.rates, marks := d.coh.keepMarks }

/-- The packed size of an image. -/
def KeepImg.size (k : KeepImg) : Nat := Config.keepSize k.regs k.rates k.marks

/-- Step 3 of R527: the image is complete, and the fabric-die reset is asserted. -/
def execKeepSetSaveDone (s : State) : Host.Outcome State Fault Refusal :=
  s.upd (let d := s.dev
    if d.pwr.seqr = .saving then
      let img := d.keepImg
      let d := (d.put F.PWR_KEEP.SIZE 0 img.size).dieOff
      ({ d with pwr := { d.pwr with keep := some img, keepBad := false, seqr := .down false } }).disableStep
    else d)

/-! ### Wake sources and supplies (R533, R531, R538) -/

/-- The sources of one ACLK edge that are enabled, joined; a timer that fires is disabled. -/
def Dev.wakeEv (d : Dev) : WakeEv → Option WakeSrc
  | .perst => some { sources := 1, bay := 0, timer := 0 }
  | .bmc => if d.bit F.PWR_WAKE_EN.BMC then some { sources := 2, bay := 0, timer := 0 } else none
  | .bayPrsnt b => bayEv F.PWR_WAKE_EN.BAY_PRSNT b.val
  | .bayAlert b => bayEv F.PWR_WAKE_EN.BAY_ALERT b.val
  | .bayFault b => bayEv F.PWR_WAKE_EN.BAY_FAULT b.val
  | .timer n =>
    if d.bit F.PWR_WAKE_EN.TIMER && d.get F.GLB_CLAIM_TIMERB.FUNC n.val == 0x200 then
      some { sources := 8, bay := 0, timer := n.val }
    else none
  | .wakePin => if d.bit F.PWR_WAKE_EN.WAKE_PIN then some { sources := 0x10, bay := 0, timer := 0 } else none
  | .gpio n =>
    if d.bit F.PWR_WAKE_EN.GPIO && d.gpioSensed n.val then
      some { sources := 0x20, bay := 0, timer := 0 }
    else none
where
  bayEv (en : Fld) (b : Nat) : Option WakeSrc :=
    if d.bit en && (d.get F.PWR_WAKE_BAY_EN.BAYS).testBit b then some { sources := 4, bay := b, timer := 0 } else none

/-- What a source does besides waking. -/
def Dev.wakeSide (d : Dev) : WakeEv → Dev
  | .perst => { d with pwr := { d.pwr with perst := false } }
  | .timer n => (d.put F.PWR_TIMER.COUNT n.val 0).put F.PWR_TIMER.EN n.val 0
  | _ => d

/-- The sources that fire on one edge. -/
def Dev.wakeAll (d : Dev) (l : List WakeEv) : Dev :=
  let src := l.filterMap d.wakeEv
  let d := l.foldl Dev.wakeSide d
  match src with
  | [] => d
  | w :: r => d.wakeSrc (r.foldl WakeSrc.join w)

/-- WAKE_SOURCE (R533). -/
def execWakeSource (evs : List WakeEv) (s : State) : Host.Outcome State Fault Refusal := s.upd (s.dev.wakeAll evs)

/-- A timer reaches 0: one of Butre starts a wake and is disabled; one of the fabric die stops (R73). The spec gives no function of
timers 4 to 15 an effect, and no command that starts one. DEDUCED, unsafe: log entry 40. -/
def execEventTimerExpiry (n : Fin 16) (s : State) : Host.Outcome State Fault Refusal :=
  s.upd (if n.val < 4 then (if s.dev.bit F.PWR_TIMER.EN n.val then s.dev.wakeAll [.timer (Fin.ofNat 4 n.val)] else s.dev)
    else s.dev.onDie fun d => { d with clk := { d.clk with timers := d.clk.timers.filter fun x => x.1 != n.val } })

/-- VR_PG of an enabled channel that had risen falls. DEDUCED, unsafe: log entry 34. -/
def execVrPgFall (ch : Fin 6) (s : State) : Host.Outcome State Fault Refusal :=
  s.upd (let d := s.dev
    let risen := (d.get F.PWR_STATUS.PG).testBit ch.val && (d.get F.PWR_STATUS.EN).testBit ch.val
    let d := d.put F.PWR_STATUS.PG 0 (d.get F.PWR_STATUS.PG &&& (63 - 2 ^ ch.val))
    let down := match d.pwr.seqr with
      | .down _ => true
      | _ => false
    if !risen then d
    else if d.get F.PWR_STATUS.STATE = 2 then (if down then d else d.failDown ch.val)
    else if d.powered then
      ((d.pendFault .supplySag (uDev 0x10) 0 (ch.val + 0x30)).railsDrop (d.bit F.PWR_CTL.RAIL_RESTART)).disableStep
    else d)

/-- tRETRY after a rail loss. -/
def execRailRestart (s : State) : Host.Outcome State Fault Refusal :=
  s.upd (if s.dev.pwr.restart then
      ({ s.dev with pwr := { s.dev.pwr with restart := false } }).wakeBit 0x200
    else s.dev)

/-- SYS_PWROK_RISE (R524). -/
def execSysPwrokRise (s : State) : Host.Outcome State Fault Refusal := s.upd (s.dev.set F.PWR_STATUS.PWROK).wakeIfGood

/-- A wake attempt is dropped without counting (R538): its source stays latched for the rise of SYS_PWROK. -/
def Dev.dropAttempt (d : Dev) : Dev :=
  let src := d.get F.PWR_WAKE_SOURCE.SOURCES ||| 0x80
  let d := (d.clearDie.put F.PWR_WAKE_SOURCE.SOURCES 0 src).latch
    { sources := src, bay := d.get F.PWR_WAKE_SOURCE.BAY_IDX, timer := d.get F.PWR_WAKE_SOURCE.TIMER_IDX }
  ({ d.put F.PWR_STATUS.STATE 0 1 with pwr := { d.pwr with seqr := .down false } }).disableStep

/-- R526: a falling edge clears PWR_WAKE_RESULT and ends Standby-Held. DEDUCED, unsafe: log entry 34. -/
def execSysPwrokFall (s : State) : Host.Outcome State Fault Refusal :=
  s.upd (let d := (s.dev.put F.PWR_STATUS.PWROK 0 0).clearResult
    match d.get F.PWR_STATUS.STATE with
    | 4 =>
      if d.get F.PWR_STATUS.EN = 0 then d.put F.PWR_STATUS.STATE 0 0
      else { d.put F.PWR_STATUS.STATE 0 1 with pwr := { d.pwr with seqr := .down false } }
    | 2 => d.dropAttempt
    | _ => if d.powered then (d.railsDrop false).disableStep else d)

/-- WAKE_RESULT_CLEAR (R541). -/
def execWakeResultClear (s : State) : Host.Outcome State Fault Refusal := s.upd (s.dev.onDie Dev.clearResult)

/-! ### Shedding (R536, R537) -/

/-- The stages that the present conditions ask for. -/
def Dev.shedWant (d : Dev) : Nat :=
  if !d.bit F.PWR_SAG_CTL.SHED_EN then 0
  else if d.get F.PWR_SAG_STATUS.SHED != 0 || d.get F.PWR_THERM_STATUS.LEVEL == 2 then 5
  else if d.get F.PWR_SAG_STATUS.WARN != 0 || d.get F.PWR_THERM_STATUS.LEVEL == 1 then 2
  else 0

/-- Apply at once the stages that the conditions ask for. -/
def Dev.shed (d : Dev) : Dev := d.put F.PWR_SAG_STATUS.STAGE 0 (max (d.get F.PWR_SAG_STATUS.STAGE) d.shedWant)

/-- Monitor `m` crosses WARN, or SHED (VAUX has a warning threshold only), below or back above.
DEDUCED, unsafe: log entry 35. -/
def execSupplyThresholdCross (m : Fin 7) (shed below : Bool) (s : State) : Host.Outcome State Fault Refusal :=
  s.upd (let d := s.dev
    let f := if shed then F.PWR_SAG_STATUS.SHED else F.PWR_SAG_STATUS.WARN
    let old := d.get f
    if !d.powered || (shed && m.val == 6) || old.testBit m.val == below then d
    else if below then
      ((d.put f 0 (old + 2 ^ m.val)).raise .supplySag (uDev 0x10) 0 (m.val + if shed then 0x20 else 0x10) (some 0)).shed
    else d.put f 0 (old - 2 ^ m.val))

/-- The event-log interrupt of the management function, to each host port that is up and exposes it (R83, R407). -/
def Dev.mgmtMsi (d : Dev) : Dev :=
  ((List.range 64).filter fun p => d.isHost p && d.bit F.PRT_CFG.MGMT_FN p && (d.prt p).up).foldl Dev.msi d

/-- The highest reading, of sensor `sensor`, crosses WARN (0), SHED (1) or TRIP (2), upward or back by HYST.
DEDUCED, unsafe: log entry 35. -/
def execThermalThresholdCross (sensor : Fin 9) (temp : BitVec 12) (thr : Fin 3) (rising : Bool) (s : State) :
    Host.Outcome State Fault Refusal :=
  s.upd (let d := s.dev
    if !d.powered then d
    else
      let d := (d.put F.PWR_THERM_STATUS.TEMP 0 temp.toNat).put F.PWR_THERM_STATUS.SENSOR 0 sensor.val
      let addr (cause : Nat) : Nat := sensor.val + cause * 16 + temp.toNat * 256
      let data := thr.val + (if rising then 256 else 0) + (temp.signExtend 16).toNat * 65536
      match thr.val with
      | 2 => if rising then ((d.pendFault .thermal (uDev 0x10) 0 (addr 2)).railsDrop false).disableStep else d
      | n =>
        let d := (d.event .thermal (uDev 0x10) (BitVec.ofNat 32 data)).mgmtMsi
        if rising then
          let d := d.put F.PWR_THERM_STATUS.LEVEL 0 (max (d.get F.PWR_THERM_STATUS.LEVEL) (n + 1))
          (if n = 1 then d.raise .thermal (uDev 0x10) 0 (addr 1) (some 0) else d).shed
        else d.put F.PWR_THERM_STATUS.LEVEL 0 (min (d.get F.PWR_THERM_STATUS.LEVEL) n))

/-- One stage is restored while the conditions ask for fewer. -/
def execShedRestore (s : State) : Host.Outcome State Fault Refusal :=
  s.upd (let d := s.dev
    let n := d.get F.PWR_SAG_STATUS.STAGE
    if d.shedWant < n then d.put F.PWR_SAG_STATUS.STAGE 0 (n - 1) else d)

/-! ### Tile power states (R534, R535) -/

/-- Nothing is stored, under way or asked for in tile `t`. -/
def Dev.tileIdle (d : Dev) (t : Nat) : Bool :=
  let s := d.slice t
  let at_ (x : Dest) (ing : Option (Fin 64)) : Bool := (match x with
      | .port e => e.val / 8 == t
      | .slice k _ => k.val == t
      | .fold f => f.val / 64 == t
      | .mcast _ => true
      | _ => false) || (ing.map fun p => p.val / 8 == t).getD false
  !d.sw.pipe.any (fun x => at_ x.dest (some x.port)) && !d.sw.staged.any (fun x => at_ x.dest x.ing) &&
    !d.sw.queues.any (fun x => x.1 / 2048 == t && (x.2.map fun q => !q.msgs.isEmpty).getD false) &&
    !d.sw.mc.any (fun x => x.tile.val == t) &&
    !d.sw.pols.any (fun x => (x.2.map fun p => p.hold.any fun h => at_ h.dest h.ing).getD false) &&
    decide (s.w = []) && decide (s.q = []) && decide (s.r = []) && decide (s.parked = []) && decide (s.p = []) &&
    decide (s.trks = []) && decide (s.wbs = []) && decide (s.thru = []) &&
    (List.range 8).all (fun k => (d.prt (t * 8 + k)).sideNp.isEmpty && (d.prt (t * 8 + k)).sideCpl.isEmpty) &&
    !d.bld.inq.any (fun x => x.1 / 64 == t) && !d.bld.folds.any (fun x => x.1 / 64 == t && (!x.2.held.isEmpty || !x.2.writing.isEmpty))

/-- Every fold of tile `t` is FREE. -/
def Dev.foldsFree (d : Dev) (t : Nat) : Bool := (List.range 64).all fun k => d.get F.FOLD.STATE (t * 64 + k) == 0

/-- The ports of tile `t`. -/
def tilePorts (t : Nat) : List Nat := (List.range 8).map fun k => t * 8 + k

/-- TILE_NAP_ENTRY (R534). -/
def execTileNapEntry (t : Tile) (s : State) : Host.Outcome State Fault Refusal :=
  s.upd (s.dev.onDie fun d =>
    if d.awake t.val && d.get F.TIL_PWR_CTL.NAP_IDLE t.val != 0 && d.tileIdle t.val then
      (d.put F.TIL_PWR_STATUS.STATE t.val 1).count (cTile t.val 26)
    else d)

/-- TILE_RETAIN_ENTRY (R534). -/
def execTileRetainEntry (t : Tile) (s : State) : Host.Outcome State Fault Refusal :=
  s.upd (s.dev.onDie fun d =>
    if d.get F.TIL_PWR_STATUS.STATE t.val == 1 && !d.bit F.TIL_PWR_STATUS.WAKING t.val && d.bit F.TIL_PWR_CTL.RETAIN_EN t.val &&
        d.tileIdle t.val && d.foldsFree t.val && (tilePorts t.val).all (fun p => !(d.prt p).up) then
      ((d.setSlice t.val { d.slice t.val with pf := [], hints := [] }).put F.TIL_PWR_STATUS.STATE t.val 2).count (cTile t.val 27)
    else d)

/-- A valid window exists. -/
def Dev.anyWindow (d : Dev) : Bool := (List.range 256).any fun w => d.bit F.WIN.VALID w

/-- The retired cell list stays. DEDUCED, unsafe: log entry 40. -/
def execTileOffEntry (t : Tile) (s : State) : Host.Outcome State Fault Refusal :=
  s.upd (s.dev.onDie fun d =>
    if decide (d.get F.TIL_PWR_STATUS.STATE t.val < 3) && !d.bit F.TIL_PWR_STATUS.WAKING t.val && d.bit F.TIL_PWR_CTL.OFF_EN t.val &&
        d.tileIdle t.val && d.foldsFree t.val && (tilePorts t.val).all (fun p => !d.enabled p) && !d.anyWindow &&
        !d.coh.dir.any (fun x => x.1 / 16 / 2 ^ 18 == t.val) && (d.slice t.val).marks.isEmpty &&
        d.auxUsed t.val .straggler + d.auxUsed t.val .blend + d.auxUsed t.val .telemetry == 0 then
      ((d.setSlice t.val Slice.empty).put F.TIL_PWR_STATUS.STATE t.val 3).count (cTile t.val 28)
    else d)

/-- TILE_DEMAND_WAKE (R535). -/
def execTileDemandWake (t : Tile) (s : State) : Host.Outcome State Fault Refusal :=
  s.upd (s.dev.onDie fun d => d.demand t.val)

/-- From Off the tile re-initialises as TILE_REINIT does (R534); `ok` false: it fails to. -/
def execTileWakeComplete (t : Tile) (ok : Bool) (s : State) : Host.Outcome State Fault Refusal :=
  s.upd (s.dev.onDie fun d =>
    if !d.bit F.TIL_PWR_STATUS.WAKING t.val then d
    else
      let off := d.get F.TIL_PWR_STATUS.STATE t.val == 3
      let d := d.put F.TIL_PWR_STATUS.WAKING t.val 0
      if off && !ok then d.raise .tileWake (uTile t.val 0x17) t.val t.val (some 2)
      else (if off then d.freshSlice t.val else d).put F.TIL_PWR_STATUS.STATE t.val 0)

/-! ### Commands (R543, R544) -/

def pwrCmd (opcode : Nat) : Cmd := { opcode := opcode, may := fun p _ _ => fmOnly p, modes := liveModes }

/-- POWER_STATUS (R543). -/
def execPowerStatus (r : FoernReq) (s : State) : Host.Outcome State Fault Refusal :=
  s.upd (s.dev.onDie fun d => d.foern r { opcode := 0xC900, may := fun p _ _ => fmOrMonitor p, modes := dieModes } fun _ pay d =>
    if !pay.isEmpty then .fail .invalidParam
    else
      let words := [Reg.PWR_STATUS, .PWR_WAKE_SOURCE, .PWR_WAKE_RESULT, .PWR_TIME_STATUS, .PWR_SAG_STATUS, .PWR_THERM_STATUS]
      .ok (words.flatMap (fun x => bytes 4 (d.word x)) ++ bytes 4 (Config.vid + d.get F.PWR_AVS.APPLIED * 256) ++
        bytes 4 (d.word .PWR_KEEP) ++ (List.range 8).map fun t => BitVec.ofNat 8 (d.word .TIL_PWR_STATUS t)) d [])

/-- WAKE_RECORD (R543). -/
def execWakeRecord (r : FoernReq) (s : State) : Host.Outcome State Fault Refusal :=
  s.upd (s.dev.onDie fun d => d.foern r (pwrCmd 0xC901) fun _ pay d =>
    let f := le pay 0 1
    if decide (pay.length ≠ 4) || decide (f ≥ 4) || le pay 1 3 != 0 then .fail .invalidParam
    else
      let (a, b, c) := d.pwr.wakeRec
      let out := bytes 4 (d.word .PWR_WAKE_SOURCE) ++ bytes 4 (d.word .PWR_WAKE_SEEN) ++ bytes 4 (d.word .PWR_WAKE_RESULT) ++
        bytes 4 0 ++ bytes 8 a.toNat ++ bytes 8 b.toNat ++ bytes 8 c.toNat
      let d := if f.testBit 0 then d.clearResult else d
      .ok out (if f.testBit 1 then d.put F.PWR_WAKE_SEEN.SOURCES 0 0 else d) [])

/-- The registers of POWER_CFG's images, and what makes an image invalid (R537, R544). -/
def powerImgs : List Reg := [.PWR_RAIL_CFG, .PWR_WAKE_EN, .PWR_WAKE_BAY_EN, .PWR_SAG_CTL, .PWR_THERM_CTL]

def powerImgBad (k v : Nat) : Bool :=
  match k with
  | 0 => decide (v ≥ 2 ^ 14) || decide (v % 16 ≠ 15)
  | 1 => decide (v ≥ 2 ^ 7)
  | 2 => false
  | 3 =>
    v &&& 0xFF00FE00 != 0 || decide (v % 16 = 0) || decide (v / 16 % 16 ≤ v % 16) || decide (v / 2 ^ 16 = 0)
  | 4 => decide (v ≥ 2 ^ 28) || decide (v / 256 % 256 ≤ v % 256) || decide (v / 65536 % 256 ≤ v / 256 % 256)
  | _ => decide (v ≥ 2)

/-- POWER_CFG (R544). -/
def execPowerCfg (r : FoernReq) (s : State) : Host.Outcome State Fault Refusal :=
  s.upd (s.dev.onDie fun d => d.foern r (pwrCmd 0xC902) fun _ pay d =>
    let m := le pay 0 4
    let img (k : Nat) := le pay (4 + 4 * k) 4
    let on := (List.range 6).filter m.testBit
    if decide (pay.length ≠ 28) || decide (m ≥ 64) || on.any (fun k => powerImgBad k (img k)) then .fail .invalidParam
    else
      let d := on.foldl (fun d k => match powerImgs[k]? with
        | some x => d.putWord x 0 (img k)
        | none => d.put F.PWR_AVS.APPLIED 0 (img k)) d
      let d := if m.testBit 3 then
          (if d.bit F.PWR_SAG_CTL.SHED_EN then d.shed else d.put F.PWR_SAG_STATUS.STAGE 0 0)
        else d
      .done d (on.flatMap fun k => d.stageNow (0x9000 + k) [0]))

/-- A stopped timer keeps its count. DEDUCED, unsafe: log entry 40. -/
def execPowerTimerSet (r : FoernReq) (s : State) : Host.Outcome State Fault Refusal :=
  s.upd (s.dev.onDie fun d => d.foern r (pwrCmd 0xC903) fun h pay d =>
    let n := h.sel.toNat
    let en := le pay 0 1
    let c := le pay 4 4
    let held := d.get F.GLB_CLAIM_TIMERB.FUNC n
    if decide (n ≥ 4) || decide (pay.length ≠ 8) || decide (en ≥ 2) || le pay 1 3 != 0 then .fail .invalidParam
    else if en = 0 then
      let d := d.put F.PWR_TIMER.EN n 0
      .done (if held = 0x200 then (d.put F.GLB_CLAIM_TIMERB.FUNC n 0).put F.GLB_CLAIM_TIMERB.SELECTOR n 0xFFFF else d)
    else if c = 0 || decide (c ≥ 2 ^ 31) then .fail .invalidParam
    else if held != 0 && held != 0x200 then
      .err .resourceConflict ([2, BitVec.ofNat 8 n] ++ bytes 2 held ++ bytes 2 (d.get F.GLB_CLAIM_TIMERB.SELECTOR n) ++ bytes 2 0)
    else .done (((d.put F.GLB_CLAIM_TIMERB.FUNC n 0x200).put F.PWR_TIMER.COUNT n c).set F.PWR_TIMER.EN n))

/-- TILE_POWER_SET (R544). -/
def execTilePowerSet (r : FoernReq) (s : State) : Host.Outcome State Fault Refusal :=
  s.upd (s.dev.onDie fun d => d.foern r (pwrCmd 0xC904) fun h pay d =>
    let t := h.sel.toNat
    let v := le pay 0 4
    if decide (t ≥ 8) || decide (pay.length ≠ 4) || decide (v ≥ 2 ^ 26) then .fail .invalidParam
    else if v.testBit 11 && ((tilePorts t).any d.enabled || d.anyWindow) then .fail .stateMismatch
    else .done (d.putWord .TIL_PWR_CTL t v))

end Sys2Proof.Machine
end

