-- ==== Sys2Proof/Machine/Modes.lean ====
section
/-!
DEFINITION. The commands of the mode machine (R34 to R46): VAUX, the reset pins, SET_MODE, Quiesce, the entry to Standby, the
end of Bring-up, and the reference clocks (R19 to R21).
-/

namespace Sys2Proof.Machine

/-! ### VAUX (R40, R532) -/

/-- A cold reset: only the SPI flash and the OTP of the management processor stay, and what the model hands out stands. -/
def Dev.cold (d : Dev) : Dev :=
  { Dev.reset with
    mgt := { MgtSt.reset with imgA := d.mgt.imgA, imgB := d.mgt.imgB, boot := d.mgt.boot, svnMin := d.mgt.svnMin, fuses := d.mgt.fuses,
                              banks := d.mgt.restart.banks, certs := d.mgt.certs, ctlOut := d.mgt.ctlOut, rsp := d.mgt.rsp }
    bus := { d.bus with hung := [] }, freeCtr := d.freeCtr }

/-- The levels of the pins as Butre first sees them. PERST_IN# already deasserted counts as a wake (R533).
DESIGN CHOICE, unsafe: log entry 10. DESIGN CHOICE, unsafe: log entry 11. DEDUCED, unsafe: log entry 37. -/
def execVauxPowerOn (pwrok sysRst perst testEn xtalByp : Bool) (s : State) : Host.Outcome State Fault Refusal :=
  s.upd (let d := s.dev.cold
    let d := { d.put F.PWR_STATUS.PWROK 0 (if pwrok then 1 else 0) with
      pwr := { d.pwr with sysRst := sysRst, perst := perst, testEn := testEn, straps := if xtalByp then 0x20 else 0 } }
    if perst then d else d.wakeBit 0x41)

/-- Butre resets; until VAUX returns, the pins read as at reset. DEDUCED, unsafe: log entry 37. -/
def execVauxBrownout (s : State) : Host.Outcome State Fault Refusal := s.upd s.dev.cold

/-! ### Reset pins (R40) -/

/-- SYS_RESET_ASSERT (R40). DEDUCED, unsafe: log entry 38. -/
def execSysResetAssert (s : State) : Host.Outcome State Fault Refusal :=
  s.upd (if s.dev.pwr.sysRst then s.dev else { s.dev with pwr := { s.dev.pwr with sysRst := true } }.enterBringUp 4)

/-- PERST_IN_ASSERT (R40). -/
def execPerstInAssert (s : State) : Host.Outcome State Fault Refusal :=
  s.upd (if s.dev.pwr.perst then s.dev else { s.dev with pwr := { s.dev.pwr with perst := true } }.enterBringUp 5)

/-- The boot starts once neither pin is held, with the straps latched then (R604). -/
def Dev.released_ (d : Dev) (straps : BitVec 7) : Dev :=
  if d.pinsUp && decide (d.get F.PWR_STATUS.STATE = 3) then (d.strapsAre straps).bootStart else d

/-- SYS_RESET_DEASSERT (R40). -/
def execSysResetDeassert (straps : BitVec 7) (s : State) : Host.Outcome State Fault Refusal :=
  s.upd (if s.dev.pwr.sysRst then ({ s.dev with pwr := { s.dev.pwr with sysRst := false } } : Dev).released_ straps else s.dev)

/-- The deassertion is a wake source too. DEDUCED, unsafe: log entry 38. -/
def execPerstInDeassert (straps : BitVec 7) (s : State) : Host.Outcome State Fault Refusal :=
  s.upd (if s.dev.pwr.perst then
      (({ s.dev with pwr := { s.dev.pwr with perst := false } } : Dev).released_ straps).wakeBit 1
    else s.dev)

/-- TEST_EN_DEASSERT (R40). -/
def execTestEnDeassert (s : State) : Host.Outcome State Fault Refusal :=
  s.upd (let d := { s.dev with pwr := { s.dev.pwr with testEn := false } }
    if d.mode = .factory then d.enterBringUp 9 else d)

/-! ### Reference clocks (R20, R21) -/

/-- REFCLK_LOSS (R21). -/
def execRefclkLoss (t : Tile) (s : State) : Host.Outcome State Fault Refusal :=
  s.upd (let d := s.dev
    if d.pwr.refLost.getLsbD t.val then d
    else
      let core := d.bit F.GLB_CLK_STATUS.CORE_LOCK && d.get F.GLB_CLK_STATUS.REF_TILE == t.val
      let d := { d with pwr := { d.pwr with refLost := d.pwr.refLost ||| BitVec.ofNat 8 (2 ^ t.val) } }
      d.onDie fun d =>
        if core then
          ((d.put F.GLB_CLK_STATUS.CORE_LOCK 0 0).put F.GLB_CLK_STATUS.MGMT_LOCK 0 0).raise .refclkLoss (uDev 0x02) 0 (t.val + 256)
            (some 3) .device
        else d.raise .refclkLoss (uTile t.val 0x17) t.val t.val)

/-- REFCLK_RETURN (R21). A reference clock that returns in Bring-up does not make the core PLL lock before the next start of the
boot (R19). DESIGN CHOICE, unsafe: log entry 73. -/
def execRefclkReturn (t : Tile) (s : State) : Host.Outcome State Fault Refusal :=
  s.upd { s.dev with pwr := { s.dev.pwr with refLost := s.dev.pwr.refLost &&& ~~~ BitVec.ofNat 8 (2 ^ t.val) } }

/-! ### SET_MODE (R40 to R46, R446, R453) -/

/-- Answer the held SET_MODE. -/
def Dev.answerMode (d : Dev) (x : Detail) : Dev :=
  match d.mgt.held with
  | some h =>
    (({ d with mgt := { d.mgt with held := none } }).clearBell h.via).respond (h.hdr.rsp h.via x [])
  | none => d

/-- End the transition and answer. -/
def Dev.endTrans (d : Dev) (x : Detail) : Dev := ({ d with pwr := { d.pwr with trans := none } }).answerMode x

/-- Some instance is RESETTING, FREEZING or SAVING (R373). -/
def Dev.insBusy (d : Dev) : Bool :=
  (List.range 1024).any fun i => d.bit F.INS.VALID i && [2, 3, 5].contains (d.get F.INS.STATE i)

/-- The transitions that SET_MODE may name (R40). -/
def modeListed (m : Mode) (t : Nat) : Bool :=
  match m with
  | .service | .degraded => t == 4 || t == 0 || t == 1
  | .quiesce => t == 2 || t == 0 || t == 1
  | .factory => t == 1
  | .standby | .bringUp => false

/-- Start toward Quiesce or, through it, Standby. The entry to Quiesce ends a locked sequence (R413). -/
def Dev.toQuiesce (d : Dev) (target : Nat) : Dev :=
  let d := if d.mode = .quiesce then d else (d.setMode .quiesce 6).endLock 2
  { d with pwr := { d.pwr with trans := some { target := target, rank := 6, std := if target = 0 then some .drain else none } } }

/-- SET_MODE (R40). DEDUCED, unsafe: log entry 39. -/
def execSetMode (r : FoernReq) (s : State) : Host.Outcome State Fault Refusal :=
  s.upd (s.dev.onDie fun d => d.foern r
    { opcode := 0xC002, may := fun p _ _ => fmOnly p, modes := fun m => m = .service || m = .degraded || m = .quiesce || m = .factory }
    fun h pay d =>
      let t := le pay 0 1
      if decide (pay.length ≠ 4) || decide (t ≥ 6) || le pay 1 1 != 0 || decide (le pay 2 2 > 10000) then .fail .invalidParam
      else if d.pwr.trans.isSome || d.mgt.held.isSome then .fail .busyBackground
      else if !modeListed d.mode t then .fail .wrongMode
      else match t with
        | 1 => .later ((d.respond (h.rsp r.via .ok [])).enterBringUp 8)
        | 2 => .done (d.setMode (if d.anyFence then .degraded else .service) 6)
        | 0 => if !d.mgt.running.isEmpty || d.insBusy then .fail .busyBackground else .held (d.toQuiesce 0)
        | _ => .held (d.toQuiesce 4))

/-- No tracker of a slice is busy, and no request or response waits in its lanes or for its line. -/
def Slice.drained (x : Slice) : Bool :=
  x.trks.isEmpty && x.w.isEmpty && x.q.isEmpty && x.p.isEmpty && x.r.isEmpty && x.parked.isEmpty

/-- No message of the egress queues and side buffers of a port stands outside a layover window. -/
def Dev.portsDrained (d : Dev) : Bool :=
  (d.sw.queues.all fun x => (d.prt (x.1 / 256)).layover || match x.2 with
      | some q => q.msgs.isEmpty
      | none => true) &&
    d.ports.all fun x => x.2.layover || (x.2.sideNp.isEmpty && x.2.sideCpl.isEmpty)

/-- The drain of Quiesce is complete (R37): no tracker of a slice or of a completion (R414) is busy, no message is in the pipeline,
in a lane, at a Blend engine's input, or before its crossbar grant or its egress buffer, and no egress queue holds one outside a
layover window. What a frozen instance holds stays until step 4 of R41 (R373), and so do the contributions of folds.
DEDUCED, unsafe: log entry 39. -/
def Dev.drained (d : Dev) : Bool :=
  d.coh.slices.all (fun x => x.2.drained) && d.brg.trks.isEmpty && d.brg.waiters.isEmpty && d.sw.pipe.isEmpty && d.sw.staged.isEmpty &&
    d.bld.inq.isEmpty && d.portsDrained &&
    d.sw.pols.all fun x => d.insHolds x.1 || match x.2 with
      | some y => y.hold.isEmpty
      | none => true

/-- QUIESCE_DRAIN_COMPLETE (R37). -/
def execQuiesceDrainComplete (s : State) : Host.Outcome State Fault Refusal :=
  s.upd (s.dev.onDie fun d =>
    match d.pwr.trans with
    | some t =>
      if !d.drained then d
      else match t.std with
        | none => d.endTrans .ok
        | some .drain =>
          let d := ((List.range 64).filter fun p => (d.prt p).layover).foldl (fun d p => d.flushPort p 7) d
          { d with pwr := { d.pwr with trans := some { t with std := some .walks } } }
        | _ => d
    | none => d)

/-- QUIESCE_TIMEOUT (R43). -/
def execQuiesceTimeout (s : State) : Host.Outcome State Fault Refusal :=
  s.upd (s.dev.onDie fun d =>
    match d.pwr.trans with
    | some t => if t.std = none || t.std = some .drain then (d.endTrans .timeout).modeFail else d
    | none => d)

/-- No walk of a dead host runs. -/
def Dev.noDeadWalk (d : Dev) : Bool := d.coh.walks.all fun w => match w.why with
  | .dead _ => false
  | _ => true

/-- Lines that carry a poison mark, in an entry or waiting for a way. -/
def Dev.markedLines (d : Dev) : List Nat :=
  d.coh.dir.filterMap (fun x => if x.2.poison then some (lineAtKey x.1 x.2.tag) else none) ++
    d.coh.slices.flatMap fun x => x.2.marks.map (·.1)

/-- Step 3 of R41: no entry held, an image that fits, and the write-through of every mark. -/
def execStandbyWalksEnd (s : State) : Host.Outcome State Fault Refusal :=
  s.upd (s.dev.onDie fun d =>
    match d.pwr.trans with
    | some t =>
      if t.std ≠ some .walks || !d.noDeadWalk then d
      else if d.coh.dir.any (fun x => x.2.st ≠ .u) then d.endTrans .notQuiesced
      else
        let l := d.markedLines
        let k : Dev := { d with coh := { d.coh with keepMarks := l } }
        if 188416 < k.keepImg.size then d.endTrans .poolExhausted
        else
          let e := l.foldl (fun d x => d.poisonThrough (homeSlice x) x) k
          { e with pwr := { e.pwr with trans := some { t with std := some .poison } } }
    | none => d)

/-- Step 4: what frozen instances hold is answered (R373), LINK_DOWN goes out (R146), MODE_REQ is set, and SET_MODE answered. -/
def execStandbyPoisonWritesDone (s : State) : Host.Outcome State Fault Refusal :=
  s.upd (s.dev.onDie fun d =>
    match d.pwr.trans with
    | some t =>
      if t.std ≠ some .poison || d.coh.slices.any (fun x => x.2.wbs.any (·.through) || x.2.thru ≠ []) then d
      else
        let frozen := (List.range 1024).filter fun i => d.bit F.INS.VALID i && d.get F.INS.STATE i == 4
        let d := frozen.foldl (fun d i => d.answerHeld i true) d
        let d := ((d.goodbyes.set F.PWR_CTL.MODE_REQ).put F.PWR_STATUS.STATE 0 1).answerMode .ok
        { d with pwr := { d.pwr with pair := none, seqr := .entry, trans := some { t with std := some .modeReq } } }
    | none => d)

/-! ### The end of Bring-up (R40, R641) -/

/-- `failed`: the tiles whose self-test fails. A tile that has a configured port and no reference clock fails it. -/
def Dev.selfTests (d : Dev) (failed : BitVec 8) : Dev :=
  if d.pwr.tested then d
  else
    let bad := failed ||| BitVec.ofNat 8 (((List.range 8).filter fun t => d.pwr.refLost.getLsbD t && (tilePorts t).any d.enabled).foldl
      (fun a t => a + 2 ^ t) 0)
    let d := { d with pwr := { d.pwr with tested := true }, flt := { d.flt with selfTestFail := bad } }
    -- a tile fenced by its wire check has its record already
    let l := (List.range 8).filter fun t => bad.getLsbD t && !d.tileFenced t
    let d := l.foldl (fun d t => d.raise .tileSelftest (uTile t 0x17) t t) d
    if bad = 0xFF && !d.pwr.mtfLogged then ({ d with pwr := { d.pwr with mtfLogged := true } }).modeFail else d

/-- Service or Degraded may follow: the kept directory is reconciled, every failing tile is fenced and some tile is not, the
record of a third L3 entry is acknowledged (R508), and the configured tiles have left Off. -/
def Dev.mayServe (d : Dev) : Bool :=
  d.pwr.reconciled && d.noDeadWalk && d.flt.holdL3.isNone && decide (d.get F.FLT_FENCE_TILE.TILES ≠ 255) &&
    decide (d.flt.selfTestFail ≠ 0xFF) &&
    (List.range 8).all fun t => (!d.flt.selfTestFail.getLsbD t || d.tileFenced t) &&
      (d.get F.TIL_PWR_STATUS.STATE t != 3 || !(tilePorts t).any d.enabled)

/-- BRING_UP_COMPLETE (R40). -/
def execBringUpComplete (failed : BitVec 8) (s : State) : Host.Outcome State Fault Refusal :=
  s.upd (s.dev.onDie fun d =>
    if d.mode ≠ .bringUp || d.get F.MGT_FW_STATUS.STATE ≠ 2 || !d.bit F.GLB_CLK_STATUS.CORE_LOCK || !d.flt.running then d
    else
      let d := d.selfTests failed
      if d.mayServe then d.setMode (if d.anyFence then .degraded else .service) 0 else d)

/-! ### Identity and mode (R453) -/

/-- The image of a slot. -/
def MgtSt.img (m : MgtSt) (slot : Nat) : ImgSlot := if slot = 0 then m.imgA else m.imgB

/-- Every principal. -/
def anyOne (_ : Principal) (_ : List (BitVec 8)) (_ : BitVec 16) : Bool := true

/-- The slot whose firmware runs: none in ROM recovery. -/
def Dev.runSlot (d : Dev) : Option Nat := if d.get F.MGT_FW_STATUS.STATE = 4 then none else some (d.get F.MGT_FW_STATUS.SLOT)

/-- In ROM recovery the version and the security version of the running firmware are those of no image: 0, as
MGT_FW_VERSION resets. -/
def execGetIdentity (r : FoernReq) (s : State) : Host.Outcome State Fault Refusal :=
  s.upd (s.dev.onDie fun d => d.foern r { opcode := 0xC000, may := anyOne, modes := dieModes, rom := true } fun _ pay d =>
    if !pay.isEmpty then .fail .invalidParam
    else
      let img := d.runSlot.map d.mgt.img
      let ports := ((List.range 64).filter d.enabled).foldl (fun a p => a + 2 ^ p) 0
      .ok (bytes 2 Config.vendorId.toNat ++ bytes 2 0xC064 ++ bytes 1 (d.get F.GLB_ID.STEPPING) ++ bytes 1 1 ++
        bytes 2 (d.get F.GLB_NODE.NODE_ID) ++ bytes 8 Config.serial.toNat ++ bytes 4 ((img.map (·.version.toNat)).getD 0) ++
        bytes 1 (d.get F.MGT_FW_STATUS.SLOT) ++
        bytes 1 (d.get F.MGT_FW_STATUS.FALLBACK + if d.get F.MGT_FW_STATUS.STATE = 4 then 2 else 0) ++ bytes 2 0 ++
        bytes 4 d.mgt.imgA.version.toNat ++ bytes 4 d.mgt.imgB.version.toNat ++ bytes 4 ((img.map (·.svn)).getD 0) ++
        bytes 1 Config.grade.toNat ++ bytes 3 0 ++ bytes 8 ports) d [])

/-- Open to the FM, Host and monitor origins. -/
def fmMonHost : Principal → Bool
  | .fm | .factory | .monitor | .host _ => true
  | .tenant _ => false

/-- GET_MODE (R453). DEDUCED, unsafe: log entry 39. -/
def execGetMode (r : FoernReq) (s : State) : Host.Outcome State Fault Refusal :=
  s.upd (s.dev.onDie fun d => d.foern r { opcode := 0xC001, may := fun p _ _ => fmMonHost p, modes := dieModes } fun _ pay d =>
    if !pay.isEmpty then .fail .invalidParam
    else .ok (bytes 1 d.mode.code ++ bytes 1 (if d.pwr.trans.isSome then 1 else 0) ++
      bytes 1 (match d.pwr.trans with
        | some t => t.target
        | none => 0xFF) ++
      bytes 1 (d.get F.FLT_FENCE_TILE.TILES) ++ bytes 2 d.flt.fences.length ++ bytes 2 0 ++ bytes 8 d.pwr.modeFtc.toNat) d [])

end Sys2Proof.Machine
end

