-- ==== Sys2Proof/Machine/Boot.lean ====
section
/-!
DEFINITION. The boot of the management processor (R429 to R435): taking the configuration (R448, R451), the Bring-up checks
of the ports (R81 to R89, R129), the reconciliation of a kept directory (R325), fallback, activation and the watchdog.
-/

namespace Sys2Proof.Machine

/-! ### Persistent parameters (R448, R451) -/

/-- FK_PARAM_STORE with a cause for a parameter ID (R463). -/
def Dev.paramStore (d : Dev) (cause id : Nat) : Dev :=
  (d.set F.MGT_ERR.PARAM_STORE).raise .paramStore (uDev 0x03) 0 (cause + id * 65536)

/-- A record whose ID is known and none of whose words lies beyond its size. -/
def recordOk (recs : Tab (Option (BitVec 32))) (id : Nat) : Bool :=
  match paramSize id with
  | some n => (paramWords recs id).all fun x => decide (4 * x.1 < n)
  | none => false

/-- A parameter of the bay channels. -/
def bayParam (id : Nat) : Bool := decide (0x9100 ≤ id) && decide (id < 0x9142)

/-- The firmware takes the parameters: all of them, or after a wake those of the queues (R448). The bay parameters are loaded
only at the first Bring-up after a cold reset (R570). DEDUCED, unsafe: log entry 67. -/
def Dev.takeParams (d : Dev) : Dev :=
  let wake := d.pwr.wakeBoot
  let fresh := d.pwr.fresh
  let d := { d with pwr := { d.pwr with fresh := false } }
  if d.bit F.GLB_STRAP.PARAM_SKIP then d.set F.MGT_PARAM.DEFAULTS
  else match d.mgt.bestBank with
    | none => (d.set F.MGT_PARAM.DEFAULTS).paramStore 1 0
    | some (k, b) =>
      let d := (d.put F.MGT_PARAM.BANK 0 k).put F.MGT_PARAM.GEN 0 b.gen.toNat
      let ids := (b.recs.filterMap fun x => if x.2.isSome then some (x.1 / 2 ^ 20) else none).eraseDups
      let bad := if wake then [] else ids.filter fun id => !recordOk b.recs id
      let d := bad.foldl (fun d id => d.paramStore 2 id) d
      let d := d.applyBank b.recs fun id =>
        recordOk b.recs id && (if wake then id == 0x3003 else fresh || !bayParam id)
      if fresh && !wake then (List.range 32).foldl (fun d b => d.bayWait b) d else d

/-! ### Bring-up checks of the ports -/

/-- A combination that R81 accepts. -/
def comboOk (pers role width : Nat) : Bool :=
  match pers with
  | 1 => role != 2 && decide (3 ≤ width) && decide (width ≤ 5)
  | 2 => role == 2 && decide (3 ≤ width) && decide (width ≤ 5)
  | 3 => role == 3 && decide (1 ≤ width) && decide (width ≤ 2)
  | _ => false

/-- The quads of a width, from the lowest. -/
def quads (width : Nat) : Nat := match width with | 5 => 4 | 4 => 2 | _ => 1

/-- The channel pools of interlink port `p` keep R129. -/
def Dev.poolsOk (d : Dev) (p : Nat) : Bool :=
  let l := [F.PRT_IL_VCPOOL0.REQ, F.PRT_IL_VCPOOL0.RWD, F.PRT_IL_VCPOOL1.SNP, F.PRT_IL_VCPOOL1.RSP, F.PRT_IL_VCPOOL2.DRS].map
    fun f => d.get f p
  let io := d.get F.PRT_IL_VCPOOL2.IO p
  l.all (fun n => decide (32 ≤ n)) && decide (64 ≤ io) && decide (l.sum + io ≤ 2048)

/-- FK_PORT_CFG (R119). -/
def Dev.portCfgFault (d : Dev) (p : Nat) : Dev := d.raise .portCfg (uPort p) p p

/-- Why the configuration of port `p` is not accepted, given the quads that lower-numbered enabled ports of its tile use and
whether one of those has the management personality. DEDUCED, unsafe: log entry 14. -/
def Dev.portBad (d : Dev) (p used : Nat) (mgmt : Bool) : Bool :=
  let k := p % 8
  let pers := d.get F.PRT_CFG.PERSONALITY p
  let w := d.get F.PRT_CFG.WIDTH p
  !comboOk pers (d.get F.PRT_CFG.ROLE p) w || (pers == 3 && mgmt) || (pers != 2 && d.get F.PRT_CFG.CLKMODE p == 3) ||
    (pers == 2 && !d.poolsOk p) || (w == 4 && k % 2 == 1) || (w == 5 && k % 4 != 0) || used.testBit k

/-- Check the ports of tile `t` in increasing order; a port that is not accepted is disabled.
DEDUCED, unsafe: log entry 14. -/
def Dev.tileLayout (d : Dev) (t : Nat) : Dev :=
  ((tilePorts t).foldl (fun (a : Dev × Nat × Bool) p =>
    let (d, used, mgmt) := a
    if !d.enabled p then a
    else if d.portBad p used mgmt then ((d.put F.PRT_CFG.PERSONALITY p 0).portCfgFault p, used, mgmt)
    else (d, used ||| (2 ^ quads (d.get F.PRT_CFG.WIDTH p) - 1) * 2 ^ (p % 8), mgmt || d.get F.PRT_CFG.PERSONALITY p == 3))
    (d, 0, false)).1

/-- R183: floors of tile `t` that together exceed 32,768 cells are logged. DEDUCED, unsafe: log entry 58. -/
def Dev.bufFloors (d : Dev) (t : Nat) : Dev :=
  if 32768 < 64 * (d.get F.TIL_BUF_CFG.RD_FLOOR t + d.get F.TIL_BUF_CFG.SNP_FLOOR t + d.get F.TIL_BUF_CFG.IO_FLOOR t) then
    (d.set F.TIL_ERR.BUF_CFG t).raise .bufCfg (uTile t 0x12) t (Config.faultAddr Kind.bufCfg.code t).toNat
  else d

/-- R83: MGMT_FN is cleared on every port beyond the fourth that would expose the management function.
DEDUCED, unsafe: log entry 14. -/
def Dev.mgmtLimit (d : Dev) : Dev :=
  ((List.range 64).foldl (fun (a : Dev × Nat) p =>
    let (d, n) := a
    if !d.exposes p then a
    else if 4 ≤ n && d.isHost p then ((d.put F.PRT_CFG.MGMT_FN p 0).portCfgFault p, n)
    else (d, n + 1)) (d, 0)).1

/-- R614: the switch mailboxes, in port order. -/
def Dev.switchBoxes (d : Dev) : Dev :=
  let l := (List.range 64).filter d.exposes
  let one (d : Dev) (k : Nat) (port valid : Fld) : Dev :=
    match l[k]? with
    | some p => (d.put port 0 p).set valid
    | none => d.put valid 0 0
  let d := one d 0 F.MGT_MBX_SW.PORT_0 F.MGT_MBX_SW.VALID_0
  let d := one d 1 F.MGT_MBX_SW.PORT_1 F.MGT_MBX_SW.VALID_1
  let d := one d 2 F.MGT_MBX_SW.PORT_2 F.MGT_MBX_SW.VALID_2
  one d 3 F.MGT_MBX_SW.PORT_3 F.MGT_MBX_SW.VALID_3

/-! ### Reconciliation (R325) -/

/-- Host indices that the directory records as holders and whose port is not a host port. -/
def Dev.strayHosts (d : Dev) : List Nat :=
  let all : BitVec 64 := d.coh.dir.foldl (fun a x => if x.2.st = .u then a else a ||| x.2.sharers) 0
  (List.range 64).filter fun h => all.getLsbD h && !d.isHost h

/-- Steps 1 and 2; the walks of the dead hosts run on. -/
def Dev.reconcile (d : Dev) : Dev :=
  if d.pwr.reconciled then d
  else
    let d := d.strayHosts.foldl (fun d h => d.declareDead h 2) d.reconcileLost
    { d with pwr := { d.pwr with reconciled := true } }

/-! ### Ready (R429, R434, R435) -/

/-- The slot's image may start: it is verified, and its security version is not below the OTP minimum. -/
def MgtSt.mayStart (m : MgtSt) (slot : Nat) : Bool := (m.img slot).valid && decide (m.svnMin ≤ (m.img slot).svn)

/-- The image of a slot becomes ACTIVE_SLOT: a new header generation; the OTP minimum is raised as far as increments remain.
DEDUCED, unsafe: log entry 43. -/
def Dev.activate (d : Dev) (slot : Fin 2) : Dev :=
  let m := d.mgt
  let up := min ((m.img slot.val).svn - m.svnMin) m.fuses
  { d with mgt := { m with
    boot := { copies := true, active := slot, next := none, gen := m.boot.gen + 1 }
    svnMin := m.svnMin + up, fuses := m.fuses - up } }

/-- The running firmware of `slot`: ready, with the watchdog armed. -/
def Dev.ready (d : Dev) (slot : Fin 2) : Dev :=
  ((d.put F.MGT_FW_STATUS.STATE 0 2).put F.MGT_FW_STATUS.SLOT 0 slot.val).set F.MGT_FW_STATUS.WDT_ARMED

/-- Step 5 in Bring-up. -/
def Dev.bootReady (d : Dev) : Dev :=
  let slot := d.mgt.from_
  let d := d.takeParams
  let d := d.carEnabled (d.bit F.CAR_CFG.TX_EN) (d.bit F.CAR_CFG.RX_EN)
  let d := (List.range 8).foldl Dev.bufFloors ((List.range 8).foldl Dev.tileLayout d)
  let d := (d.mgmtLimit.switchBoxes.checkWindows.reconcile).ready slot
  if d.mgt.boot.next = some slot then d.activate slot else d

/-- In Quiesce, the firmware that ACTIVATE_FIRMWARE named, or the previous one after a failure, is ready. -/
def Dev.restartReady (d : Dev) : Dev :=
  let slot := d.mgt.from_
  let d := if d.get F.MGT_FW_STATUS.STATE = 3 then d.activate slot else d
  d.ready slot

/-- The image of a slot that cannot start never reaches ready. -/
def execFwBootReady (s : State) : Host.Outcome State Fault Refusal :=
  s.upd (s.dev.onDie fun d =>
    let st := d.get F.MGT_FW_STATUS.STATE
    if !d.mgt.mayStart d.mgt.from_.val || !d.bit F.GLB_CLK_STATUS.MGMT_LOCK then d
    else if d.mode = .bringUp then (if st ≤ 1 then d.bootReady else d)
    else if d.mode = .quiesce then (if st = 1 || st = 3 then d.restartReady else d)
    else d)

/-! ### Fallback (R430) and activation (R434) -/

/-- The cause of FK_FW_IMAGE for the slot that did not start; `badHeader` tells which check an unverified image fails. -/
def Dev.startCause (d : Dev) (slot : Nat) (badHeader : Bool) : Nat :=
  let i := d.mgt.img slot
  if !i.valid then (if badHeader then 1 else 3) else if i.svn < d.mgt.svnMin then 2 else 4

/-- The other slot. -/
def otherSlot (s : Fin 2) : Fin 2 := if s = 0 then 1 else 0

/-- The slot did not start: NEXT_SLOT is cleared if it named it; the other slot is tried once; then ROM recovery.
DEDUCED, unsafe: log entry 43. -/
def Dev.bootFail (d : Dev) (badHeader : Bool) : Dev :=
  let slot := d.mgt.from_
  let d := (d.fwImage slot.val (d.startCause slot.val badHeader)).set F.MGT_FW_STATUS.FALLBACK
  let d := if d.mgt.boot.next = some slot then
      { d with mgt := { d.mgt with boot := { d.mgt.boot with next := none, gen := d.mgt.boot.gen + 1 } } }
    else d
  if d.mgt.fell then (d.put F.MGT_FW_STATUS.STATE 0 4).modeFail
  else { d with mgt := { d.mgt with from_ := otherSlot slot, fell := true } }

/-- In Quiesce this is the previous firmware, after a failed activation. -/
def execFwBootTimeout (badHeader : Bool) (s : State) : Host.Outcome State Fault Refusal :=
  s.upd (s.dev.onDie fun d =>
    let st := d.get F.MGT_FW_STATUS.STATE
    if (d.mode = .bringUp || d.mode = .quiesce) && decide (st ≤ 1) then d.bootFail badHeader else d)

/-- The ROM restarts the previous slot; the C64 stays in Quiesce. -/
def execFwActivateTimeout (s : State) : Host.Outcome State Fault Refusal :=
  s.upd (s.dev.onDie fun d =>
    if d.get F.MGT_FW_STATUS.STATE ≠ 3 then d
    else
      let slot := d.mgt.from_
      let d := (d.fwImage slot.val 4).put F.MGT_FW_STATUS.STATE 0 1
      { d with mgt := { d.mgt with from_ := otherSlot slot, fell := true } })

/-- R431: the record is accepted, after those that wait, and starts the entry to Bring-up.
DEDUCED, unsafe: log entry 68. -/
def execFwWatchdogExpiry (s : State) : Host.Outcome State Fault Refusal :=
  s.upd (s.dev.onDie fun d =>
    if !d.bit F.MGT_FW_STATUS.WDT_ARMED then d
    else
      let d := (d.raise .fwWatchdog (uDev 0x03) 0 (Config.faultAddr Kind.fwWatchdog.code 0).toNat).settle d
      d.acceptN (d.flt.inq.length + d.flt.stalled.length + 2))

end Sys2Proof.Machine
end

