-- ==== Sys2Proof/Machine/Firmware.lean ====
section
/-!
DEFINITION. The firmware images (R430, R433 to R435): transfer, verification and activation, with the shared operations that
the standard commands and Caravan's stream 0x81 use.
-/

namespace Sys2Proof.Machine

/-- Replace the contents of an image slot. -/
def MgtSt.setImg (m : MgtSt) (slot : Nat) (x : ImgSlot) : MgtSt := if slot = 0 then { m with imgA := x } else { m with imgB := x }

/-- The boot header names no next slot. -/
def BootHdr.noNext (h : BootHdr) : BootHdr := { h with next := none, gen := h.gen + 1 }

/-! ### The transfer (R433) -/

/-- The slot that a start uses: the one it names, or the slot that is not running. -/
def Dev.xferSlot (d : Dev) (named : Option (Fin 2)) : Option (Fin 2) :=
  match named, d.runSlot with
  | some s, _ => some s
  | none, some r => some (if r = 0 then 1 else 0)
  | none, none => none

/-- A start: the slot is marked invalid, NEXT_SLOT is cleared if it names it, and the erase begins. -/
def Dev.xferOpen (d : Dev) (origin : BitVec 16) (slot : Fin 2) (total : Nat) (stream : Bool) : Dev :=
  let m := d.mgt.setImg slot.val { d.mgt.img slot.val with valid := false }
  let boot := if m.boot.next = some slot then m.boot.noNext else m.boot
  { d with mgt := { m with boot := boot, xfer := some { origin := origin, slot := slot, total := total, got := 0, erased := false,
                                                        verifying := false, stream := stream } } }

/-- The start action, as far as the checks of R433 let it go; `item` answers the start. -/
def Dev.xferStart (d : Dev) (origin : BitVec 16) (named : Option (Fin 2)) (total : Nat) (stream : Bool) : Ans :=
  match d.xferSlot named with
  | none => .fail .invalidParam
  | some s =>
    if 7 * 2 ^ 20 < total then .fail .invalidParam
    else if d.runSlot = some s.val then .fail .stateMismatch
    else match d.mgt.xfer with
      | some x => if x.origin ≠ origin || stream then .fail .busyBackground else .bg 0 (d.xferOpen origin s total stream) []
      | none => .bg 0 (d.xferOpen origin s total stream) []

/-- The data action. DEDUCED, unsafe: log entry 42. -/
def Dev.xferData (d : Dev) (origin : BitVec 16) (off n : Nat) : Ans :=
  match d.mgt.xfer with
  | none => .fail .stateMismatch
  | some x =>
    if x.origin ≠ origin then .fail .stateMismatch
    else if !x.erased || x.verifying then .fail .busyBackground
    else if off ≠ x.got || x.total < off + n then .fail .invalidParam
    else .done { d with mgt := { d.mgt with xfer := some { x with got := x.got + n } } }

/-- The end action: the verification begins. DEDUCED, unsafe: log entry 42. -/
def Dev.xferEnd (d : Dev) (origin : BitVec 16) : Ans :=
  match d.mgt.xfer with
  | none => .fail .stateMismatch
  | some x =>
    if x.origin ≠ origin then .fail .stateMismatch
    else if !x.erased || x.verifying then .fail .busyBackground
    else if x.got ≠ x.total then .fail .invalidParam
    else .bg 0 { d with mgt := { d.mgt with xfer := some { x with verifying := true } } } []

/-- The transfer is cancelled: its slot stays invalid, and the operation that runs for it completes as aborted. -/
def Dev.xferDrop (d : Dev) : Dev :=
  match d.mgt.xfer with
  | none => d
  | some x =>
    let d := { d with mgt := { d.mgt with xfer := none }, car := { d.car with armed := false } }
    d.bgAbort (if x.stream then 0xCB02 else 0xC004) 0

/-- The cancel action. DEDUCED, unsafe: log entry 42. -/
def Dev.xferCancel (d : Dev) (origin : BitVec 16) : Ans :=
  match d.mgt.xfer with
  | none => .fail .stateMismatch
  | some x => if x.origin ≠ origin then .fail .stateMismatch else .done d.xferDrop

def fwModes : Mode → Bool := liveModes

/-- Only the start names a slot; only the data action carries data. -/
def execFwTransfer (r : FoernReq) (s : State) : Host.Outcome State Fault Refusal :=
  s.upd (s.dev.onDie fun d =>
    d.foern r { opcode := 0xC004, may := fun p _ _ => fmOnly p, modes := fwModes, rom := true } fun _ pay d =>
    let act := le pay 0 1
    let sb := le pay 1 1
    let o := d.origin r.via
    if pay.length < 12 || le pay 2 2 != 0 || act = 0 || 4 < act || (act ≠ 2 && pay.length ≠ 12) || 12 + 3968 < pay.length ||
        (act ≠ 1 && sb ≠ 0) || sb / 2 % 64 ≠ 0 then .fail .invalidParam
    else match act with
      | 1 => d.xferStart o (if 128 ≤ sb then some (Fin.ofNat 2 sb) else none) (le pay 8 4) false
      | 2 => d.xferData o (le pay 4 4) (pay.length - 12)
      | 3 => d.xferEnd o
      | _ => d.xferCancel o)

/-- FW_ERASE_COMPLETE (R433). -/
def execFwEraseComplete (s : State) : Host.Outcome State Fault Refusal :=
  s.upd (s.dev.onDie fun d =>
    match d.mgt.xfer with
    | none => d
    | some x =>
      if x.erased then d
      else
        let d := { d with mgt := { d.mgt with xfer := some { x with erased := true } } }
        if x.stream then d else d.bgDone 0xC004 0 .ok [])

/-- The end of a verification. `check` is what step 3 of R429 finds in the image: 0 good, 1 an invalid header, 2 a failed
digest or signature; a security version below the OTP minimum fails too (R435). -/
def Dev.xferVerified (d : Dev) (x : Xfer) (version : BitVec 32) (svn check : Nat) : Dev :=
  let op := if x.stream then 0xCB02 else 0xC004
  let bad := if check = 1 then 1 else if svn < d.mgt.svnMin then 2 else if check = 2 then 3 else 0
  let d := { d with mgt := { d.mgt with xfer := none }, car := { d.car with armed := false } }
  if bad ≠ 0 then (d.fwImage x.slot.val bad).bgDone op 0 .invalidParam []
  else
    ({ d with mgt := d.mgt.setImg x.slot.val { valid := true, version := version, svn := svn } }).bgDone op 0 .ok []

/-- FW_VERIFY_COMPLETE (R433). DEDUCED, unsafe: log entry 42. -/
def execFwVerifyComplete (version : BitVec 32) (svn : Fin 256) (check : Fin 3) (s : State) : Host.Outcome State Fault Refusal :=
  s.upd (s.dev.onDie fun d =>
    match d.mgt.xfer with
    | some x => if x.verifying && x.erased then d.xferVerified x version svn.val check.val else d
    | none => d)

/-- A transfer that waits for data; one that stream 0x81 fills ends by its own timers (R479, R487). -/
def execFwTransferIdleTimeout (s : State) : Host.Outcome State Fault Refusal :=
  s.upd (s.dev.onDie fun d =>
    match d.mgt.xfer with
    | some x => if x.erased && !x.verifying && !x.stream then d.xferDrop else d
    | none => d)

/-- R487: no HEAD of stream 0x81 within 60 s. -/
def execFwReceiveTimeout (s : State) : Host.Outcome State Fault Refusal :=
  s.upd (s.dev.onDie fun d =>
    if d.car.armed && (d.car.rx.map fun b => b.head.stream) != some 0x81 &&
        ((d.mgt.xfer.map fun x => !x.verifying).getD false) then d.xferDrop
    else d)

/-! ### Activation (R434) -/

/-- Mode 0x0: NEXT_SLOT names the slot, or nothing if the slot runs. In ROM recovery the boot starts again at step 1, and a
transfer still open is lost. DEDUCED, unsafe: log entry 43. -/
def Dev.activateNext (d : Dev) (slot : Fin 2) : Dev :=
  let h := d.mgt.boot
  let next := if d.runSlot = some slot.val then none else some slot
  let d := { d with mgt := { d.mgt with boot := { h with copies := true, next := next, gen := h.gen + 1 } } }
  if d.get F.MGT_FW_STATUS.STATE = 4 then
    let d := d.bgLost
    (({ d with mgt := { d.mgt with xfer := none } } : Dev).put F.MGT_FW_STATUS.STATE 0 0).bootSlot
  else d

/-- Mode 0x1: the firmware restarts from the slot; its watchdog is disarmed in the ROM, and MCTP requests are dropped.
DEDUCED, unsafe: log entry 43. -/
def Dev.activateNow (d : Dev) (slot : Fin 2) : Dev :=
  let d := (d.put F.MGT_FW_STATUS.STATE 0 3).put F.MGT_FW_STATUS.WDT_ARMED 0 0
  { d with mgt := { d.mgt with from_ := slot, fell := false, asm := [], inbox := [] } }

/-- The checks of R434 and the activation. -/
def Dev.activateBody (d : Dev) (slot : Fin 2) (now : Bool) : Ans :=
  if now && (d.mode ≠ .quiesce || d.get F.MGT_FW_STATUS.STATE = 4) then .fail .wrongMode
  else if !(d.mgt.img slot.val).valid then .fail .stateMismatch
  else if !now then .done (d.activateNext slot)
  else if d.runSlot = some slot.val then .fail .stateMismatch
  else if !d.mgt.running.isEmpty || d.mgt.xfer.isSome then .fail .busyBackground
  else .done (d.activateNow slot)

/-- ACTIVATE_FIRMWARE (R434). -/
def execActivateFirmware (r : FoernReq) (s : State) : Host.Outcome State Fault Refusal :=
  s.upd (s.dev.onDie fun d =>
    d.foern r { opcode := 0xC003, may := fun p _ _ => fmOnly p, modes := dieModes, rom := true } fun _ pay d =>
    if pay.length ≠ 4 || 1 < le pay 0 1 || 1 < le pay 1 1 || le pay 2 2 ≠ 0 then .fail .invalidParam
    else d.activateBody (Fin.ofNat 2 (le pay 0 1)) (le pay 1 1 = 1))

end Sys2Proof.Machine
end

