-- ==== Sys2Proof/Machine/ParamCmds.lean ====
section
/-!
DEFINITION. The commands of the persistent parameters (R448 to R451, R454), of background results (R447), and of group 0xCF00
(R460).
-/

namespace Sys2Proof.Machine

/-! ### Background results -/

/-- The oldest kept result is the first to reach tBG_KEEP. -/
def execBgResultExpiry (s : State) : Host.Outcome State Fault Refusal :=
  s.upd (s.dev.onDie fun d => { d with mgt := { d.mgt with results := d.mgt.results.tail } })

/-- The answer of BG_STATUS for a running operation; how far it is done is a free value.
DESIGN CHOICE, unsafe: log entry 44. -/
def bgRunning (o : BgOp) (k : Nat) : List (BitVec 8) :=
  bytes 2 o.hdr.opcode.toNat ++ bytes 1 1 ++ bytes 1 ((Config.free k).toNat % 101) ++
    bytes 2 (Config.retCode RetCode.backgroundStarted.ctorIdx).toNat ++ bytes 2 (Config.detailCode Detail.ok.ctorIdx).toNat ++ bytes 4 0

/-- The answer for a kept result: a completed operation is done in full. -/
def bgKept (r : BgRes) (k : Nat) : List (BitVec 8) :=
  let res := r.result.take 64
  bytes 2 r.op.hdr.opcode.toNat ++ bytes 1 (if r.aborted then 3 else 2) ++
    bytes 1 (if r.aborted then (Config.free k).toNat % 101 else 100) ++
    bytes 2 (Config.retCode r.detail.ret.ctorIdx).toNat ++ bytes 2 (Config.detailCode r.detail.ctorIdx).toNat ++
    bytes 2 res.length ++ bytes 2 0 ++ res

/-- BG_STATUS (R454). DESIGN CHOICE, unsafe: log entry 44. -/
def execBgStatus (r : FoernReq) (s : State) : Host.Outcome State Fault Refusal :=
  s.upd (s.dev.onDie fun d => d.foern r { opcode := 0xC005, may := anyOne, modes := dieModes } fun _ pay d =>
    let own := d.origin r.via
    let o := BitVec.ofNat 16 (le pay 0 2)
    let who := if o = 0 then own else o
    let q := BitVec.ofNat 32 (le pay 4 4)
    if !fmOnly (d.principal r.via) && who ≠ own then .fail .privilege
    else if pay.length ≠ 8 || le pay 2 2 ≠ 0 then .fail .invalidParam
    else
      let (k, d1) := d.fresh
      match d.mgt.running.find? fun x => decide (d.origin x.via = who) && decide (x.hdr.seq = q) with
      | some x => .ok (bgRunning x k) d1 []
      | none =>
        match d.mgt.results.reverse.find? fun x => decide (d.origin x.op.via = who) && decide (x.op.hdr.seq = q) with
        | some x =>
          let d := if x.aborted then d1 else d
          .ok (bgKept x k) (if who = own then { d with mgt := { d.mgt with results := d.mgt.results.erase x } } else d) []
        | none => .fail .stateMismatch)

/-! ### Parameters -/

/-- The committed records: those of the valid bank with the higher generation. -/
def MgtSt.committed (m : MgtSt) : Tab (Option (BitVec 32)) := ((m.bestBank.map fun x => x.2.recs)).getD []

/-- A record of a parameter is held. -/
def hasRecord (t : Tab (Option (BitVec 32))) (id : Nat) : Bool := !(paramWords t id).isEmpty

/-- The bytes of a parameter: the words that tables of records hold, the first table that holds one, else the reset value. -/
def paramBytes (ts : List (Tab (Option (BitVec 32)))) (id : Nat) : List (BitVec 8) :=
  let n := (paramSize id).getD 0
  let word (w : Nat) : Nat :=
    match ts.findSome? fun t => t.get none (parKey id w) with
    | some v => v.toNat
    | none => Dev.reset.paramNow id w
  ((List.range ((n + 3) / 4)).flatMap fun w => bytes 4 (word w)).take n

/-- The value of a parameter as committed, or as the shadow will commit it; none without a record. -/
def MgtSt.paramValue (m : MgtSt) (shadow : Bool) (id : Nat) : List (BitVec 8) :=
  if shadow then
    if m.deleted.contains id || !hasRecord m.shadow id then [] else paramBytes [m.shadow, m.committed] id
  else if hasRecord m.committed id then paramBytes [m.committed] id else []

def parCmd (opcode : Nat) : Cmd := { opcode := opcode, may := fun p _ _ => fmOnly p, modes := liveModes }

/-- PARAM_READ (R454). DEDUCED, unsafe: log entry 45. -/
def execParamRead (r : FoernReq) (s : State) : Host.Outcome State Fault Refusal :=
  s.upd (s.dev.onDie fun d => d.foern r (parCmd 0xC006) fun _ pay d =>
    let id := le pay 0 2
    let off := le pay 4 4
    if pay.length ≠ 8 || 1 < le pay 2 1 || le pay 3 1 ≠ 0 || (paramSize id).isNone then .fail .invalidParam
    else
      let v := d.mgt.paramValue (le pay 2 1 = 1) id
      if v.length < off then .fail .invalidParam
      else .ok (bytes 4 v.length ++ (v.drop off).take 3968) d [])

/-- Take the words of a parameter out of a table of records. -/
def dropRecord (t : Tab (Option (BitVec 32))) (id : Nat) : Tab (Option (BitVec 32)) := t.filter fun x => x.1 / 2 ^ 20 != id

/-- Stage a whole value. -/
def Dev.stageBytes (d : Dev) (id : Nat) (b : List (BitVec 8)) : Dev :=
  let d := { d with mgt := { d.mgt with shadow := dropRecord d.mgt.shadow id, deleted := d.mgt.deleted.filter (· != id), paramWr := none } }
  d.stage ((List.range ((b.length + 3) / 4)).map fun w => ⟨id, w, le b (4 * w) 4⟩)

/-- A chunk that starts a value, or goes on with the one begun. -/
def MgtSt.chunkOk (m : MgtSt) (id off total : Nat) : Option (List (BitVec 8)) :=
  if off = 0 then some []
  else match m.paramWr with
    | some w => if w.id = id && w.total = total && w.bytes.length = off then some w.bytes else none
    | none => none

/-- PARAM_WRITE (R454). -/
def execParamWrite (r : FoernReq) (s : State) : Host.Outcome State Fault Refusal :=
  s.upd (s.dev.onDie fun d => d.foern r (parCmd 0xC007) fun _ pay d =>
    let id := le pay 0 2
    let off := le pay 4 4
    let total := le pay 8 4
    let data := pay.drop 12
    if pay.length < 12 || 3968 < data.length || 1 < le pay 2 1 || le pay 3 1 ≠ 0 || (paramSize id).isNone then .fail .invalidParam
    else if le pay 2 1 = 1 then
      if off ≠ 0 || total ≠ 0 || !data.isEmpty then .fail .invalidParam
      else
        let m := d.mgt
        .done ({ d with mgt := { m with shadow := dropRecord m.shadow id, deleted := id :: m.deleted.filter (· != id) } }.set
          F.MGT_PARAM.STAGED)
    else match d.mgt.chunkOk id off total with
      | none => .fail .invalidParam
      | some b =>
        let b := b ++ data
        if total < b.length then .fail .invalidParam
        else if b.length < total then .done { d with mgt := { d.mgt with paramWr := some { id := id, total := total, bytes := b } } }
        else if paramSize id ≠ some total then .fail .invalidParam
        else .done (d.stageBytes id b))

/-- The bank that a commit writes: the shadow over the committed records, without the deleted ones. -/
def MgtSt.nextBank (m : MgtSt) : Bank :=
  let kept := m.committed.filter fun x => !m.deleted.contains (x.1 / 2 ^ 20)
  { gen := ((m.bestBank.map fun x => x.2.gen)).getD 0 + 1, recs := m.shadow.foldl (fun t x => t.put none x.1 x.2) kept }

/-- The copy is taken at the start; what is staged later needs a further commit (R461). DEDUCED, unsafe: log entry 45. -/
def execParamCommit (r : FoernReq) (s : State) : Host.Outcome State Fault Refusal :=
  s.upd (s.dev.onDie fun d => d.foern r (parCmd 0xC008) fun _ pay d =>
    if pay.length ≠ 0 then .fail .invalidParam
    else if d.mgt.commit.isSome then .fail .busyBackground
    else
      .bg 0 ({ d with mgt := { d.mgt with commit := some d.mgt.nextBank, shadow := [], deleted := [] } }.put F.MGT_PARAM.STAGED 0 0) [])

/-- The bank that is not the best one. -/
def MgtSt.otherBank (m : MgtSt) : Nat :=
  match m.bestBank with
  | some (0, _) => 1
  | _ => 0

/-- PARAM_COMMIT_COMPLETE (R449). -/
def execParamCommitComplete (s : State) : Host.Outcome State Fault Refusal :=
  s.upd (s.dev.onDie fun d =>
    match d.mgt.commit with
    | none => d
    | some b =>
      let d := { d with mgt := { d.mgt with banks := d.mgt.banks.set d.mgt.otherBank (some b), commit := none } }
      (d.put F.MGT_PARAM.GEN 0 b.gen.toNat).bgDone 0xC008 0 .ok (bytes 4 b.gen.toNat))

/-- PARAM_LIST (R450). -/
def execParamList (r : FoernReq) (s : State) : Host.Outcome State Fault Refusal :=
  s.upd (s.dev.onDie fun d => d.foern r (parCmd 0xC009) fun _ pay d =>
    let first := le pay 0 2
    let n := le pay 2 2
    if pay.length ≠ 4 || n = 0 || 256 < n || paramIds.length < first + n then .fail .invalidParam
    else
      .ok (((paramIds.drop first).take n).flatMap fun id =>
        bytes 2 id ++ bytes 2 (if paramArray id then 1 else 0) ++ bytes 4 ((paramSize id).getD 0)) d [])

/-! ### Factory (R40, R442, R460) -/

/-- Who is an FM origin. -/
def isFm (p : Principal) (_ : List (BitVec 8)) (_ : BitVec 16) : Bool := p = .fm

/-- `signed`: the token's signature is good and it names this device. -/
def execFactoryToken (r : FoernReq) (signed : Bool) (s : State) : Host.Outcome State Fault Refusal :=
  s.upd (s.dev.onDie fun d => d.foern r { opcode := 0xCF00, may := isFm, modes := fun m => m = .bringUp } fun _ pay d =>
    let n := le pay 0 2
    if !d.pwr.testEn then .fail .wrongMode
    else if pay.length < 4 || 1024 < n || pay.length ≠ 4 + n || le pay 2 2 ≠ 0 || !signed then .fail .invalidParam
    else .done ({ d with mgt := { d.mgt with factory := some r.via } }.setMode .factory 0))

/-- A store with a chunk written at an offset; bytes that nothing has written are free values. -/
def writeAt (old b : List (BitVec 8)) (off total : Nat) : List (BitVec 8) :=
  (List.range total).map fun k =>
    if off ≤ k && k < off + b.length then b.getD (k - off) 0 else (old[k]?).getD (Config.freeByte 0x21 k)

/-- CERT_WRITE (R460). DEDUCED, unsafe: log entry 45. -/
def execCertWrite (r : FoernReq) (s : State) : Host.Outcome State Fault Refusal :=
  s.upd (s.dev.onDie fun d =>
    d.foern r { opcode := 0xCF02, factory := true, may := fun _ _ _ => true, modes := fun m => m = .factory } fun _ pay d =>
    let off := le pay 0 4
    let total := le pay 4 4
    let b := pay.drop 8
    if pay.length < 8 || 3968 < b.length || 16384 < total || total < off + b.length then .fail .invalidParam
    else .done { d with mgt := { d.mgt with certs := d.mgt.certs.put [] 0 (writeAt (d.mgt.certs.get [] 0) b off total) } })

end Sys2Proof.Machine
end

