-- ==== Sys2Proof/Machine/Mailbox.lean ====
section
/-!
DEFINITION. The transports of the management processor: mailbox doorbells (R613 to R616), MCTP packets (R438, R441, R462)
and the BMC bus (R437).
-/

namespace Sys2Proof.Machine

/-! ### Doorbells -/

/-- Whether a mailbox's doorbell bit is set. -/
def Dev.bell (d : Dev) (v : Transport) : Bool :=
  match v with
  | .switchMbox m =>
    (match m.val with
      | 0 => d.bit F.MGT_MBX_SW.BELL_0 | 1 => d.bit F.MGT_MBX_SW.BELL_1
      | 2 => d.bit F.MGT_MBX_SW.BELL_2 | _ => d.bit F.MGT_MBX_SW.BELL_3)
  | .hostMbox p => (d.get F.MGT_MBX_HOST.BELL).testBit p.val
  | .tenantMbox i => (d.get F.MGT_MBX_TEN.BELL (i.val / 32)).testBit (i.val % 32)
  | _ => false

/-- Whether the mailbox exists: a switch mailbox by R614, a host mailbox at a host port, a tenant mailbox while the VF of
its instance exists (R616). DEDUCED, safe: log entry 50. -/
def Dev.hasMbox (d : Dev) (v : Transport) : Bool :=
  match v with
  | .switchMbox m =>
    (match m.val with
      | 0 => d.bit F.MGT_MBX_SW.VALID_0 | 1 => d.bit F.MGT_MBX_SW.VALID_1
      | 2 => d.bit F.MGT_MBX_SW.VALID_2 | _ => d.bit F.MGT_MBX_SW.VALID_3)
  | .hostMbox p => d.isHost p.val
  | .tenantMbox i => decide (d.get F.INS.STATE i.val ≠ 0)
  | _ => false

/-- R462, R615: a doorbell rung while its mailbox is busy is ignored and logged. DEDUCED, safe: log entry 50. -/
def execMailboxDoorbell (v : Transport) (s : State) : Host.Outcome State Fault Refusal :=
  s.upd (s.dev.onDie fun d =>
    if !d.hasMbox v then d else if d.bell v then d.mboxViol v 2 else d.setBell v)

/-! ### MCTP packets -/

/-- The endpoint takes packets of a transport: the firmware runs, or the ROM in recovery serves the BMC bus (R430). While
STATE reads activating, requests are dropped (R434). -/
def Dev.mctpUp (d : Dev) (v : Transport) : Bool := v.mctp && d.answers v

/-- The assembly of a message tag of an origin. -/
def Dev.asmOf (d : Dev) (v : Transport) (tag : Fin 8) : Option Asm :=
  d.mgt.asm.find? fun a => decide (a.via = v) && decide (a.tag = tag)

/-- The assemblies without that of a message tag of an origin. -/
def Dev.asmDrop (d : Dev) (v : Transport) (tag : Fin 8) : Dev :=
  { d with mgt := { d.mgt with asm := d.mgt.asm.filter fun a => !(decide (a.via = v) && decide (a.tag = tag)) } }

/-- A message is complete: it waits for the firmware, unless its transport is disabled (R462) or it repeats one of its
origin that still waits (R441). DEDUCED, unsafe: log entry 51. -/
def Dev.mctpDone (d : Dev) (v : Transport) (b : List (BitVec 8)) : Dev :=
  if !d.served v then d.mboxViol v 5
  else if d.mgt.inbox.any (fun x => decide (x = (v, b))) then d
  else { d with mgt := { d.mgt with inbox := d.mgt.inbox ++ [(v, b)] } }

/-- An assembly takes a packet's bytes. -/
def Dev.mctpTake (d : Dev) (v : Transport) (tag : Fin 8) (seq : Fin 4) (eom : Bool) (b : List (BitVec 8)) : Dev :=
  let d := d.asmDrop v tag
  if eom then d.mctpDone v b
  else { d with mgt := { d.mgt with asm := d.mgt.asm ++ [{ via := v, tag := tag, next := seq + 1, bytes := b }] } }

/-- A packet of a message (R438, R462): a start of message opens an assembly, in place of an unfinished one of its tag; a
ninth assembly is not opened; a packet out of sequence, or without a start, drops its message.
DEDUCED, unsafe: log entry 51. -/
def Dev.mctpPacket (d : Dev) (v : Transport) (som eom : Bool) (seq : Fin 4) (tag : Fin 8) (b : List (BitVec 8)) : Dev :=
  if som then
    let d := d.asmDrop v tag
    if 8 ≤ d.mgt.asm.length then d.mboxViol v 4 else d.mctpTake v tag seq eom b
  else match d.asmOf v tag with
    | some a => if a.next = seq then d.mctpTake v tag seq eom (a.bytes ++ b) else (d.asmDrop v tag).mboxViol v 3
    | none => d.mboxViol v 3

/-- The answer to a control message (R438). -/
def Dev.ctlAnswer (d : Dev) (v : Transport) (x : MctpAns) : Dev := { d with mgt := { d.mgt with ctlOut := d.mgt.ctlOut ++ [(v, x)] } }

/-- An MCTP control message (R438): Set Endpoint ID assigns the endpoint ID; the others that R438 names are answered. -/
def Dev.mctpControl (d : Dev) (v : Transport) (c : MctpCtl) : Dev :=
  match c with
  | .setEid e => (d.put F.MGT_MCTP_STATUS.EID 0 e.toNat).ctlAnswer v (.eid e)
  | .getEid => d.ctlAnswer v (.eid (BitVec.ofNat 8 (d.get F.MGT_MCTP_STATUS.EID)))
  | .getUuid => d.ctlAnswer v .uuid
  | .getVersions => d.ctlAnswer v .versions
  | .getTypes => d.ctlAnswer v (.types [.control, .fmApi, .cci])
  | .other => d

/-- Control messages are served even on a disabled transport; a packet beyond the baseline 64 bytes is no packet of the
binding. DEDUCED, unsafe: log entry 51. -/
def execMctpPacketReceive (v : Transport) (k : MctpPkt) (s : State) : Host.Outcome State Fault Refusal :=
  s.upd (s.dev.onDie fun d =>
    if !d.mctpUp v then d
    else match k with
      | .control c => d.mctpControl v c
      | .packet som eom seq tag b => if 64 < b.length then d else d.mctpPacket v som eom seq tag b)

/-! ### The BMC bus (R437) -/

/-- Dynamic address assignment, or RSTDAA. In ROM recovery the C64 is an SMBus target only (R430).
DEDUCED, unsafe: log entry 52. -/
def execI3cDynamicAddressAssignment (a : Option (BitVec 7)) (s : State) : Host.Outcome State Fault Refusal :=
  s.upd (s.dev.onDie fun d =>
    if d.get F.MGT_FW_STATUS.STATE = 4 then d else { d with mgt := { d.mgt with i3cAddr := a } })

end Sys2Proof.Machine
end

