-- ==== Sys2Proof/Machine/Interlink.lean ====
section
/-!
DEFINITION. The commands of the interlink link layer (chapter 04): flits sent and received, control bodies, timeouts, and
the link state machine.
-/

namespace Sys2Proof.Machine

/-! ### Sending -/

/-- IL_FLIT_SEND (R131). -/
def execIlFlitSend (p : Port) (s : State) : Host.Outcome State Fault Refusal :=
  s.upd (s.dev.onDie fun d => if d.isIl p.val then d.ilSend p.val else d)

/-! ### Receiving (R133 to R136, R141 to R149) -/

/-- Queue a control body unless it already waits. -/
def Dev.ilQueueCtrl (d : Dev) (p : Nat) (c : IlCtrl) : Dev :=
  let r := d.ilRt p
  if r.ctrlq.contains c then d else d.setIl p { r with ctrlq := r.ctrlq ++ [c] }

/-- RETRAIN_ACK leaves at once: both ends only finish the flit in progress before PAUSE (R144). -/
def Dev.ilSendAck (d : Dev) (p w : Nat) : Dev :=
  let d := d.ilGive p
  let r := d.ilRt p
  let (h, r) := r.header r.txNext r.crVc
  (((d.setIl p r).ilOut p { hdr := h, body := .ctrl (.retrainAck (BitVec.ofNat 3 w)) }).count (cPort p 7)).ilSlotCount p 0 false

/-- R145: RETRAIN_REQ of width `w`. In PAUSE it is ignored; the leader's own request governs. -/
def Dev.ilRetrainReq (d : Dev) (p w : Nat) : Dev :=
  let r := d.ilRt p
  if d.ilState p ≠ 5 then d
  else match r.retrain with
    | some own =>
      if d.bit F.PRT_IL_STATUS.LEADER p then d.ilPause p own.width.toNat
      else
        let w := d.ilWidth p w
        ((d.setIl p { r with ctrlq := r.ctrlq.filter fun c => match c with | .retrainReq _ _ => false | _ => true }).ilSendAck p w).ilPause p w
    | none =>
      let w := d.ilWidth p w
      (d.ilSendAck p w).ilPause p w

/-- RETRAIN_ACK (R144): the width that will be applied. -/
def Dev.ilRetrainAck (d : Dev) (p w : Nat) : Dev :=
  if d.ilState p = 5 && ((d.ilRt p).retrain.map (·.asking)).getD false then
    let r := d.ilRt p
    (d.setIl p { r with ctrlq := r.ctrlq.filter fun c => match c with | .retrainReq _ _ => false | _ => true }).ilPause p
      (d.ilWidth p w)
  else d

/-- R148: the offset of the partner's clock, applied as a discipline update when it answers the request outstanding.
The half is rounded down. DESIGN CHOICE, unsafe: log entry 74. -/
def Dev.ilTimeRsp (d : Dev) (p : Nat) (id : BitVec 16) (t2 t3 : BitVec 64) : Dev :=
  let r := d.ilRt p
  match r.timeReq with
  | some (i, t1) =>
    if i = id then
      let t4 := d.stampAt p
      let off : Int := ((t2 - t1).toInt - (t4 - t3).toInt) / 2
      let d := d.setIl p { r with timeReq := none }
      if d.timeSource = 2 && d.get F.GLB_TIME_CTL.PORT = p then d.discipline off else d
    else d
  | none => d

/-- What a control body does (R141 to R149). -/
def Dev.ilCtrl (d : Dev) (p : Nat) (seq : BitVec 12) (c : IlCtrl) : Dev :=
  match c with
  | .param b => d.ilParamRx p b
  | .paramAck _ resume =>
    if d.ilInParam p && (d.ilRt p).peer.isSome then
      (d.setIl p { d.ilRt p with ackRx := true, ackResume := resume }).ilTryActive p
    else d
  | .retrainReq w _ => d.ilRetrainReq p w.toNat
  | .retrainAck w => d.ilRetrainAck p w.toNat
  | .timeReq id _ => d.ilQueueCtrl p (.timeRsp id (d.stampAt p) 0)
  | .timeRsp id t2 t3 => d.ilTimeRsp p id t2 t3
  | .linkDown _ => if d.ilState p = 5 then d.linkDown p 0xA else d
  | .unknown _ _ => d.ilFault .ilProtocol F.PRT_IL_ERR.PROTOCOL p seq.toNat

/-- A CTRL flit: its header counts in ACTIVE, then its body. One of an unknown subtype or version is logged and ignored whole
(R151). -/
def Dev.ilCtrlRx (d : Dev) (p : Nat) (h : IlHdr) (c : IlCtrl) : Dev :=
  match c with
  | .unknown _ _ => d.ilProto p h.seq.toNat true
  | c => (if d.ilState p = 5 then (d.ilHdr p h []).ilGaps p h.seq else d).ilCtrl p h.seq c

/-- A flit of port `p` that passed its CRC (R162). DEDUCED, unsafe: log entry 17. -/
def Dev.ilReceive (d : Dev) (p : Nat) (f : IlFlit) : Dev :=
  let d := d.count (cPort p 8)
  match f.body with
  | .ctrl c => d.ilCtrlRx p f.hdr c
  | .idle cr => if d.ilState p = 5 then d.ilIdle p f.hdr cr else d
  | b => if d.ilState p = 5 then (d.ilHdr p f.hdr []).ilData p f.hdr b else d

/-- Whether a flit's lists fit its format. -/
def flitFits (f : IlFlit) : Bool :=
  match f.body with
  | .data l | .replay l => decide (l.length ≤ 4)
  | .idle l => l.length == 6
  | .ctrl (.param b) => b.pools.length == 6 && b.freed.length == 6
  | .ctrl _ => true

/-- R134, R26: a flit that fails its CRC is discarded and its slots are undone. -/
def Dev.ilCrcBad (d : Dev) (p flit : Nat) : Dev := (d.count (cPort p 9)).undoFlit p flit

/-- A flit arrives: its symbols that FEC corrected are counted, and its CRC-64 is checked (R125, R133, R162). -/
def Dev.ilArrive (d : Dev) (p : Nat) (f : IlArrival) : Dev :=
  let d := d.count (cPort p 10) f.sym
  if f.crc = IlFlit.crc f.flit then d.ilReceive p f.flit else d.ilCrcBad p f.flit.hdr.seq.toNat

/-- IL_FLIT_RECEIVE (R133). -/
def execIlFlitReceive (p : Port) (f : IlArrival) (s : State) : Host.Outcome State Fault Refusal :=
  if flitFits f.flit then s.upd (s.dev.onDie fun d => if d.isIl p.val then d.ilArrive p.val f else d)
  else .fault (.illFormed "IL_FLIT_RECEIVE")

/-- IL_FLIT_CRC_FAIL (R134). -/
def execIlFlitCrcFail (p : Port) (flit : Nat) (s : State) : Host.Outcome State Fault Refusal :=
  s.upd (s.dev.onDie fun d => if d.isIl p.val then d.ilCrcBad p.val flit else d)

/-- R122, R143: an uncorrectable codeword fails the flits it touches; `inMs` counts those of the last 1 ms. -/
def execIlCodewordUncorrectable (p : Port) (flits : List Nat) (inMs : Nat) (s : State) : Host.Outcome State Fault Refusal :=
  s.upd (s.dev.onDie fun d => if d.isIl p.val then
      let d := ((d.ilFault .flitUncorr F.PRT_IL_ERR.FEC_UNCORR p.val 0).set F.PRT_ERR.FLIT_UNCORR p.val).count (cPort p.val 11)
      let d := flits.foldl (fun d f => d.ilCrcBad p.val f) d
      let lim := d.get F.PRT_IL_CFG.UNCORR_LIM p.val
      if lim ≠ 0 && decide (lim < inMs) then d.ilRetrain p.val 2 0 else d
    else d)

/-- IL_IDLE_RECEIVE (R150). -/
def execIlIdleReceive (p : Port) (h : IlHdr) (c0 c1 c2 c3 c4 c5 : BitVec 16) (s : State) : Host.Outcome State Fault Refusal :=
  s.upd (s.dev.onDie fun d => if d.isIl p.val then d.ilReceive p.val { hdr := h, body := .idle [c0, c1, c2, c3, c4, c5] } else d)

/-- IL_PARAM_RECEIVE (R141). -/
def execIlParamReceive (p : Port) (h : IlHdr) (b : IlParam) (s : State) : Host.Outcome State Fault Refusal :=
  if b.pools.length = 6 && b.freed.length = 6 then
    s.upd (s.dev.onDie fun d => if d.isIl p.val then d.ilReceive p.val { hdr := h, body := .ctrl (.param b) } else d)
  else .fault (.illFormed "IL_PARAM_RECEIVE")

/-- IL_PARAM_ACK_RECEIVE (R142). -/
def execIlParamAckReceive (p : Port) (h : IlHdr) (session : BitVec 16) (resume : Bool) (s : State) : Host.Outcome State Fault Refusal :=
  s.upd (s.dev.onDie fun d => if d.isIl p.val then d.ilReceive p.val { hdr := h, body := .ctrl (.paramAck session resume) } else d)

/-- IL_RETRAIN_REQ_RECEIVE (R145). -/
def execIlRetrainReqReceive (p : Port) (h : IlHdr) (width : BitVec 3) (reason : BitVec 8) (s : State) : Host.Outcome State Fault Refusal :=
  s.upd (s.dev.onDie fun d => if d.isIl p.val then d.ilReceive p.val { hdr := h, body := .ctrl (.retrainReq width reason) } else d)

/-- IL_RETRAIN_ACK_RECEIVE (R144). -/
def execIlRetrainAckReceive (p : Port) (h : IlHdr) (width : BitVec 3) (s : State) : Host.Outcome State Fault Refusal :=
  s.upd (s.dev.onDie fun d => if d.isIl p.val then d.ilReceive p.val { hdr := h, body := .ctrl (.retrainAck width) } else d)

/-- IL_TIME_REQ_RECEIVE (R148). -/
def execIlTimeReqReceive (p : Port) (h : IlHdr) (id : BitVec 16) (t1 : BitVec 64) (s : State) : Host.Outcome State Fault Refusal :=
  s.upd (s.dev.onDie fun d => if d.isIl p.val then d.ilReceive p.val { hdr := h, body := .ctrl (.timeReq id t1) } else d)

/-- IL_TIME_RSP_RECEIVE (R148). -/
def execIlTimeRspReceive (p : Port) (h : IlHdr) (id : BitVec 16) (t2 t3 : BitVec 64) (s : State) : Host.Outcome State Fault Refusal :=
  s.upd (s.dev.onDie fun d => if d.isIl p.val then d.ilReceive p.val { hdr := h, body := .ctrl (.timeRsp id t2 t3) } else d)

/-- IL_LINK_DOWN_RECEIVE (R146). -/
def execIlLinkDownReceive (p : Port) (h : IlHdr) (why : BitVec 8) (s : State) : Host.Outcome State Fault Refusal :=
  s.upd (s.dev.onDie fun d => if d.isIl p.val then d.ilReceive p.val { hdr := h, body := .ctrl (.linkDown why) } else d)

/-! ### Timeouts of the link (R134, R137) -/

/-- Put a missing sequence in its place among those to name, oldest first (R134). -/
def nameFirst (rx seq : BitVec 12) : List (BitVec 12) → List (BitVec 12)
  | [] => [seq]
  | x :: l => if dist12 x rx < dist12 seq rx then x :: nameFirst rx seq l else seq :: x :: l

/-- tIL_NAK after naming it, sequence `seq` is still missing and is named again. -/
def execIlNakTimeout (p : Port) (seq : BitVec 12) (s : State) : Host.Outcome State Fault Refusal :=
  s.upd (s.dev.onDie fun d =>
    let r := d.ilRt p.val
    if r.named.contains seq then d.setIl p.val { r with named := r.named.erase seq, toName := nameFirst r.rxExp seq r.toName } else d)

/-- tIL_STALL with no ACK advance while flits are unacknowledged. -/
def execIlStallTimeout (p : Port) (s : State) : Host.Outcome State Fault Refusal :=
  s.upd (s.dev.onDie fun d =>
    match (d.ilRt p.val).replay with
    | f :: _ => if d.isIl p.val then d.ilExhaust p.val f.1.hdr.seq.toNat else d
    | [] => d)

/-! ### The state machine (R139 to R145) -/

/-- Whether an interlink port may look for its partner. -/
def Dev.ilEnabled (d : Dev) (p : Nat) : Bool :=
  d.trainOk p && d.isIl p && !d.bit F.PRT_CTL.LINK_DISABLE p && !d.portFenced p

/-- IL_DOWN_EXIT (R139). -/
def execIlDownExit (p : Port) (s : State) : Host.Outcome State Fault Refusal :=
  s.upd (s.dev.onDie fun d => if d.ilEnabled p.val && d.ilState p.val = 0 then d.ilEnter p.val 1 else d)

/-- The lanes of a port's configured width. -/
def Dev.laneMask (d : Dev) (p : Nat) : Nat := 2 ^ lanesOf (d.get F.PRT_CFG.WIDTH p) - 1

/-- `lanes` is what the receivers detect (R115); a quad shows signal when each of its lanes does. -/
def execIlSignalDetect (p : Port) (lanes : BitVec 16) (s : State) : Host.Outcome State Fault Refusal :=
  s.upd (s.dev.onDie fun d => if d.ilEnabled p.val && d.ilState p.val = 1 then
      let n := lanes.toNat &&& d.laneMask p.val
      let d := d.put F.PRT_LANE.SIGNAL p.val n
      if (List.range 4).any fun q => n / 16 ^ q % 16 == 15 then d.ilEnter p.val 2 else d
    else d)

/-- R140: the quads equalised at this end choose the width; the partner's narrow it in PARAM. -/
def Dev.ilEqualised (d : Dev) (p : Nat) (quads : BitVec 4) (reversed : Bool) : Dev :=
  let pause := d.ilState p = 6
  let asked := if pause then (((d.ilRt p).retrain.map fun r => r.width.toNat)).getD 0 else d.get F.PRT_CFG.WIDTH p
  let w := widest quads asked
  if w = 0 then (if pause then d else d.ilDetect p)
  else
    let d := (d.put F.PRT_STATUS.WIDTH_TRAINED p w).put F.PRT_STATUS.LANE_REVERSED p (if reversed then 1 else 0)
    let r := d.ilRt p
    let d := d.setIl p { r with quads := quads, retrain := r.retrain.map fun x => { x with phase := 1 } }
    if pause then d else d.ilEnter p 3

/-- IL_EQUALISED (R140). -/
def execIlEqualised (p : Port) (quads : BitVec 4) (reversed : Bool) (s : State) : Host.Outcome State Fault Refusal :=
  s.upd (s.dev.onDie fun d =>
    let training := d.ilState p.val = 2 || (d.ilState p.val = 6 && ((d.ilRt p.val).retrain.map (·.phase)) = some 0)
    if d.isIl p.val && training then d.ilEqualised p.val quads reversed else d)

/-- R139: codeword lock and deskew; PARAM begins (in PAUSE, step 4 of R144). -/
def execIlCodewordLock (p : Port) (s : State) : Host.Outcome State Fault Refusal :=
  s.upd (s.dev.onDie fun d =>
    let r := d.ilRt p.val
    if d.isIl p.val && d.ilState p.val = 3 then (d.ilEnter p.val 4).ilQueueCtrl p.val (.param (d.ilParam p.val))
    else if d.isIl p.val && d.ilState p.val = 6 && (r.retrain.map (·.phase)) = some 1 then
      (d.setIl p.val { r with retrain := r.retrain.map fun x => { x with phase := 2 } }).ilQueueCtrl p.val (.param (d.ilParam p.val))
    else d)

/-- IL_TRAIN_TIMEOUT (R139). -/
def execIlTrainTimeout (p : Port) (s : State) : Host.Outcome State Fault Refusal :=
  s.upd (s.dev.onDie fun d =>
    if d.isIl p.val && (d.ilState p.val = 2 || d.ilState p.val = 3) then d.ilDetect p.val else d)

/-- R141, R146: PARAM fails: back to DETECT, or after a pause the port is down. -/
def execIlParamTimeout (p : Port) (s : State) : Host.Outcome State Fault Refusal :=
  s.upd (s.dev.onDie fun d =>
    if d.isIl p.val && d.ilState p.val = 4 then
      d.ilDetect p.val
    else if d.isIl p.val && d.ilState p.val = 6 && d.ilInParam p.val then d.linkDown p.val 0xA
    else d)

/-- R141: PARAM again until the partner's is held, then PARAM_ACK. -/
def execIlParamResend (p : Port) (s : State) : Host.Outcome State Fault Refusal :=
  s.upd (s.dev.onDie fun d =>
    let r := d.ilRt p.val
    if d.isIl p.val && d.ilInParam p.val then
      match r.peer with
      | none => if r.peerBad then d else d.ilQueueCtrl p.val (.param (d.ilParam p.val))
      | some b =>
        let resume := d.ilResumes p.val b
        d.ilQueueCtrl p.val (.paramAck (d.ilSession p.val b resume) resume)
    else d)

/-- R144 step 1: RETRAIN_REQ again while its answer is awaited. -/
def execIlRetrainReqResend (p : Port) (s : State) : Host.Outcome State Fault Refusal :=
  s.upd (s.dev.onDie fun d =>
    match (d.ilRt p.val).retrain with
    | some r => if d.isIl p.val && d.ilState p.val = 5 && r.asking then d.ilQueueCtrl p.val (.retrainReq r.width r.reason) else d
    | none => d)

/-- R144: an attempt did not reach lock within tIL_RETRAIN; the third in a row takes the port down with reason 0x9. -/
def execIlRetrainAttemptTimeout (p : Port) (s : State) : Host.Outcome State Fault Refusal :=
  s.upd (s.dev.onDie fun d =>
    let r := d.ilRt p.val
    match r.retrain with
    | some x =>
      if d.isIl p.val && d.ilState p.val = 6 && x.phase < 2 then
        if x.tries + 1 ≥ 3 then (d.ilFault .ilRetrainFail F.PRT_IL_ERR.RETRAIN_FAIL p.val 0).linkDown p.val 9
        else (d.count (cPort p.val 23)).setIl p.val { r with retrain := some { x with phase := 0, tries := x.tries + 1 } }
      else d
    | none => d)

end Sys2Proof.Machine
end

