-- ==== Sys2Proof/Machine/Ports.lean ====
section
/-!
DEFINITION. The commands of standard and management ports (chapter 03): training, partner identity, L0p, PRT_CTL, link-down
causes, IDE and DOE.
-/

namespace Sys2Proof.Machine

/-! ### Training and identity (R97, R98, R106, R107) -/

/-- A standard or management port that may train: not disabled, fenced, or held down for a dead-agent walk. -/
def Dev.mayTrain (d : Dev) (p : Nat) : Bool :=
  d.trainOk p && d.enabled p && !d.isIl p && !d.bit F.PRT_CTL.LINK_DISABLE p && !d.portFenced p && !d.coh.deadDown.getLsbD p

/-- The highest rate port `p` offers: MAX_RATE, or the highest that its personality allows; 64 GT/s only with 256-byte flits,
the flit mode it needs (R91, R97, R109). -/
def Dev.topRate (d : Dev) (p : Nat) : Nat :=
  min (d.get F.PRT_CFG.MAX_RATE p) (if d.get F.PRT_CFG.PERSONALITY p = 1 && d.bit F.PRT_CFG.FLIT256 p then 5 else 4)

/-- The highest rate that both ends advertise: the rate that a LINK_RETRAIN named counts as this end's (R97, R98), and only
flit mode runs at 64 GT/s (R91). -/
def Dev.bothRate (d : Dev) (p partnerRate : Nat) (flits : BitVec 3) : Nat :=
  min (match (d.prt p).named with
    | some n => min n.toNat (d.topRate p)
    | none => d.topRate p) (if flits.toNat < 2 then min partnerRate 4 else partnerRate)

/-- The flit format, in the order of preference of R97, from what the partner offers: bit 0 68-byte flits, bit 1 256-byte
flits, bit 2 latency-optimised ones. The management personality runs PCIe only, in its flit mode or without (R82, R91). -/
def Dev.flitFormat (d : Dev) (p rate : Nat) (flits : BitVec 3) : Nat :=
  let big := d.bit F.PRT_CFG.FLIT256 p
  if d.get F.PRT_CFG.PERSONALITY p = 3 then (if flits.getLsbD 1 then 2 else 0)
  else if big && d.bit F.PRT_CFG.LOPT p && flits.getLsbD 2 then 3
  else if big && flits.getLsbD 1 then 2
  else if flits.getLsbD 0 && decide (rate ≤ 4) then 1
  else 0

/-- The identity of the partner is known: written, confirmed, and held against the layover's reference (R106). -/
def Dev.confirm (d : Dev) (p : Nat) (v : BitVec 64) : Dev :=
  ((d.put F.PRT_PARTNER_ID.ID p v.toNat).set F.PRT_STATUS.ID_CONFIRMED p).resolveLayover p v

/-- The two keys of key set `k`, one per direction. -/
def keyPair (k : Nat) : BitVec 4 := BitVec.ofNat 4 (3 * 4 ^ (k % 2))

/-- IDE is active on standard port `p`: the keys of the active set are held in both directions, and containment takes effect
(R93, R118). -/
def Dev.ideUp (d : Dev) (p : Nat) : Dev :=
  if d.get F.PRT_CFG.PERSONALITY p ≠ 1 then d
  else
    let r := d.prt p
    let d := (d.set F.PRT_STATUS.IDE_ACTIVE p).setPrt p
      { r with ideKeys := r.ideKeys ||| keyPair (d.get F.PRT_IDE.KEYSET p), ideLost := false, contain := d.bit F.PRT_IDE.CONTAINMENT p }
    if d.bit F.PRT_STATUS.ID_CONFIRMED p then d.resolveLayover p (BitVec.ofNat 64 (d.get F.PRT_PARTNER_ID.ID p)) else d

/-- The bits of PRT_LANE.SIGNAL of a width code: one per lane (R115). -/
def laneBits (w : Nat) : Nat := 2 ^ 2 ^ (w - 1) - 1

/-- Training ends in L0 at a rate, a width and a flit format (R98): the status, the lanes with signal, UNIT_TIME (R240), and a
degraded result. A management port degrades as a standard one. DESIGN CHOICE, unsafe: log entry 74. -/
def Dev.trained (d : Dev) (p rate width flit top : Nat) (reversed ide : Bool) : Dev :=
  let r := d.prt p
  let d := ((d.put F.PRT_STATUS.LTSSM p 4).set F.PRT_STATUS.DL_ACTIVE p).put F.PRT_STATUS.RATE p rate
  let d := ((d.put F.PRT_STATUS.WIDTH_NOW p width).put F.PRT_STATUS.WIDTH_TRAINED p width).put F.PRT_STATUS.FLIT p flit
  let d := (d.put F.PRT_STATUS.LANE_REVERSED p (if reversed then 1 else 0)).put F.PRT_LANE.SIGNAL p (laneBits width)
  let d := d.setPrt p { r with up := true, named := none, l0p := none, wasReset := false }
  let d := if width < d.get F.PRT_CFG.WIDTH p || rate < top then
      (d.set F.PRT_ERR.DEGRADED p).raise .linkDegrade (uPort p) p (Config.faultAddr Kind.linkDegrade.code p).toNat
    else d
  let d := d.unitTime p
  let d := if r.wasReset && d.isTarget p then d.hotplug p else d
  if ide then d.ideUp p else d

/-- LINK_TRAINING_COMPLETE (R97, R98): at the highest rate both ends advertise, or the highest below it at which equalisation
passed; at the widest width up to the configured one; in the preferred flit format that the partner offers.
DESIGN CHOICE, safe: log entry 66. -/
def execLinkTrainingComplete (p : Port) (equalised width : Fin 8) (flits : BitVec 3) (reversed ide : Bool) (partnerRate : Fin 8)
    (s : State) : Host.Outcome State Fault Refusal :=
  s.upd (s.dev.onDie fun d =>
    let w := min width.val (d.get F.PRT_CFG.WIDTH p.val)
    if d.mayTrain p.val && (!(d.prt p.val).ideLost || ide) && w != 0 then
      let top := d.bothRate p.val partnerRate.val flits
      let rate := min top equalised.val
      d.trained p.val rate w (d.flitFormat p.val rate flits) top reversed ide
    else d)

/-- The identity that the source of PRT_CFG.ID_SRC gives: 0 with no source; the DVSEC's comes with
PORT_IDENTITY_VALID_WRITE; an absent source confirms nothing. -/
def execPartnerIdentityRead (p : Port) (ident : Option (BitVec 64)) (s : State) : Host.Outcome State Fault Refusal :=
  s.upd (s.dev.onDie fun d =>
    if d.isIl p.val || !(d.prt p.val).up then d
    else match d.get F.PRT_CFG.ID_SRC p.val, ident with
      | 3, _ => d.confirm p.val 0
      | 2, _ => d
      | _, some v => d.confirm p.val v
      | _, none => d)

/-- R107: VALID submits IDENT. -/
def execPortIdentityValidWrite (p : Port) (s : State) : Host.Outcome State Fault Refusal :=
  s.upd (s.dev.onDie fun d =>
    let d := d.set F.PIDV.VALID p.val
    if d.isHost p.val && (d.prt p.val).up && d.get F.PRT_CFG.ID_SRC p.val = 2 then
      d.confirm p.val (BitVec.ofNat 64 (d.get F.PIDV.IDENT p.val))
    else d)

/-! ### L0p (R99, R112, R537) -/

/-- L0P_EN with valid fields. -/
def Dev.l0pOn (d : Dev) (p : Nat) : Bool :=
  d.bit F.PRT_CFG.L0P_EN p && decide (d.get F.PRT_L0P.LOW_PCT p < d.get F.PRT_L0P.HIGH_PCT p) &&
    d.get F.PRT_L0P.INTERVAL p != 0 && decide (2 ≤ d.get F.PRT_STATUS.FLIT p)

/-- Run at an L0p width: L0p below the trained width, else L0. -/
def Dev.l0pWidth (d : Dev) (p w : Nat) : Dev :=
  let d := (d.put F.PRT_STATUS.WIDTH_NOW p w).put F.PRT_STATUS.LTSSM p (if w < d.get F.PRT_STATUS.WIDTH_TRAINED p then 5 else 4)
  ((d.setPrt p { d.prt p with l0p := none }).count (cPort p 24)).unitTime p

/-- The width that an interval's evaluation asks for. At shed stage 5 the port is held at MIN_WIDTH. -/
def Dev.l0pWant (d : Dev) (p utilTx utilRx : Nat) (class7Held : Bool) : Option Nat :=
  let now := d.get F.PRT_STATUS.WIDTH_NOW p
  let full := d.get F.PRT_STATUS.WIDTH_TRAINED p
  let low := d.get F.PRT_L0P.MIN_WIDTH p
  let w :=
    if d.get F.PWR_SAG_STATUS.STAGE ≥ 5 then min full low
    else if decide (d.get F.PRT_L0P.HIGH_PCT p < max utilTx utilRx) || class7Held then full
    else if max utilTx utilRx < d.get F.PRT_L0P.LOW_PCT p && decide (low < now) then now - 1
    else now
  if w = now || w = 0 then none else some w

/-- `granted`: what the partner answers, none while its answer is outstanding. -/
def execL0pInterval (p : Port) (utilTx utilRx : Fin 128) (class7Held : Bool) (granted : Option Bool) (s : State) :
    Host.Outcome State Fault Refusal :=
  s.upd (s.dev.onDie fun d =>
    let lt := d.get F.PRT_STATUS.LTSSM p.val
    if d.isIl p.val || !(d.prt p.val).up || !d.l0pOn p.val || !(lt = 4 || lt = 5) then d
    else match d.l0pWant p.val utilTx.val utilRx.val class7Held with
      | none => d
      | some w =>
        match granted with
        | some true => d.l0pWidth p.val w
        | some false => d.setPrt p.val { d.prt p.val with l0p := none }
        | none => d.setPrt p.val { d.prt p.val with l0p := some (BitVec.ofNat 3 w) })

/-- A partner's request is granted with L0P_EN at a width from MIN_WIDTH to the trained one, else refused. -/
def execL0pPartnerRequest (p : Port) (width : Fin 8) (s : State) : Host.Outcome State Fault Refusal :=
  s.upd (s.dev.onDie fun d =>
    let lt := d.get F.PRT_STATUS.LTSSM p.val
    if !d.isIl p.val && (d.prt p.val).up && d.l0pOn p.val && (lt = 4 || lt = 5) &&
        decide (d.get F.PRT_L0P.MIN_WIDTH p.val ≤ width.val) && decide (width.val ≤ d.get F.PRT_STATUS.WIDTH_TRAINED p.val) &&
        decide (width.val ≠ d.get F.PRT_STATUS.WIDTH_NOW p.val) then d.l0pWidth p.val width.val
    else d)

/-! ### PRT_CTL (R100, R101, R110, R154) -/

/-- A retrain of port `p`: Recovery on a standard port, the retrain of R144 on an interlink. -/
def Dev.retrainPort (d : Dev) (p reason width : Nat) (named : Option (BitVec 3)) : Dev :=
  if d.isIl p then d.ilRetrain p reason width
  else
    let d := d.setPrt p { d.prt p with l0p := none, named := named }
    let lt := d.get F.PRT_STATUS.LTSSM p
    let d := if lt = 4 || lt = 5 then d.count (cPort p 23) else d
    (d.put F.PRT_STATUS.LTSSM p 3).put F.PRT_STATUS.WIDTH_NOW p (d.get F.PRT_STATUS.WIDTH_TRAINED p)

/-- PRT_CTL.RETRAIN: ignored on a port that is down. -/
def Dev.ctlRetrain (d : Dev) (p : Nat) : Dev := if (d.prt p).up then d.retrainPort p 1 0 none else d

/-- PRT_CTL.HOT_RESET: on a target port that is not an interlink. A running layover ends (R194). -/
def Dev.ctlHotReset (d : Dev) (p : Nat) : Dev :=
  if d.isTarget p then (if (d.prt p).up then d.linkDown p 5 else d.endLayover p) else d

/-- PRT_CTL.LINK_DISABLE. DEDUCED, unsafe: log entry 15. -/
def Dev.ctlDisable (d : Dev) (p : Nat) (on : Bool) : Dev :=
  if on then
    let d := (d.ilGoodbye p 1).set F.PRT_CTL.LINK_DISABLE p
    let d := if (d.prt p).up then d.linkDown p 6 else d.endLayover p
    if d.isIl p then d.ilEnter p 7 else d.put F.PRT_STATUS.LTSSM p 7
  else
    let was := d.bit F.PRT_CTL.LINK_DISABLE p
    let d := d.put F.PRT_CTL.LINK_DISABLE p 0
    if !was then d
    else if d.isIl p then (if d.portFenced p then d else d.ilEnter p 0)
    else d.put F.PRT_STATUS.LTSSM p 0

/-- PRT_CTL_RETRAIN (R110). -/
def execPrtCtlRetrain (p : Port) (s : State) : Host.Outcome State Fault Refusal :=
  s.upd (s.dev.onDie fun d => d.ctlRetrain p.val)

/-- PRT_CTL_HOT_RESET (R110). -/
def execPrtCtlHotReset (p : Port) (s : State) : Host.Outcome State Fault Refusal :=
  s.upd (s.dev.onDie fun d => d.ctlHotReset p.val)

/-- PRT_CTL_LINK_DISABLE (R110). -/
def execPrtCtlLinkDisable (p : Port) (on : Bool) (s : State) : Host.Outcome State Fault Refusal :=
  s.upd (s.dev.onDie fun d => d.ctlDisable p.val on)

/-! ### Link-down (R102, R104, R146) -/

/-- No signal on any lane throughout tLOS: with FAST_DOWN, FK_PHY_LOSS and reason 0x3 (R102, R146). -/
def Dev.phyLost (d : Dev) (p unacked : Nat) : Dev :=
  if d.bit F.PRT_CFG.FAST_DOWN p && (d.prt p).up then
    let d := (d.set F.PRT_ERR.PHY_LOSS p).raise .phyLoss (uPort p) p (Config.faultAddr Kind.phyLoss.code p).toNat
    (d.put F.PRT_LANE.SIGNAL p 0).linkDown p 3 unacked
  else d

/-- IDE integrity failure: the port goes down with reason 0x7 and both key sets are discarded (R95). -/
def Dev.ideFailed (d : Dev) (p unacked : Nat) : Dev :=
  if d.isIl p || !d.bit F.PRT_STATUS.IDE_ACTIVE p then d
  else
    let d := (d.set F.PRT_ERR.IDE_FAIL p).raise .ideIntegrity (uPort p) p (Config.faultAddr Kind.ideIntegrity.code p).toNat
    let d := d.linkDown p 7 unacked
    d.setPrt p { d.prt p with ideKeys := 0, ideLost := true }

/-- A link-down cause of R102 or R146; `unacked` messages are unacknowledged (R196). Reasons 0x3 and 0x7 log and mark their
own faults; an interlink says goodbye first with the other reasons that arise on it (R146). The reasons that do not arise on an
interlink, or on a standard port, are not causes there. -/
def execLinkDownDeclare (p : Port) (reason : Fin 16) (unacked : Nat) (s : State) : Host.Outcome State Fault Refusal :=
  s.upd (s.dev.onDie fun d =>
    match reason.val with
    | 3 => d.phyLost p.val unacked
    | 7 => d.ideFailed p.val unacked
    | n =>
      if d.isIl p.val then
        if n == 6 then (d.ilGoodbye p.val 1).linkDown p.val n unacked
        else if n == 8 then (d.ilGoodbye p.val 2).linkDown p.val n unacked
        else d
      else if decide (1 ≤ n) && decide (n ≤ 8) then d.linkDown p.val n unacked
      else d)

/-- PHY_LOSS (R102). -/
def execPhyLoss (p : Port) (unacked : Nat) (s : State) : Host.Outcome State Fault Refusal :=
  s.upd (s.dev.onDie fun d => d.phyLost p.val unacked)

/-- IDE_INTEGRITY_FAIL (R95). -/
def execIdeIntegrityFail (p : Port) (unacked : Nat) (s : State) : Host.Outcome State Fault Refusal :=
  s.upd (s.dev.onDie fun d => d.ideFailed p.val unacked)

/-- R93, R101: a refresh programs the next key set, and ends with that set active once the link is out of Recovery. -/
def execIdeKeyRefresh (p : Port) (done : Bool) (s : State) : Host.Outcome State Fault Refusal :=
  s.upd (s.dev.onDie fun d =>
    let next := 1 - d.get F.PRT_IDE.KEYSET p.val
    if d.isIl p.val || !d.bit F.PRT_STATUS.IDE_ACTIVE p.val then d
    else if !done then
      (d.set F.PRT_IDE.PENDING p.val).setPrt p.val { d.prt p.val with ideKeys := (d.prt p.val).ideKeys ||| keyPair next }
    else if d.bit F.PRT_IDE.PENDING p.val && d.get F.PRT_STATUS.LTSSM p.val ≠ 3 then
      ((d.put F.PRT_IDE.KEYSET p.val next).put F.PRT_IDE.PENDING p.val 0).setPrt p.val
        { d.prt p.val with ideKeys := keyPair next, contain := d.bit F.PRT_IDE.CONTAINMENT p.val }
    else d)

/-- The DOE mailbox of a host port's upstream switch port, or the one of the management function (R92). -/
def Dev.doe (d : Dev) (p : Nat) (mgmt : Bool) : Option DoeProto := if mgmt then d.mgt.doe else (d.prt p).doe

def Dev.setDoe (d : Dev) (p : Nat) (mgmt : Bool) (x : Option DoeProto) : Dev :=
  if mgmt then { d with mgt := { d.mgt with doe := x } } else d.setPrt p { d.prt p with doe := x }

/-- R460: the FM provisions certificate slots 1 to 7 through the management function's mailbox; a slot holds 16 KiB (R432). -/
def Dev.setCert (d : Dev) (mgmt : Bool) (x : DoeProto) (cert : Option (Fin 7 × List (BitVec 8))) : Dev :=
  match cert with
  | some (n, b) =>
    if mgmt && (x = .cma || x = .securedCma) && decide (b.length ≤ 16384) then
      { d with mgt := { d.mgt with certs := d.mgt.certs.put [] (n.val + 1) b } }
    else d
  | none => d

/-- DOE_REQUEST (R92, R93): a mailbox takes an object of at most 4 KiB while it holds none, and answers it before it takes the
next. Toward a target, the C64 is the requester. -/
def execDoeRequest (p : Port) (mgmt : Bool) (act : DoeAct) (len : Nat) (s : State) : Host.Outcome State Fault Refusal :=
  s.upd (s.dev.onDie fun d =>
    let here := if mgmt then d.exposes p.val else d.isHost p.val
    match act with
    | .request proto =>
      if here && proto ≠ .other && decide (len ≤ 4096) && (d.doe p.val mgmt).isNone then d.setDoe p.val mgmt (some proto) else d
    | .answer ide cert =>
      match d.doe p.val mgmt with
      | none => d
      | some x =>
        let d := (d.setDoe p.val mgmt none).setCert mgmt x cert
        if ide && here && !mgmt && (x = .cma || x = .securedCma) && (d.prt p.val).up then d.ideUp p.val else d
    | .session => if d.isTarget p.val && !mgmt && (d.prt p.val).up then d.ideUp p.val else d)

end Sys2Proof.Machine
end

