-- ==== Sys2Proof/Machine/Faults.lean ====
section
/-!
DEFINITION. The commands of the fault collector (chapter 14).
-/

namespace Sys2Proof.Machine

/-- FAULT_RECORD_ACCEPT (R492). -/
def execFaultRecordAccept (s : State) : Host.Outcome State Fault Refusal := s.upd s.dev.acceptNext

/-- R493: 1 µs after the fabric-die reset is released. -/
def execCollectorStart (s : State) : Host.Outcome State Fault Refusal :=
  s.upd (s.dev.onDie fun d => if d.flt.running then d else d.collectorStart)

/-- The window of record `seq` ends without acknowledgement (R510). -/
def execCompatWindowExpiry (seq : BitVec 40) (s : State) : Host.Outcome State Fault Refusal :=
  s.upd (s.dev.onDie fun d =>
    match d.logged.find? fun r => r.seq = seq && r.window with
    | none => d
    | some r => ((d.mapRec seq fun x => { x with window := false }).count (cDev 9)).action { r with window := false })

/-! ### The wire checker (R497, R513) -/

/-- One ACLK sample of a pair: levels of the true and the complement wire. Equal levels on two consecutive samples are
logged once, until the wires differ again. A pair signals when it leaves its rest, true 0 and complement 1.
DEDUCED, unsafe: log entry 30. -/
def Dev.wireSample (d : Dev) (p : Nat) (a b : Bool) : Dev :=
  let n := d.flt.injWire.get 0 p
  let d := { d with flt := { d.flt with injWire := d.flt.injWire.put 0 p (n - 1) } }
  if a == b || decide (0 < n) then
    let seen := (d.flt.wireEq.filter fun x => x == p).length
    let d := if seen < 2 then { d with flt := { d.flt with wireEq := p :: d.flt.wireEq } } else d
    if seen = 1 then d.wireFault p 1 (decide (0 < n)) else d
  else
    let high := d.flt.wireHigh.contains p
    let d := { d with flt := { d.flt with
      wireEq := d.flt.wireEq.filter fun x => x != p
      wireHigh := if a then (if high then d.flt.wireHigh else p :: d.flt.wireHigh) else d.flt.wireHigh.filter fun x => x != p } }
    if !a || high then d
    else if d.flt.wireRec.contains p then { d with flt := { d.flt with wireRec := d.flt.wireRec.erase p } }
    else if d.flt.wireSig.contains p then d
    else { d with flt := { d.flt with wireSig := d.flt.wireSig ++ [p] } }

/-- The tile of a pair is fenced: its units signal nothing. -/
def Dev.pairMuted (d : Dev) (p : Nat) : Bool := decide (p < 128) && d.tileFenced (p / 16)

/-- WIRE_PAIR_SAMPLE (R497). -/
def execWirePairSample (pair : Fin 135) (t c : Bool) (s : State) : Host.Outcome State Fault Refusal :=
  s.upd (if s.dev.checkOn && !s.dev.pairMuted pair.val then s.dev.wireSample pair.val t c else s.dev)

/-- tWIRE has passed for a signal without a record, or a record without a signal. -/
def execWireTimeout (pair : Fin 135) (s : State) : Host.Outcome State Fault Refusal :=
  s.upd (let d := s.dev
    let p := pair.val
    if !d.checkOn || d.pairMuted p then d
    else if d.flt.wireSig.contains p then
      ({ d with flt := { d.flt with wireSig := d.flt.wireSig.erase p } }).wireFault p 2
    else if d.flt.wireRec.contains p then
      ({ d with flt := { d.flt with wireRec := d.flt.wireRec.erase p } }).wireFault p 3
    else d)

/-! ### Re-initialisation (R502) -/

/-- Re-initialise tile `t`: its fence ends, its buffer, directory array and lost set table are cleared, and every set
counts as lost. -/
def Dev.reinitTile (d : Dev) (t : Nat) : Dev :=
  let d := d.put F.FLT_FENCE_TILE.TILES 0 (d.get F.FLT_FENCE_TILE.TILES &&& (255 - 2 ^ t))
  let d := (d.put F.TIL_BUF_STATUS.RETIRED t 0).freshSlice t
  (List.range 8).foldl (fun d k =>
    let p := t * 8 + k
    if d.isIl p && !d.bit F.PRT_CTL.LINK_DISABLE p && !d.portFenced p then d.ilEnter p 0 else d) d

/-- FK_TILE_SELFTEST (R641). -/
def Dev.selfTestFault (d : Dev) (t : Nat) : Dev := d.raise .tileSelftest (uTile t 0x17) t t

/-- TILE_REINIT_COMPLETE (R502). -/
def execTileReinitComplete (t : Tile) (ok : Bool) (s : State) : Host.Outcome State Fault Refusal :=
  s.upd (s.dev.onDie fun d =>
    if (d.bgFind 0xC805 t.val).isNone then d
    else if ok then (d.reinitTile t.val).bgDone 0xC805 t.val .ok []
    else (d.selfTestFault t.val).bgDone 0xC805 t.val .stateMismatch [])

/-! ### Commands (R518, R519) -/

def fltCmd (opcode : Nat) : Cmd := { opcode := opcode, may := fun p _ _ => fmOnly p, modes := dieModes }

def fltReadCmd (opcode : Nat) : Cmd := { opcode := opcode, may := fun p _ _ => fmOrMonitor p, modes := dieModes }

/-- Insert a record by sequence. -/
def insertSeq (r : Rec) : List Rec → List Rec
  | [] => [r]
  | x :: l => if r.seq < x.seq then r :: x :: l else x :: insertSeq r l

/-- The logged records in increasing sequence. -/
def Dev.bySeq (d : Dev) : List Rec := d.logged.foldl (fun a r => insertSeq r a) []

/-- With an empty log, the oldest sequence held is a value the spec does not state. DESIGN CHOICE, safe: log entry 32. -/
def execFaultRead (r : FoernReq) (s : State) : Host.Outcome State Fault Refusal :=
  s.upd (s.dev.onDie fun d => d.foern r (fltReadCmd 0xC800) fun _ pay d =>
    let first := le pay 0 8; let n := le pay 8 2; let f := le pay 10 1
    if decide (pay.length ≠ 12) || decide (n = 0) || decide (n > 120) || decide (f ≥ 2) || le pay 11 1 != 0 then
      .fail .invalidParam
    else
      let all := d.bySeq
      let l := ((all.filter fun x => decide (first ≤ x.seq.toNat)).filter fun x => f == 0 || x.open_).take n
      let (k, d1) := d.fresh
      let (old, d) := match all with
        | x :: _ => (x.seq.toNat, d)
        | [] => ((Config.free k).toNat % 2 ^ 64, d1)
      .ok (bytes 2 l.length ++ bytes 2 0 ++ bytes 8 old ++ bytes 8 d.flt.seq.toNat ++ l.flatMap Rec.bytes) d [])

/-- FAULT_ACK (R504). -/
def execFaultAck (r : FoernReq) (s : State) : Host.Outcome State Fault Refusal :=
  s.upd (s.dev.onDie fun d => d.foern r (fltCmd 0xC801) fun _ pay d =>
    let q := le pay 0 8; let f := le pay 8 1
    if decide (pay.length ≠ 12) || decide (f ≥ 4) || le pay 9 3 != 0 then .fail .invalidParam
    else
      let l := d.bySeq.filter fun x => x.open_ && (if f ≥ 2 then decide (x.seq.toNat ≤ q) else x.seq.toNat == q)
      if f < 2 && l.isEmpty then .fail .stateMismatch
      else .ok (bytes 4 l.length) (l.foldl (fun d x => d.ackRec x (f % 2 == 1)) d) [])

/-- A level that the kind's domain does not allow is refused, and DEAD_HOST is for kinds of a port domain (R518). -/
def execFaultPolicySet (r : FoernReq) (s : State) : Host.Outcome State Fault Refusal :=
  s.upd (s.dev.onDie fun d => d.foern r (fltCmd 0xC802) fun h pay d =>
    let v := le pay 0 4
    match Kind.ofCode h.sel.toNat with
    | none => .fail .invalidParam
    | some k =>
      if decide (pay.length ≠ 4) || decide (v ≥ 16) || k.fixed || !k.dom.levels.contains (v % 4) ||
          (v.testBit 2 && decide (k.dom ≠ .port)) then .fail .invalidParam
      else
        let d := d.putWord .FLT_POLICY k.code v
        .done d (d.stageNow (0x8000 + k.code) [0]))

/-- REACTION_MODE_SET (R519). -/
def execReactionModeSet (r : FoernReq) (s : State) : Host.Outcome State Fault Refusal :=
  s.upd (s.dev.onDie fun d => d.foern r (fltCmd 0xC803) fun _ pay d =>
    let m := le pay 0 1; let w := le pay 2 2
    if decide (pay.length ≠ 4) || decide (m ≥ 2) || le pay 1 1 != 0 || decide (w = 0) || decide (w > 10000) then .fail .invalidParam
    else
      let d := (d.put F.FLT_CTL.REACTION 0 m).put F.FLT_CTL.WINDOW 0 w
      .done d (d.stageNow 0x20 [0]))

/-- The domain that a FENCE_RELEASE names. -/
def fenceDom (t i : Nat) : Option DomType :=
  match t with
  | 1 => if i < 64 then some .port else none
  | 5 => if i < 1024 then some .instance_ else none
  | 7 => if i < 32 then some .bay else none
  | _ => none

/-- An instance that is still freezing is busy, as for INSTANCE_THAW. DEDUCED, unsafe: log entry 31. -/
def execFenceRelease (r : FoernReq) (s : State) : Host.Outcome State Fault Refusal :=
  s.upd (s.dev.onDie fun d => d.foern r (fltCmd 0xC804) fun h pay d =>
    let i := h.sel.toNat
    match fenceDom (le pay 0 1) i with
    | none => .fail .invalidParam
    | some t =>
      if decide (pay.length ≠ 4) || le pay 1 3 != 0 then .fail .invalidParam
      else if !d.flt.fences.contains (t, i) || d.heldFor t i then .fail .stateMismatch
      else if t = .instance_ && d.get F.INS.STATE i = 3 then .fail .busyBackground
      else .done (d.releaseFence t i))

/-- TILE_REINIT (R502). -/
def execTileReinit (r : FoernReq) (s : State) : Host.Outcome State Fault Refusal :=
  s.upd (s.dev.onDie fun d => d.foern r { fltCmd 0xC805 with modes := fun m => m = .quiesce } fun h pay d =>
    let t := h.sel.toNat
    if decide (t ≥ 8) || !pay.isEmpty then .fail .invalidParam
    else if !d.tileFenced t || d.openRecs.any (fun x => decide (2 ≤ x.level) && x.c.tile == some t) then .fail .stateMismatch
    else if (d.bgFind 0xC805 t).isSome then .fail .busyBackground
    else .bg t d [])

/-- The port, bay or instance indices fenced at L1, as a mask. -/
def Dev.fenceMask (d : Dev) (t : DomType) : Nat := (d.flt.fences.filter fun x => x.1 == t).foldl (fun a x => a + 2 ^ x.2) 0

/-- FLT_WIRE as it reads: CHECK_ON follows the mode. -/
def Dev.fltWire (d : Dev) : Nat := (if d.checkOn then 1 else 0) + d.get F.FLT_WIRE.PAIR * 2 + d.get F.FLT_WIRE.CAUSE * 2 ^ 9

/-- FAULT_STATUS (R518). -/
def execFaultStatus (r : FoernReq) (s : State) : Host.Outcome State Fault Refusal :=
  s.upd (s.dev.onDie fun d => d.foern r (fltReadCmd 0xC806) fun _ pay d =>
    if !pay.isEmpty then .fail .invalidParam
    else .ok (bytes 4 d.fltStatus ++ bytes 4 (d.get F.FLT_FENCE_TILE.TILES) ++ bytes 4 d.fltWire ++
      bytes 4 (d.get F.FLT_LOST.LOST) ++ bytes 8 (d.fenceMask .port) ++ bytes 4 (d.fenceMask .bay) ++
      bytes 2 (d.flt.fences.filter fun x => x.1 == .instance_).length ++ bytes 2 0) d [])

/-! ### Fault injection (R513, R514) -/

/-- A source unit that R490 defines. -/
def unitOk (u : Nat) : Bool :=
  (pairOf u).isSome || [0xF10, 0xF11, 0xF12].contains u || (decide (0xF40 ≤ u) && decide (u ≤ 0xF5F))

/-- The domain of an injected record: its unit names the port, tile or bay; else its address field does. -/
def injDom (k : Kind) (u addr : Nat) : DomType × Nat :=
  match k with
  | .wire => if addr % 256 < 128 then (.tile, addr % 256 / 16) else (.device, 0)
  | _ =>
    (k.dom, match k.dom with
      | .device => 0
      | .port => if u / 256 < 8 && u % 256 < 8 then u / 256 * 8 + u % 256 else addr % 64
      | .tile | .sliceWays => if u / 256 < 8 then u / 256 else addr % 8
      | .cell => addr % 65536
      | .instance_ => addr % 1024
      | .fold => addr % 512
      | .bay => if 0xF40 ≤ u then u - 0xF40 else addr % 32)

/-- A port on which flits can be injected: in L0, L0p or ACTIVE. -/
def Dev.injPort (d : Dev) (p : Nat) : Bool :=
  if d.isIl p then d.get F.PRT_IL_STATUS.STATE p == 5
  else (d.prt p).up && (d.get F.PRT_STATUS.LTSSM p == 4 || d.get F.PRT_STATUS.LTSSM p == 5)

/-- What makes a FACTORY_INJECT request invalid. -/
def Dev.injBad (d : Dev) (pay : List (BitVec 8)) : Bool :=
  let m := le pay 0 1; let k := le pay 1 1; let lv := le pay 2 1; let u := le pay 4 2; let p := le pay 6 1
  let off := le pay 7 1; let a := le pay 8 8; let mask := le pay 16 8; let n := le pay 24 4
  decide (pay.length ≠ 28) || le pay 3 1 != 0 || decide (u ≥ 4096) || decide (p ≥ 64) || decide (lv ≥ 4) || decide (a ≥ 2 ^ 52) ||
  match m with
  | 1 =>
    !unitOk u || p != 0 || off != 0 || mask != 0 || n != 0 ||
      match Kind.ofCode k with
      | some k => k.fixed && k ≠ .wire
      | none => true
  | 2 =>
    k != 0 || lv != 0 || p != 0 || n != 0 || decide (off > 64) || decide (u / 256 ≥ 8) ||
      !((u % 256 == 0x12 && decide (a < 2 ^ 18)) || (u % 256 == 0x13 && decide (a < 2 ^ 20)))
  | 3 => k != 0 || lv != 0 || p != 0 || off != 0 || a != 0 || mask != 0 || n == 0 || (pairOf u).isNone
  | 4 => k != 0 || lv != 0 || u != 0 || off != 0 || a != 0 || mask != 0 || n == 0 || !d.injPort p
  | _ => true

/-- The error bit that is set when a fault of a kind is logged by unit `u` for domain index `idx`: of its port (R161), tile
(R210, R291, R358), instance (R392), bay or block. The bits of PRT_ERR are set on events, not by records (R116). -/
def Kind.errBit (k : Kind) (u idx : Nat) : Option (Fld × Nat) :=
  let tile (f : Fld) : Option (Fld × Nat) := if u / 256 < 8 then some (f, u / 256) else none
  match k with
  | .ilReplayExhaust => some (F.PRT_IL_ERR.REPLAY_EXHAUST, idx)
  | .ilReorderOvf => some (F.PRT_IL_ERR.REORDER_OVF, idx)
  | .ilCreditViol => some (F.PRT_IL_ERR.CREDIT_VIOL, idx)
  | .ilRetrainFail => some (F.PRT_IL_ERR.RETRAIN_FAIL, idx)
  | .ilPeerMismatch => some (F.PRT_IL_ERR.PEER_MISMATCH, idx)
  | .ilProtocol => some (F.PRT_IL_ERR.PROTOCOL, idx)
  | .bufCorr => tile F.TIL_ERR.BUF_CORR
  | .bufUncorr => tile F.TIL_ERR.BUF_UNCORR
  | .routeMiss => tile F.TIL_ERR.ROUTE_MISS
  | .layoverExpire => tile F.TIL_ERR.LAYOVER
  | .mcastStragglerAge => tile F.TIL_ERR.STRAG_AGE
  | .msgMalformed => tile F.TIL_ERR.MALFORMED
  | .telemetryDrop => tile F.TIL_ERR.TELEM_DROP
  | .bufCfg => tile F.TIL_ERR.BUF_CFG
  | .schedCfg => some (F.SCH_ERR.SCHED_CFG, 0)
  | .holdFull => some (F.SCH_ERR.HOLD_FULL, 0)
  | .dirCorr => tile F.DIR_ERR.DIR_CORR
  | .dirUncorr => tile F.DIR_ERR.DIR_UNCORR
  | .bisnpTimeout => tile F.DIR_ERR.BISNP_TIMEOUT
  | .agentDead => tile F.DIR_ERR.AGENT_DEAD
  | .specReadErr => tile F.DIR_ERR.SPEC_READ_ERR
  | .cohProtocol => tile F.DIR_ERR.COH_PROTOCOL
  | .targetTimeout => tile F.DIR_ERR.TARGET_TIMEOUT
  | .windowCfg => tile F.DIR_ERR.WINDOW_CFG
  | .blendRankViol => tile F.BLD_TILE_ERR.RANK_VIOL
  | .blendType => tile F.BLD_TILE_ERR.TYPE
  | .blendPoison => tile F.BLD_TILE_ERR.POISON
  | .blendAbandon => tile F.BLD_TILE_ERR.ABANDON
  | .instQuota => some (F.INS.QUOTA, idx)
  | .instSquash => some (F.INS.SQUASH, idx)
  | .instLateDiscard => some (F.INS.LATE, idx)
  | .instAccess => some (F.INS.ACCESS, idx)
  | .brgFarErr => some (F.BRG_ERR.FAR_ERR, 0)
  | .brgLockTimeout => some (F.BRG_ERR.LOCK_TIMEOUT, 0)
  | .brgMalformed => some (F.BRG_ERR.MALFORMED, 0)
  | .mboxViol => some (F.MGT_ERR.MBOX_VIOL, 0)
  | .fwImage => some (F.MGT_ERR.FW_IMAGE, 0)
  | .paramStore => some (F.MGT_ERR.PARAM_STORE, 0)
  | .carAbandon => some (F.CAR_ERR.ABANDON, 0)
  | .carOverrun => some (F.CAR_ERR.OVERRUN, 0)
  | .carFrame => some (F.CAR_ERR.FRAME, 0)
  | .bayOvercurrent => some (F.BAY_ERR.OVERCURRENT, idx)
  | .bayShort => some (F.BAY_ERR.SHORT, idx)
  | .bayPrechargeFail => some (F.BAY_ERR.PRECHARGE_FAIL, idx)
  | .bayGateStuck => some (F.BAY_ERR.GATE_STUCK, idx)
  | .bayUv => some (F.BAY_ERR.UV, idx)
  | .wire | .modeTransitionFail | .fwWatchdog | .faultLost | .refclkLoss | .tileSelftest | .phyLoss | .linkDown | .linkDegrade
  | .flitUncorr | .ideIntegrity | .portCfg | .layoverFlush | .instBlob | .supplySag
  | .wakeFail | .thermal | .aocSource | .tileWake | .keepSet | .bayFeedLoss | .testInjected => none

/-- The error bit of a fault kind logged by unit `u` for domain index `idx`. -/
def Dev.errBit (d : Dev) (k : Kind) (u idx : Nat) : Dev :=
  match k.errBit u idx with
  | some (f, i) => d.set f i
  | none => d

/-- The injection itself. A record of method 0x1 sets its kind's error bit, which the spec sets when the fault is logged. -/
def Dev.inject (d : Dev) (pay : List (BitVec 8)) : Dev :=
  let u := le pay 4 2; let a := le pay 8 8; let n := le pay 24 4
  match le pay 0 1 with
  | 1 =>
    (match Kind.ofCode (le pay 1 1) with
      | some k =>
        let (t, i) := injDom k u a
        let d := d.errBit k u i
        d.offer { unit := u, what := .fault k, level := some (le pay 2 1), dom := t, idx := i, addr := BitVec.ofNat 64 a,
                  injected := true }
      | none => d)
  | 2 => { d with flt := { d.flt with injCw := d.flt.injCw ++ [(u, a, le pay 7 1, BitVec.ofNat 64 (le pay 16 8))] } }
  | 3 => { d with flt := { d.flt with injWire := d.flt.injWire.put 0 ((pairOf u).getD 0) n } }
  | _ => { d with flt := { d.flt with injLink := d.flt.injLink.put 0 (le pay 6 1) n } }

/-- FK_TEST_INJECTED is accepted on the edge, after the records that wait, so that the response can name its sequence.
DEDUCED, unsafe: log entry 29. -/
def execFactoryInject (r : FoernReq) (s : State) : Host.Outcome State Fault Refusal :=
  s.upd (s.dev.onDie fun d => d.foern r
    { opcode := 0xCF01, factory := true, may := fun _ _ _ => true, modes := fun m => m = .factory } fun _ pay d =>
    if d.injBad pay then .fail .invalidParam
    else
      let d := d.acceptN (d.flt.inq.length + d.flt.stalled.length + 2)
      let q := d.flt.seq
      let c : Coded := { unit := uDev 0x03, what := .fault .testInjected, dom := .device, idx := 0,
                         addr := BitVec.ofNat 64 (le pay 1 1 + le pay 0 1 * 256) }
      .ok (bytes 8 q.toNat) ((d.acceptRec c).inject pay) [])

end Sys2Proof.Machine
end

