-- ==== Sys2Proof/Machine/Map.lean ====
section
/-!
DEFINITION. The CSR address map (R595, R596) and the registers and arrays of each block (R108, R154, R203, R248, R287, R328,
R328, R357, R389, R392, R395, R420, R465, R484, R515, R540, R542, R576, R582, R588, R592, R602, R613).
-/

namespace Sys2Proof.Machine

/-- What a mapped word is: a register word of an index, a reserved word that reads 0, half of a live counter or of a shadow,
a word of a log slot, or a histogram bin. -/
inductive Place where
  | reg (r : Reg) (i : Nat)
  | zero
  | live (key : Nat) (hi : Bool)
  | shad (key : Nat) (hi : Bool)
  | log (slot word : Nat)
  | hist (k : Nat)
  /-- the TST block (R11), whose registers no chapter gives -/
  | tst (o : Nat)
  deriving DecidableEq, Repr

/-- The block of an address (R595). -/
def csrBlock (a : Nat) : Option Nat :=
  let last : List Nat := [0x1FF, 0x3FFFFF, 0x7FFFFF, 0x7FFFFF, 0x4FFFFF, 0x3FFFF, 0x2FFFFF, 0x23FF, 0x1FFFF, 0x5F, 0x10013,
    0xE00FFF, 0x1F, 0x1207]
  let b := a / 2 ^ 24
  match last[b]? with
  | some e => if a % 2 ^ 24 ≤ e then some b else none
  | none => if b = 15 then some 15 else none

/-- Registers in a row from offset 0 on. -/
def regRow (rs : List Reg) (o i : Nat) : Option Place := rs[o / 4]?.map fun r => .reg r i

def glbPlace (o : Nat) : Option Place :=
  if o < 0x100 then
    regRow [.GLB_ID, .GLB_CAP0, .GLB_CAP1, .GLB_STRAP, .GLB_NODE, .GLB_MODE, .GLB_MODE_FTC_LO, .GLB_MODE_FTC_HI, .GLB_RESET_CAUSE,
      .GLB_CLK_STATUS, .GLB_TIME_CTL, .GLB_TIME_STEP, .GLB_FTC_LO, .GLB_FTC_HI, .GLB_TIME_STATUS, .GLB_ERR, .GLB_GPIO_IN,
      .GLB_GPIO_OUT, .GLB_GPIO_OE] o 0
  else if o < 0x140 then some (.reg .GLB_CLAIM_GPIO ((o - 0x100) / 4))
  else if o < 0x150 then some (.reg .GLB_CLAIM_TIMERB ((o - 0x140) / 4))
  else if o < 0x180 then some (.reg .GLB_CLAIM_TIMERF ((o - 0x140) / 4))
  else if o / 4 % 4 < 3 then some (.reg .GLB_CLAIM_AUX ((o - 0x180) / 4))
  else none

def prtPlace (o : Nat) : Option Place :=
  let p := o / 0x10000
  let o := o % 0x10000
  if o < 0x40 then
    regRow [.PRT_CFG, .PRT_CTL, .PRT_STATUS, .PRT_L0P, .PRT_LAYOVER, .PRT_DOWN_INFO, .PRT_LANE, .PRT_ERR, .PRT_PARTNER_ID_LO,
      .PRT_PARTNER_ID_HI, .PRT_IDE] o p
  else
    regRow [.PRT_IL_CFG, .PRT_IL_PEER, .PRT_IL_VCPOOL0, .PRT_IL_VCPOOL1, .PRT_IL_VCPOOL2, .PRT_IL_STATUS, .PRT_IL_SEQ, .PRT_IL_BUF,
      .PRT_IL_ERR] (o - 0x40) p

/-- The route, multicast and policy arrays stand once: every tile's copy is the same (R168, R188). -/
def tilPlace (o : Nat) : Option Place :=
  let t := o / 0x100000
  let o := o % 0x100000
  if o < 0x20 then
    regRow [.TIL_BUF_CFG, .TIL_BUF_STATUS, .TIL_AUX_CFG, .TIL_AUX_STATUS0, .TIL_AUX_STATUS1, .TIL_MCAST_CFG, .TIL_MIRROR, .TIL_ERR] o t
  else if o < 0x40 then some (.reg .TIL_PCFG (t * 8 + (o - 0x20) / 4))
  else if o < 0x48 then regRow [.TIL_PWR_CTL, .TIL_PWR_STATUS] (o - 0x40) t
  else if o < 0x10000 then none
  else if o < 0x14000 then some (.reg .TIL_ROUTE ((o - 0x10000) / 4))
  else if o < 0x20000 then none
  else if o < 0x30000 then regRow [.TIL_MCAST0, .TIL_MCAST1, .TIL_MCAST2, .TIL_MCAST3] (o % 16) ((o - 0x20000) / 16)
  else if o < 0x30400 then some (.reg .TIL_VPPB (t * 256 + (o - 0x30000) / 4))
  else none

/-- The window table and the host masks stand once. -/
def dirPlace (o : Nat) : Option Place :=
  let t := o / 0x100000
  let o := o % 0x100000
  if o < 0x1C then
    regRow [.DIR_CTL, .DIR_STATUS0, .DIR_STATUS1, .DIR_ERR, .DIR_STAMP_LO, .DIR_STAMP_HI, .DIR_PTR] o t
  else if o < 0x24 then regRow [.DIR_FWD_LO, .DIR_FWD_HI] (o - 0x1C) 0
  else if o = 0x24 then some (.reg .DIR_RECOV_CTL t)
  else if o < 0x30 then regRow [.DIR_DEAD_LO, .DIR_DEAD_HI] (o - 0x28) 0
  else if o < 0x38 then regRow [.DIR_RECLAIM, .DIR_PF_STATUS] (o - 0x30) t
  else if o < 0x40 then none
  else if o < 0x80 then some (.reg .DIR_LOST (t * 16 + (o - 0x40) / 4))
  else if o < 0x10000 then none
  else if o < 0x20000 then
    let w := (o - 0x10000) / 0x100
    let k := o % 0x100 / 4
    if k = 0 then some (.reg .WIN0 w)
    else if k = 1 then some (.reg .WIN1 w)
    else if k < 4 || 36 ≤ k then some .zero
    else some (.reg (if k % 2 = 0 then .WIN_TGT else .WIN_TDPA) (w * 16 + (k - 4) / 2))
  else if o < 0x21000 then
    regRow [.GRANT0, .GRANT1, .GRANT2, .GRANT3] (o % 16) (t * 256 + (o - 0x20000) / 16)
  else none

def schPlace (o : Nat) : Option Place :=
  if o < 0x1000 then regRow [.SCH_CTL, .SCH_HIST_CFG, .SCH_ERR] o 0
  else if o < 0x1400 then regRow [.SCH_CLASSMAP, .SCH_SLOTMAP, .SCH_PORT_CFG, .SCH_PORT_VT] (o % 16) ((o - 0x1000) / 16)
  else if o < 0x2000 then none
  else if o < 0x2400 then
    regRow [.SCH_GATE_CTL, .SCH_GATE_CYCLE, .SCH_GATE_BASE_LO, .SCH_GATE_BASE_HI] (o % 16) ((o - 0x2000) / 16)
  else if o < 0x8000 then none
  else if o < 0x10000 then regRow [.SCH_GATE_ENT0, .SCH_GATE_ENT1] (o % 8) ((o - 0x8000) / 8)
  else if o < 0x100000 then none
  else if o < 0x200000 then
    if 36 ≤ o % 0x40 then some .zero
    else
      regRow [.QUEUE0, .QUEUE1, .QUEUE2, .QUEUE3, .QUEUE4, .QUEUE5, .QUEUE6, .QUEUE7, .QUEUE8] (o % 0x40) ((o - 0x100000) / 0x40)
  else if o < 0x208000 then
    regRow [.POL0, .POL1, .POL2, .POL3, .POL4, .POL5, .POL6, .POL7] (o % 0x20) ((o - 0x200000) / 0x20)
  else if o < 0x300000 then none
  else some (.hist ((o - 0x300000) / 4))

def bldPlace (o : Nat) : Option Place :=
  if o < 0x80 then regRow [.BLD_TILE_STATUS, .BLD_TILE_ERR] (o % 16) (o / 16)
  else if o < 0x10000 then none
  else if o < 0x18000 then
    if 56 ≤ o % 0x40 then some .zero
    else
      regRow [.FOLD0, .FOLD1, .FOLD2, .FOLD3, .FOLD4, .FOLD5, .FOLD6, .FOLD7, .FOLD8, .FOLD9, .FOLD10, .FOLD11, .FOLD12, .FOLD13]
        (o % 0x40) ((o - 0x10000) / 0x40)
  else if o < 0x20000 then none
  else some (.reg .FOLD_RANK ((o - 0x20000) / 4))

def insPlace (o : Nat) : Option Place :=
  if o < 0x40000 then
    let k := o % 0x100 / 4
    if k = 7 || 14 ≤ k then some .zero
    else
      regRow [.INS0, .INS1, .INS2, .INS3, .INS4, .INS5, .INS6, .INS6, .INS8, .INS9, .INS10, .INS11, .INS12, .INS13] (o % 0x100) (o / 0x100)
  else if o < 0x100000 then none
  else if o < 0x200000 then
    regRow [.INS_POOL_TRK, .INS_POOL_HOLD, .INS_POOL_CELLS, .INS_POOL_DIR, .INS_POOL_FOLDS, .INS_CTL] (o - 0x100000) 0
  else regRow [.XLATE0, .XLATE1, .XLATE2, .XLATE3] (o % 16) ((o - 0x200000) / 16)

def brgPlace (o : Nat) : Option Place :=
  if o < 0x100 then regRow [.BRG_CTL, .BRG_LOCK, .BRG_ERR] o 0
  else if o < 0x180 then regRow [.BRG_TILE_STATUS] (o % 16) ((o - 0x100) / 16)
  else if o < 0x1000 then none
  else if o < 0x1400 then regRow [.BRG_PORT_STATUS] (o % 16) ((o - 0x1000) / 16)
  else if o < 0x2000 then none
  else if o % 16 = 12 then some .zero
  else regRow [.MCA0, .MCA1, .MCA2] (o % 16) ((o - 0x2000) / 16)

def fltPlace (o : Nat) : Option Place :=
  if o < 0x400 then
    regRow [.FLT_CTL, .FLT_STATUS, .FLT_SEQ_LO, .FLT_SEQ_HI, .FLT_LOST, .FLT_WIRE, .FLT_FENCE_TILE, .FLT_ERR] o 0
  else if o < 0x800 then some (.reg .FLT_POLICY ((o - 0x400) / 4))
  else if o < 0x10000 then none
  else some (.log ((o - 0x10000) / 0x20) (o % 0x20 / 4))

def pwrPlace (o : Nat) : Option Place :=
  if o < 0x50 then
    regRow [.PWR_CTL, .PWR_STATUS, .PWR_RAIL_CFG, .PWR_WAKE_EN, .PWR_WAKE_BAY_EN, .PWR_WAKE_SOURCE, .PWR_WAKE_SEEN, .PWR_WAKE_RESULT,
      .PWR_TIME_STATUS, .PWR_AOC_LO, .PWR_AOC_HI, .PWR_SAG_CTL, .PWR_SAG_STATUS, .PWR_THERM_CTL, .PWR_THERM_STATUS, .PWR_AVS,
      .PWR_KEEP] o 0
  else some (.reg .PWR_TIMER ((o - 0x50) / 4))

def bayPlace (o : Nat) : Option Place :=
  if o < 0x2000 then
    regRow [.BAY_CFG, .BAY_LIM, .BAY_CTL, .BAY_STATUS, .BAY_MEAS, .BAY_ERR] (o % 0x100) (o / 0x100)
  else if o < 0x10000 then none
  else regRow [.BAY_FEED_CFG, .BAY_FEED_STATUS, .BAY_PRSNT_ALL, .BAY_ALERT_ALL, .BAY_BUS_CFG] (o - 0x10000) 0

/-- A bank of counters: its first offset and its bytes (R582). -/
def cntBanks : List (Nat × Nat) :=
  [(0x100000, 64 * 0x100), (0x200000, 8 * 0x200), (0x300000, 30 * 8), (0x400000, 64 * 0x100), (0x500000, 1024 * 0x10),
    (0x600000, 32 * 0x80)]

/-- The bank that holds a live offset. -/
def cntBank (o : Nat) : Option Nat := cntBanks.findIdx? fun b => decide (b.1 ≤ o) && decide (o < b.1 + b.2)

/-- The key of a counter or capture at a live offset. -/
def cntKey (o : Nat) : Nat := (0x0B000000 + o) / 8

/-- The captures of a snapshot lie below the banks; a shadow lies 0x80_0000 above its counter. -/
def cntPlace (o : Nat) : Option Place :=
  let hi := o % 8 == 4
  if o < 0x1000 then
    regRow [.CNT_CTL, .CNT_SNAP_COUNT, .CNT_SNAP_FTC_LO, .CNT_SNAP_FTC_HI, .CNT_SNAP_AOC_LO, .CNT_SNAP_AOC_HI, .CNT_OVF_SUM] o 0
  else if (0x1000 ≤ o && o < 0x1040) || (0x2000 ≤ o && o < 0x2200) then some (.shad (cntKey o) hi)
  else if (cntBank o).isSome then some (.live (cntKey o) hi)
  else if 0x800000 ≤ o && (cntBank (o - 0x800000)).isSome then some (.shad (cntKey (o - 0x800000)) hi)
  else none

def carPlace (o : Nat) : Option Place :=
  regRow [.CAR_CFG, .CAR_CTL, .CAR_STATUS, .CAR_ERR, .CAR_RX_BURST, .CAR_RX_SEQ, .CAR_RX_OFF, .CAR_OUTQ] o 0

def mgtPlace (o : Nat) : Option Place :=
  if o < 0x1000 then
    regRow [.MGT_FW_STATUS, .MGT_FW_VERSION, .MGT_BOOT, .MGT_BG, .MGT_XPORT, .MGT_PARAM, .MGT_ERR] o 0
  else if o < 0x1100 then regRow [.MGT_MBX_SUM, .MGT_MBX_SW, .MGT_MBX_HOST_LO, .MGT_MBX_HOST_HI] (o - 0x1000) 0
  else if o < 0x1180 then some (.reg .MGT_MBX_TEN ((o - 0x1100) / 4))
  else if o < 0x1200 then none
  else regRow [.MGT_MCTP_STATUS, .MGT_CMD_STATUS] (o - 0x1200) 0

/-- The mapped word at an address, if it is one (R596). -/
def place (a : Nat) : Option Place :=
  if a % 4 ≠ 0 then none
  else match csrBlock a with
    | none => none
    | some b =>
      let o := a % 2 ^ 24
      match b with
      | 0 => glbPlace o | 1 => prtPlace o | 2 => tilPlace o | 3 => dirPlace o | 4 => schPlace o | 5 => bldPlace o
      | 6 => insPlace o | 7 => brgPlace o | 8 => fltPlace o | 9 => pwrPlace o | 10 => bayPlace o | 11 => cntPlace o
      | 12 => carPlace o | 13 => mgtPlace o | 15 => some (.tst o) | _ => none

end Sys2Proof.Machine
end

