-- ==== Sys2Proof/Machine/View.lean ====
section
/-!
DEFINITION. What a read of the CSR space shows (R6, R9): a field that follows other state is computed from that state; every
other field shows its stored value.
-/

namespace Sys2Proof.Machine

/-- A pool's reserved share in 1/4,096 parts of its size (R390). -/
def poolShare (used size : Nat) : Nat := min (used * 4096 / size) 4095

/-- A mask of the banks in which a live counter has OVF set (R592). -/
def Dev.ovfBanks (d : Dev) : Nat :=
  (List.range 6).foldl (fun a b =>
    if d.cnt.any (fun x => decide (2 ^ 48 ≤ x.2) && decide (cntBank (x.1 * 8 - 0x0B000000) = some b)) then a + 2 ^ b else a) 0

/-- The number of a flag. -/
def b01 (b : Bool) : Nat := if b then 1 else 0

/-- The fields of a register word that follow other state, with what they show.
DESIGN CHOICE, unsafe: log entry 4. DESIGN CHOICE, unsafe: log entry 48. DEDUCED, unsafe: log entry 63. -/
def Dev.shown (d : Dev) (r : Reg) (i : Nat) : List (Fld × Nat) :=
  match r with
  | .PRT_STATUS =>
    if d.isIl i then [(F.PRT_STATUS.RATE, 6), (F.PRT_STATUS.FLIT, 2), (F.PRT_STATUS.IDE_ACTIVE, 0)] else []
  | .PRT_IL_SEQ => [(F.PRT_IL_SEQ.TX_NEXT, (d.ilRt i).txNext.toNat), (F.PRT_IL_SEQ.RX_EXPECTED, (d.ilRt i).rxExp.toNat)]
  | .PRT_IL_BUF => [(F.PRT_IL_BUF.REPLAY_OCC, (d.ilRt i).replay.length), (F.PRT_IL_BUF.REORDER_OCC, (d.ilRt i).rob.length)]
  | .TIL_BUF_STATUS => [(F.TIL_BUF_STATUS.FREE, d.freeCells i)]
  | .TIL_AUX_STATUS1 =>
    [(F.TIL_AUX_STATUS1.AUX_FREE,
      d.get F.TIL_AUX_CFG.SIZE i * 256 - (d.auxUsed i .straggler + d.auxUsed i .blend + d.auxUsed i .telemetry))]
  | .QUEUE3 => [(F.QUEUE.TOKENS, (d.queue i).word3)]
  | .QUEUE4 => [(F.QUEUE.DEPTH_CELLS, (d.queue i).cells)]
  | .QUEUE5 => [(F.QUEUE.DEPTH_MSGS, (d.queue i).msgs.length)]
  | .QUEUE6 => [(F.QUEUE.START_TAG, (d.queue i).start.toNat)]
  | .QUEUE8 =>
    [(F.QUEUE.NONEMPTY, b01 (!(d.queue i).msgs.isEmpty)), (F.QUEUE.ELIGIBLE, b01 (d.eligible i)), (F.QUEUE.HOLD, d.qHold i)]
  | .POL5 | .POL6 | .POL7 =>
    let x := d.pol i
    [(F.POL.TC, x.tc / 256), (F.POL.TP, x.tp / 256), (F.POL.HOLD_OCC, x.hold.length)]
  | .SCH_PORT_CFG => if d.isIl i then [] else [(F.SCH_PORT_CFG.TRANSIT_POL, 0), (F.SCH_PORT_CFG.TRANSIT_EN, 0)]
  | .SCH_GATE_CTL => [(F.SCH_GATE_CTL.PENDING, b01 (d.sw.gates.get none i).isSome)]
  | .DIR_STATUS0 => [(F.DIR_STATUS0.ENTRIES, d.coh.dir.countP fun x => x.1 / 16 / 2 ^ 18 == i && x.2.valid)]
  | .DIR_STATUS1 =>
    let s := d.slice i
    [(F.DIR_STATUS1.TRK_BUSY, s.trks.length), (F.DIR_STATUS1.WAYBILLS, s.parked.length + s.p.length),
      (F.DIR_STATUS1.WB_SLOTS, s.wbs.length)]
  | .DIR_PF_STATUS => [(F.DIR_PF_STATUS.BUF_USED, (d.slice i).pf.length), (F.DIR_PF_STATUS.HINTS, (d.slice i).hints.length)]
  | .BLD_TILE_STATUS =>
    let fs := (List.range 64).map fun k => i * 64 + k
    [(F.BLD_TILE_STATUS.OPEN_FOLDS, fs.countP fun f => d.get F.FOLD.STATE f != 0),
      (F.BLD_TILE_STATUS.HOLDING, b01 (fs.any fun f => d.get F.FOLD.STATE f == 1 && !(d.foldRt f).held.isEmpty))]
  | .FOLD12 => [(F.FOLD.STAGED, (d.foldRt i).staged.length), (F.FOLD.CELLS, (d.foldRt i).cells)]
  | .INS_POOL_TRK => [(F.INS_POOL_TRK.USED, poolShare d.reserved.trk (d.get F.INS_POOL_TRK.SIZE))]
  | .INS_POOL_HOLD => [(F.INS_POOL_HOLD.USED, poolShare d.reserved.hold (d.get F.INS_POOL_HOLD.SIZE))]
  | .INS_POOL_CELLS => [(F.INS_POOL_CELLS.USED, poolShare d.reserved.cells (d.get F.INS_POOL_CELLS.SIZE))]
  | .INS_POOL_DIR => [(F.INS_POOL_DIR.USED, poolShare d.reserved.dir (d.get F.INS_POOL_DIR.SIZE * 16))]
  | .INS_POOL_FOLDS => [(F.INS_POOL_FOLDS.USED, poolShare d.reserved.folds (d.get F.INS_POOL_FOLDS.SIZE))]
  | .BRG_TILE_STATUS => [(F.BRG_TILE_STATUS.CPL_TRK, d.brg.trks.countP fun k => k.tile.val == i)]
  | .BRG_PORT_STATUS =>
    let p := d.prt i
    [(F.BRG_PORT_STATUS.SIDE_NP, p.sideNp.length), (F.BRG_PORT_STATUS.SIDE_CPL, p.sideCpl.length),
      (F.BRG_PORT_STATUS.EVT_PEND, min p.events.length 32), (F.BRG_PORT_STATUS.INTX, p.wires.toNat)]
  | .MGT_FW_VERSION =>
    [(F.MGT_FW_VERSION.VERSION, if 2 ≤ d.get F.MGT_FW_STATUS.STATE then ((d.runSlot.map fun k => (d.mgt.img k).version.toNat)).getD 0 else 0)]
  | .MGT_BOOT =>
    let m := d.mgt
    [(F.MGT_BOOT.ACTIVE_SLOT, m.boot.active.val), (F.MGT_BOOT.NEXT_VALID, b01 m.boot.next.isSome),
      (F.MGT_BOOT.NEXT_SLOT, (m.boot.next.map (·.val)).getD 0), (F.MGT_BOOT.A_VALID, b01 m.imgA.valid),
      (F.MGT_BOOT.B_VALID, b01 m.imgB.valid), (F.MGT_BOOT.SVN_MIN, m.svnMin), (F.MGT_BOOT.FUSE_LEFT, m.fuses)]
  | .MGT_BG => [(F.MGT_BG.RUNNING, d.mgt.running.length), (F.MGT_BG.RESULTS, d.mgt.results.length)]
  | .MGT_XPORT => [(F.MGT_XPORT.BMC_I3C, b01 d.mgt.i3cAddr.isSome)]
  | .MGT_MBX_SUM =>
    let sw := d.bit F.MGT_MBX_SW.BELL_0 || d.bit F.MGT_MBX_SW.BELL_1 || d.bit F.MGT_MBX_SW.BELL_2 || d.bit F.MGT_MBX_SW.BELL_3
    [(F.MGT_MBX_SUM.SW, b01 sw), (F.MGT_MBX_SUM.HOST, b01 (d.get F.MGT_MBX_HOST.BELL != 0)),
      (F.MGT_MBX_SUM.TENANT, b01 ((List.range 32).any fun w => d.get F.MGT_MBX_TEN.BELL w != 0)),
      (F.MGT_MBX_SUM.MCTP, b01 (!d.mgt.inbox.isEmpty))]
  | .MGT_MCTP_STATUS =>
    let bmc := d.mgt.inbox.countP fun x => match x.1 with
      | .bmcMctp _ => true
      | _ => false
    [(F.MGT_MCTP_STATUS.ASM, d.mgt.asm.length), (F.MGT_MCTP_STATUS.BMC_PEND, b01 (bmc != 0)),
      (F.MGT_MCTP_STATUS.VDM_PEND, b01 (bmc != d.mgt.inbox.length))]
  | .CAR_RX_BURST =>
    (match d.car.rx with
      | some b => [(F.CAR_RX_BURST.STREAM, b.head.stream.toNat), (F.CAR_RX_BURST.OPEN, 1), (F.CAR_RX_BURST.STALLED, b01 b.stalled),
                   (F.CAR_RX_BURST.BROKEN, b01 b.broken)]
      | none => [])
  | .CAR_RX_SEQ => [(F.CAR_RX_SEQ.SEQ, ((d.car.rx.map fun b => b.head.seq.toNat)).getD 0)]
  | .CAR_RX_OFF => [(F.CAR_RX_OFF.RECEIVED, ((d.car.rx.map fun b => b.bytes.length)).getD 0)]
  | .CAR_OUTQ => [(F.CAR_OUTQ.FAULT_Q, d.flt.faultQ.length), (F.CAR_OUTQ.RECLAIM_Q, d.flt.reclQ.length)]
  | .FLT_SEQ_LO | .FLT_SEQ_HI => [(F.FLT_SEQ.SEQ, d.flt.seq.toNat)]
  | .PWR_AOC_LO | .PWR_AOC_HI => [(F.PWR_AOC.AOC, d.clk.aoc.toNat)]
  | .PWR_AVS => [(F.PWR_AVS.VID, Config.vid)]
  | .CNT_OVF_SUM => [(F.CNT_OVF_SUM.BANKS, d.ovfBanks)]
  | .GLB_CAP0 => [(F.GLB_CAP0.GRADE, Config.grade.toNat)]
  | .GLB_STRAP =>
    [(F.GLB_STRAP.XTAL_BYP, b01 (d.pwr.straps.getLsbD 5)), (F.GLB_STRAP.TEST_EN, b01 d.pwr.testEn)]
  | .GLB_MODE =>
    [(F.GLB_MODE.MODE, d.mode.code), (F.GLB_MODE.BUSY, b01 d.pwr.trans.isSome),
      (F.GLB_MODE.TARGET, ((d.pwr.trans.map (·.target))).getD 7)]
  | .GLB_MODE_FTC_LO | .GLB_MODE_FTC_HI => [(F.GLB_MODE_FTC.FTC, d.pwr.modeFtc.toNat)]
  | .GLB_FTC_LO | .GLB_FTC_HI => [(F.GLB_FTC.FTC, d.clk.ftc.toNat)]
  | .GLB_CLK_STATUS => [(F.GLB_CLK_STATUS.REF_PRESENT, (~~~ d.pwr.refLost).toNat)]
  | .GLB_GPIO_IN => [(F.GLB_GPIO_IN.IN, (Config.free d.freeCtr).toNat)]
  | .GLB_CLAIM_AUX =>
    let t := i / 4
    let f := i % 4
    let floor := if f = 0 then d.get F.TIL_AUX_CFG.STRAG_FLOOR t else if f = 1 then d.get F.TIL_AUX_CFG.BLEND_FLOOR t
      else d.get F.TIL_AUX_CFG.TELEM_FLOOR t
    [(F.GLB_CLAIM_AUX.FUNC, if floor = 0 then 0 else 0x300 + f)]
  | _ => []

/-- What a field shows. -/
def Dev.viewFld (d : Dev) (l : List (Fld × Nat)) (f : Fld) (i : Nat) : Nat :=
  match l.find? fun x => decide (x.1 = f) with
  | some x => x.2
  | none => d.val f i

/-- The interlink registers, which read 0 on a port of another personality (R154). -/
def Reg.interlink (r : Reg) : Bool :=
  match r with
  | .PRT_IL_CFG | .PRT_IL_PEER | .PRT_IL_VCPOOL0 | .PRT_IL_VCPOOL1 | .PRT_IL_VCPOOL2 | .PRT_IL_STATUS | .PRT_IL_SEQ
  | .PRT_IL_BUF | .PRT_IL_ERR => true
  | _ => false

/-- A register word as a read shows it. DEDUCED, unsafe: log entry 25. -/
def Dev.view (d : Dev) (r : Reg) (i : Nat := 0) : Nat :=
  if r.interlink && !d.isIl i then 0 else
  match r with
  | .INS9 => d.insWord i 9
  | .INS10 => d.insWord i 10
  | .INS11 => d.insWord i 11
  | .TIL_VPPB => d.vppbWord i
  | .BRG_LOCK => d.lockWord
  | .FLT_STATUS => d.fltStatus
  | .FLT_WIRE => d.fltWire
  | .DIR_CTL => d.word .DIR_CTL 0
  | .DIR_RECOV_CTL => d.word .DIR_RECOV_CTL 0
  | r =>
    let l := d.shown r i
    r.layout.foldl (fun a x => a + d.viewFld l x.fld i / 2 ^ x.src % 2 ^ x.w * 2 ^ x.lo) 0

/-- Half of a 48-bit counter with its OVF bit (R583), or of another captured value. -/
def cntHalf (v : Nat) (hi : Bool) : Nat :=
  if hi then v / 2 ^ 32 % 2 ^ 16 + v / 2 ^ 48 % 2 * 2 ^ 31 else v % 2 ^ 32

/-- What a read of a mapped word shows. -/
def Dev.viewPlace (d : Dev) (x : Place) : Nat :=
  match x with
  | .reg r i => d.view r i
  | .zero => 0
  | .live k hi => cntHalf (d.cnt.get 0 k) hi
  | .shad k hi =>
    if k < cPort 0 0 then (if hi then d.shadow.get 0 k / 2 ^ 32 else d.shadow.get 0 k % 2 ^ 32) else cntHalf (d.shadow.get 0 k) hi
  | .log s w =>
    (match d.flt.log.get none s with
      | some r => le r.bytes (w * 4) 4
      | none => 0)
  | .hist k => d.sw.hist.get 0 k
  -- R11; in Factory Test a free value: no chapter gives the block's registers. DESIGN CHOICE, safe: log entry 3
  | .tst _ => if d.mode = .factory then (Config.free d.freeCtr).toNat % 2 ^ 32 else 0

/-- A read clears a field of type RC (R9). -/
def Dev.readClear (d : Dev) (x : Place) : Dev :=
  match x with
  | .reg .QUEUE7 i => d.put F.QUEUE.PEAK_CELLS i 0
  | .reg .FLT_LOST _ => d.put F.FLT_LOST.LOST 0 0
  | .reg .GLB_GPIO_IN _ => d.fresh.2
  | .tst _ => if d.mode = .factory then d.fresh.2 else d
  | _ => d

/-- One CSR read: the word and the device after it. -/
def Dev.csrRead (d : Dev) (x : Place) : Nat × Dev := (d.viewPlace x, d.readClear x)

end Sys2Proof.Machine
end

