-- ==== Sys2Proof/Machine/PortCmds.lean ====
section
/-!
DEFINITION. The commands of group 0xC100 (R455 to R457).
-/

namespace Sys2Proof.Machine

def portCmd (opcode : Nat) : Cmd := { opcode := opcode, may := fun p _ _ => fmOnly p, modes := liveModes }

/-- A value with a reserved bit set (R8). -/
def reserved1 (v mask : Nat) : Bool := (v ||| mask) != mask

/-- The port is down or disabled. -/
def Dev.portIdle (d : Dev) (p : Nat) : Bool := !(d.prt p).up || !d.enabled p

/-- The mode lets a change of personality, role or edge ID pass. -/
def Dev.cfgMode (d : Dev) : Bool := d.mode == .bringUp || d.mode == .quiesce

/-- A change of PERSONALITY or ROLE (R105). -/
def Dev.personaChange (d : Dev) (p v : Nat) : Bool :=
  v % 4 != d.get F.PRT_CFG.PERSONALITY p || v / 4 % 4 != d.get F.PRT_CFG.ROLE p

/-- R105: an accepted change applies at once. A running layover window ends as one of 0 (R194); the port is reset and
trains anew, an interlink from DOWN; any other port has no transit binding (R252). -/
def Dev.personaSet (d : Dev) (p v : Nat) : Dev :=
  let d := (d.endLayover p).portReset p
  let d := if v % 4 = 2 then d else d.bindTransit p 0 false
  let d := (d.put F.PRT_CFG.PERSONALITY p (v % 4)).put F.PRT_CFG.ROLE p (v / 4 % 4)
  d.setIl p IlRt.reset

/-- The PRT_CFG image: WIDTH and MGMT_FN keep the values in force until the next Bring-up (R83, R87).
DEDUCED, unsafe: log entry 13. -/
def Dev.cfgImage (d : Dev) (p v : Nat) : Dev :=
  let d := if d.personaChange p v then d.personaSet p v else d
  let w := d.get F.PRT_CFG.WIDTH p
  let m := d.get F.PRT_CFG.MGMT_FN p
  ((d.putWord .PRT_CFG p v).put F.PRT_CFG.WIDTH p w).put F.PRT_CFG.MGMT_FN p m

/-- PRT_L0P values that R112 does not accept. -/
def l0pBad (v : Nat) : Bool := decide (v / 2 ^ 12 % 2 ^ 7 ≤ v / 2 ^ 4 % 2 ^ 7) || v / 2 ^ 20 % 2 ^ 8 == 0

/-- An image, selected or not, has a reserved bit set (R8), or a selected PRT_L0P image breaks R99.
DEDUCED, unsafe: log entry 46. -/
def portImagesBad (mask : Nat) (img : Nat → Nat) : Bool :=
  ([Reg.PRT_CFG, .PRT_L0P, .PRT_IDE, .TIL_PCFG, .PRT_IL_CFG, .PRT_IL_PEER, .PRT_IL_VCPOOL0, .PRT_IL_VCPOOL1, .PRT_IL_VCPOOL2].zipIdx.any
    fun x => reserved1 (img x.2) (if x.2 = 2 then 3 else Reg.mask x.1)) || (mask.testBit 1 && l0pBad (img 1))

/-- R456: apply the selected images. -/
def Dev.portImages (d : Dev) (p mask : Nat) (img : Nat → Nat) : Dev :=
  let put (k : Nat) (r : Reg) (d : Dev) : Dev := if mask.testBit (min k 6) then d.putWord r p (img k) else d
  let d := if mask.testBit 0 then d.cfgImage p (img 0) else d
  let d := put 1 .PRT_L0P d
  let d := if mask.testBit 2 then (d.put F.PRT_IDE.REQUIRED p (img 2)).put F.PRT_IDE.CONTAINMENT p (img 2 / 2) else d
  put 8 .PRT_IL_VCPOOL2 (put 7 .PRT_IL_VCPOOL1 (put 6 .PRT_IL_VCPOOL0 (put 5 .PRT_IL_PEER (put 4 .PRT_IL_CFG (put 3 .TIL_PCFG d)))))

/-- The staged words of the selected images (R450). -/
def portStage (p mask : Nat) (img : Nat → Nat) : List Stg :=
  let b := 0x1000 + p * 16
  let one (k id : Nat) : List Stg := if mask.testBit k then [⟨b + id, 0, img k⟩] else []
  one 0 0 ++ one 1 1 ++ one 2 2 ++ one 3 3 ++ one 4 5 ++ one 5 6 ++
    (if mask.testBit 6 then [⟨b + 7, 0, img 6⟩, ⟨b + 7, 1, img 7⟩, ⟨b + 7, 2, img 8⟩] else [])

/-- A changed WIDTH or MGMT_FN of a PRT_CFG word is stored among the persistent parameters (R87). -/
def Dev.widthStore (d : Dev) (p v : Nat) : Dev :=
  let w := v / 16 % 8
  let m := v / 2 ^ 19 % 2
  if w != d.get F.PRT_CFG.WIDTH p || m != d.get F.PRT_CFG.MGMT_FN p then
    let m := d.mgt.storeWidth p w m
    ({ d with mgt := m } : Dev).put F.MGT_PARAM.GEN 0 ((m.bestBank.map fun x => x.2.gen.toNat).getD 0)
  else d

/-- PORT_CONFIG (R456). -/
def execPortConfig (r : FoernReq) (s : State) : Host.Outcome State Fault Refusal :=
  s.upd (s.dev.onDie fun d => d.foern r (portCmd 0xC100) fun h pay d =>
    let p := h.sel.toNat
    let mask := le pay 0 4
    let img (k : Nat) := le pay (4 + 4 * k) 4
    if decide (pay.length ≠ 40) || decide (p ≥ 64) || decide (mask ≥ 128) || portImagesBad mask img then .fail .invalidParam
    else
      let chg := mask.testBit 0 && d.personaChange p (img 0)
      let edge := mask.testBit 3 && (img 3) % 8192 != d.word .TIL_PCFG p % 8192
      if chg && !d.cfgMode then .fail .wrongMode
      else if chg && !d.portIdle p then .fail .stateMismatch
      else if edge && !d.cfgMode && !d.portIdle p then .fail .stateMismatch
      else
        let d := d.portImages p mask img
        .done (if mask.testBit 0 then d.widthStore p (img 0) else d) (portStage p mask img))

/-- What clears an error word under a mask. -/
def clearMask (v mask : Nat) : Nat := v - (v &&& mask)

/-- The time left of a running layover window is a free value within the window. DESIGN CHOICE, safe: log entry 16. -/
def Dev.layoverLeft (d : Dev) (p : Nat) : Nat × Dev :=
  if (d.prt p).layover then
    let (k, d1) := d.fresh
    ((Config.free k).toNat % (d.window p + 1), d1)
  else (0xFFFFFFFF, d)

/-- Who may issue PORT_STATUS: a Host principal for its own port, and a monitor origin, both with a clear mask of 0. -/
def portStatusMay (p : Principal) (pay : List (BitVec 8)) (sel : BitVec 16) : Bool :=
  match p with
  | .fm | .factory => true
  | .host h => sel.toNat == h.val && le pay 0 4 == 0
  | .monitor => le pay 0 4 == 0
  | .tenant _ => false

/-- PORT_STATUS (R455). -/
def execPortStatus (r : FoernReq) (s : State) : Host.Outcome State Fault Refusal :=
  s.upd (s.dev.onDie fun d => d.foern r { opcode := 0xC101, may := portStatusMay, modes := dieModes } fun h pay d =>
    let p := h.sel.toNat
    let m := le pay 0 4
    if decide (pay.length ≠ 4) || decide (p ≥ 64) || reserved1 m 0x7F003F then .fail .invalidParam
    else
      let (left, d) := d.layoverLeft p
      let v (x : Reg) := bytes 4 (d.view x p)
      let out := v .PRT_CFG ++ v .PRT_STATUS ++ v .PRT_DOWN_INFO ++ v .PRT_LANE ++ v .PRT_ERR ++ v .PRT_PARTNER_ID_LO ++
        v .PRT_PARTNER_ID_HI ++ bytes 4 left ++ v .PRT_IL_STATUS ++ v .PRT_IL_SEQ ++ v .PRT_IL_BUF ++ v .PRT_IL_ERR
      let d := d.putWord .PRT_ERR p (clearMask (d.word .PRT_ERR p) (m % 2 ^ 16))
      .ok out (d.putWord .PRT_IL_ERR p (clearMask (d.word .PRT_IL_ERR p) (m / 2 ^ 16))) [])

/-- The parameters of LINK_RETRAIN that R457 does not accept. -/
def Dev.retrainBad (d : Dev) (p width rate : Nat) : Bool :=
  if d.isIl p then !(width == 0 || (decide (3 ≤ width) && decide (width ≤ 5)))
  else width != 0 || (rate != 7 && decide (d.topRate p < rate))

/-- LINK_RETRAIN (R457). DEDUCED, unsafe: log entry 15. -/
def execLinkRetrain (r : FoernReq) (s : State) : Host.Outcome State Fault Refusal :=
  s.upd (s.dev.onDie fun d => d.foern r (portCmd 0xC102) fun h pay d =>
    let p := h.sel.toNat
    let w := le pay 0 1
    let rate := le pay 1 1
    if decide (pay.length ≠ 4) || decide (p ≥ 64) || le pay 2 2 != 0 || d.retrainBad p w rate then .fail .invalidParam
    else if d.portIdle p then .fail .stateMismatch
    else if d.isIl p && decide (d.get F.PRT_IL_STATUS.STATE p = 6) then .fail .busyBackground
    else
      let rate := if rate = 7 then d.get F.PRT_STATUS.RATE p else rate
      let reason := if w ≠ 0 && d.ilWidth p w ≠ d.get F.PRT_STATUS.WIDTH_NOW p then 4 else 1
      .done (d.retrainPort p reason w (some (BitVec.ofNat 3 rate))))

/-- SET_LAYOVER (R457). -/
def execSetLayover (r : FoernReq) (s : State) : Host.Outcome State Fault Refusal :=
  s.upd (s.dev.onDie fun d => d.foern r (portCmd 0xC103) fun h pay d =>
    let p := h.sel.toNat
    let v := le pay 0 4
    if decide (pay.length ≠ 4) || decide (p ≥ 64) || decide (v > 1000000) then .fail .invalidParam
    else
      let d := d.put F.PRT_LAYOVER.WINDOW_US p v
      .done d (d.stageNow (0x1000 + p * 16 + 4) [0]))

end Sys2Proof.Machine
end

