-- ==== Sys2Proof/Machine/Caravan.lean ====
section
/-!
DEFINITION. The Caravan port (chapter 13): its output bursts (R470 to R477), its input bursts (R478 to R481) and the commands
of group 0xCB00 (R486, R487).
-/

namespace Sys2Proof.Machine

/-- A Caravan fault (R483): its error bit, and the stream, cause and burst sequence in its address.
DEDUCED, unsafe: log entry 54. -/
def Dev.carFault (d : Dev) (k : Kind) (bit : Fld) (stream cause seq : Nat) : Dev :=
  (d.set bit).raise k (uDev 0x05) 0 (stream + cause * 256 + seq * 4096)

/-! ### Output: what a burst carries (R473, R474) -/

/-- A reclaim report record (R324, R474). -/
def reclBytes (r : Recl) (seq : BitVec 40) : List (BitVec 8) :=
  bytes 1 r.ty ++ bytes 1 r.b1 ++ bytes 2 (match r.inst with | some i => i.val + 2 ^ 15 | none => 0) ++ bytes 4 r.lines ++
    bytes 8 r.addr.toNat ++ bytes 5 seq.toNat ++ bytes 2 r.src.toNat ++ bytes 1 0

/-- The telemetry records that fit one burst: of one kind, 4,032 bytes together, at least one. -/
def telFit (kind : Nat) : Nat → List TelRec → List TelRec
  | _, [] => []
  | room, x :: l => if x.kind = kind && decide (x.bytes.length ≤ room) then x :: telFit kind (room - x.bytes.length) l else []

/-- The first telemetry record with those that follow it in its burst. DEDUCED, unsafe: log entry 23. -/
def telBurst : List TelRec → List TelRec
  | [] => []
  | x :: l => x :: telFit x.kind (4032 - x.bytes.length) l

/-- A directory dump item (R294): slice, set and row. -/
def Dev.dumpItem (d : Dev) (n : Nat) : List (BitVec 8) :=
  bytes 4 (n / 2 ^ 18) ++ bytes 4 (n % 2 ^ 18) ++ d.setRow (n / 2 ^ 18) (n % 2 ^ 18)

/-! ### Output: choosing and starting a burst (R475) -/

/-- Whether a stream has a burst ready. Streams 1 to 3 are ready when their burst is closed: the next record would not fit,
or tCAR_FLUSH has expired. -/
def Dev.carReady (d : Dev) (stream : Nat) : Bool :=
  (d.get F.CAR_CFG.STREAM_EN).testBit (stream - 1) && match stream with
    | 1 => !d.car.tel.isEmpty && (d.car.flush.contains 1 || decide ((telBurst d.car.tel).length < d.car.tel.length))
    | 2 => !d.flt.faultQ.isEmpty && (d.car.flush.contains 2 || decide (126 < d.flt.faultQ.length))
    | 3 => !d.flt.reclQ.isEmpty && (d.car.flush.contains 3 || decide (168 < d.flt.reclQ.length))
    | 4 => (match d.car.dump with
        | some (n, last) => decide (n ≤ last)
        | none => false)
    | _ => !d.car.blobs.isEmpty

/-- The stream whose burst goes next. -/
def Dev.carNext (d : Dev) : Option Nat := [2, 3, 5, 4, 1].find? d.carReady

/-- The new burst of a stream with its kind and bytes: its header takes the stream's next burst sequence and the FTC. -/
def Dev.newBurst (d : Dev) (stream kind : Nat) (b : List (BitVec 8)) : OutBurst :=
  { head := { stream := BitVec.ofNat 8 stream, cont := false, kind := BitVec.ofNat 8 kind, version := 1,
              seq := BitVec.ofNat 32 (d.car.seqs.get 0 stream), off := 0, total := BitVec.ofNat 32 b.length,
              node := BitVec.ofNat 16 (d.get F.GLB_NODE.NODE_ID), ftc := d.clk.ftc, crc := crc32 b },
    bytes := b, sent := 0, headDue := true, faults := [], recls := [], tels := [] }

/-- The burst becomes the one being sent; its stream is no longer flushed. -/
def Dev.openBurst (d : Dev) (stream : Nat) (b : OutBurst) : Dev :=
  { d with car := { d.car with
      cur := some b
      seqs := d.car.seqs.modify 0 stream fun n => (n + 1) % 2 ^ 32
      flush := d.car.flush.filter (· != stream) } }

/-- Start the burst of a stream: its records leave their queue, which is then no longer full. -/
def Dev.carStart (d : Dev) (stream : Nat) : Dev :=
  match stream with
  | 1 =>
    let l := telBurst d.car.tel
    let b := d.newBurst 1 ((l.map (·.kind)).headD 1) (l.flatMap (·.bytes))
    ({ d with car := { d.car with tel := d.car.tel.drop l.length } }).openBurst 1 { b with tels := l }
  | 2 =>
    let l := d.flt.faultQ.take 126
    let b := d.newBurst 2 1 (l.flatMap Rec.bytes)
    ({ d with flt := { d.flt with faultQ := d.flt.faultQ.drop 126, qFull := d.flt.qFull.filter (· != 2) } }).openBurst 2
      { b with faults := l }
  | 3 =>
    let l := d.flt.reclQ.take 168
    let b := d.newBurst 3 1 (l.flatMap fun x => reclBytes x.1 x.2)
    ({ d with flt := { d.flt with reclQ := d.flt.reclQ.drop 168, qFull := d.flt.qFull.filter (· != 3) } }).openBurst 3
      { b with recls := l }
  | 4 =>
    (match d.car.dump with
      | some (n, last) =>
        let k := min 15 (last + 1 - n)
        let b := d.newBurst 4 1 ((List.range k).flatMap fun j => d.dumpItem (n + j))
        ({ d with car := { d.car with dump := some (n + k, last) } }).openBurst 4 b
      | none => d)
  | _ =>
    (match d.car.blobs with
      | (_, x) :: l => ({ d with car := { d.car with blobs := l } }).openBurst 5 (d.newBurst 5 1 x)
      | [] => d)

/-! ### Output: ending a burst (R476) -/

/-- The cells of telemetry records return to the auxiliary partition. -/
def Dev.telFree (d : Dev) (l : List TelRec) : Dev := l.foldl (fun d x => d.auxFree x.tile.val .telemetry x.cells) d

/-- Abandon the burst being sent. -/
def Dev.carDrop (d : Dev) : Dev :=
  match d.car.cur with
  | none => d
  | some b =>
    let d := ({ d with car := { d.car with cur := none } }).carFault .carAbandon F.CAR_ERR.ABANDON b.head.stream.toNat 4 b.head.seq.toNat
    let d := { d with flt := { d.flt with faultQ := b.faults ++ d.flt.faultQ, reclQ := b.recls ++ d.flt.reclQ } }
    let d := b.tels.foldl (fun d x => d.telDrop x.tile.val (x.tile.val * 8)) (d.telFree b.tels)
    if b.head.stream = 4 then ({ d with car := { d.car with dump := none } }).bgAbort 0xC408 0 else d

/-- A block of a burst goes out: it takes a credit and is counted. -/
def Dev.carBlock (d : Dev) (x : CarBlk) : Dev :=
  let d := (d.put F.CAR_STATUS.TX_CREDIT 0 (d.get F.CAR_STATUS.TX_CREDIT - 1)).count (cDev 11)
  { d with car := { d.car with tx := x.bytes } }

/-- Send the next block of the open burst: a HEAD where one is due, a continuation after the first, else up to 60 bytes. -/
def Dev.carSend (d : Dev) (paused : Bool) : Dev :=
  match d.car.cur with
  | none => d
  | some b =>
    if b.headDue || (paused && b.head.cont) then
      let h := { b.head with off := BitVec.ofNat 32 b.sent }
      let b := { b with head := { b.head with cont := true }, headDue := false }
      ({ d with car := { d.car with cur := some b } }).carBlock (.head h)
    else
      let n := min 60 (b.bytes.length - b.sent)
      let x := (b.bytes.drop b.sent).take n
      if b.sent + n = b.bytes.length then (({ d with car := { d.car with cur := none } }).telFree b.tels).carBlock (.data x)
      else ({ d with car := { d.car with cur := some { b with sent := b.sent + n } } }).carBlock (.data x)

/-- One block time of the output. `paused`: the open burst's last block went out tSTALL ago or longer.
DEDUCED, unsafe: log entry 53. -/
def execCaravanBlockSend (paused : Bool) (s : State) : Host.Outcome State Fault Refusal :=
  s.upd (s.dev.onDie fun d =>
    if !d.bit F.CAR_CFG.TX_EN then d
    else if d.car.align ≠ 0 then
      let d := if d.car.align = 1 then d.set F.CAR_STATUS.TX_READY else d
      { d with car := { d.car with align := d.car.align - 1, tx := CarBlk.bytes .align } }
    else if d.car.cur.isNone && d.carNext.isNone then { d with car := { d.car with tx := CarBlk.bytes .idle } }
    else if d.get F.CAR_STATUS.TX_CREDIT = 0 then ({ d with car := { d.car with tx := CarBlk.bytes .idle } }).count (cDev 17)
    else if d.car.cur.isSome then d.carSend paused
    else match d.carNext with
      | some n => (d.carStart n).carSend false
      | none => d)

/-- R470, R471. -/
def execCaravanCreditTransition (s : State) : Host.Outcome State Fault Refusal :=
  s.upd (s.dev.onDie fun d => if d.bit F.CAR_STATUS.TX_READY then d.addSat F.CAR_STATUS.TX_CREDIT 0 1 else d)

/-- tCAR_FLUSH after the first record of the open burst of stream 1, 2 or 3. -/
def execCaravanFlushTimeout (stream : Fin 3) (s : State) : Host.Outcome State Fault Refusal :=
  s.upd (s.dev.onDie fun d =>
    let n := stream.val + 1
    let empty := if n = 1 then d.car.tel.isEmpty else if n = 2 then d.flt.faultQ.isEmpty else d.flt.reclQ.isEmpty
    if empty || d.car.flush.contains n then d else { d with car := { d.car with flush := n :: d.car.flush } })

/-- CARAVAN_OUTPUT_ABANDON (R476). -/
def execCaravanOutputAbandon (s : State) : Host.Outcome State Fault Refusal := s.upd (s.dev.onDie Dev.carDrop)

/-- A block has been ready for tCAR_RESYNC with no credit. -/
def execCaravanResyncTimeout (s : State) : Host.Outcome State Fault Refusal :=
  s.upd (s.dev.onDie fun d =>
    if d.bit F.CAR_STATUS.TX_READY && d.get F.CAR_STATUS.TX_CREDIT == 0 && (d.car.cur.isSome || d.carNext.isSome) then
      d.carAlign.set F.CAR_ERR.TX_RESYNC
    else d)

/-- RESYNC, while the output is enabled. -/
def Dev.carResync (d : Dev) : Dev := if d.bit F.CAR_CFG.TX_EN then d.carAlign else d

/-- CAR_CTL_RESYNC (R485). -/
def execCarCtlResync (s : State) : Host.Outcome State Fault Refusal := s.upd (s.dev.onDie Dev.carResync)

/-! ### Input (R478 to R481) -/

/-- The length range of an input stream; none for a stream that takes no HEAD now. -/
def Dev.carRange (d : Dev) (stream : Nat) : Option (Nat × Nat) :=
  if stream = 0x81 then (if d.car.armed then some (1, 7 * 2 ^ 20) else none)
  else if 0x90 ≤ stream && stream ≤ 0x9F then some (368, 1392)
  else none

/-- A HEAD that opens a burst. -/
def Dev.carOpens (d : Dev) (h : BurstHead) : Bool :=
  !h.cont && h.version == 1 && match d.carRange h.stream.toNat with
    | some (lo, hi) => decide (lo ≤ h.total.toNat) && decide (h.total.toNat ≤ hi)
    | none => false

/-- A HEAD that continues the open burst. -/
def carContinues (b : InBurst) (h : BurstHead) : Bool :=
  h.cont && h.stream == b.head.stream && h.seq == b.head.seq && h.total == b.head.total && h.crc == b.head.crc &&
    h.off.toNat == b.bytes.length

/-- The open burst is abandoned: a firmware burst cancels its transfer (R480). -/
def Dev.rxAbandon (d : Dev) (cause : Nat) : Dev :=
  match d.car.rx with
  | none => d
  | some b =>
    let d := ({ d with car := { d.car with rx := none } }).carFault .carAbandon F.CAR_ERR.ABANDON b.head.stream.toNat cause b.head.seq.toNat
    if b.head.stream = 0x81 then d.xferDrop else d

/-- A HEAD that is invalid is dropped, and so are the DATA blocks after it. -/
def Dev.rxInvalid (d : Dev) (h : BurstHead) : Dev :=
  ({ d with car := { d.car with skip := true } }).carFault .carFrame F.CAR_ERR.FRAME h.stream.toNat 4 h.seq.toNat

/-- The open burst, if any, is broken. -/
def Dev.rxBreak (d : Dev) : Dev := { d with car := { d.car with rx := d.car.rx.map fun b => { b with broken := true } } }

/-- The stream and the sequence of the open burst, zeros if none is open. -/
def Dev.rxId (d : Dev) : Nat × Nat := ((d.car.rx.map fun b => (b.head.stream.toNat, b.head.seq.toNat))).getD (0, 0)

/-- A HEAD or DATA block arrives while `free` blocks of the receive buffer are free: it is dropped if there are none (R471). -/
def Dev.rxBlock (d : Dev) (free : Nat) (f : Dev → Dev) : Dev :=
  if !d.bit F.CAR_CFG.RX_EN || !d.bit F.CAR_STATUS.RX_LOCK then d
  else if free = 0 then
    ((d.put F.CAR_STATUS.RX_FREE 0 0).carFault .carOverrun F.CAR_ERR.OVERRUN d.rxId.1 1 d.rxId.2).rxBreak
  else f (d.put F.CAR_STATUS.RX_FREE 0 (free - 1))

/-- A HEAD (R478): it continues the open burst, opens one in place of it, or is invalid. DEDUCED, unsafe: log entry 54. -/
def Dev.rxHead (d : Dev) (h : BurstHead) : Dev :=
  let open_ (d : Dev) : Dev :=
    ({ d with car := { d.car with rx := some { head := h, bytes := [], stalled := false, broken := false }, skip := false } }).count (cDev 12)
  if h.cont then
    match d.car.rx with
    | some b =>
      if carContinues b h then
        (({ d with car := { d.car with rx := some { b with stalled := false, broken := false }, skip := false } }).count (cDev 12)).count (cDev 16)
      else d.rxInvalid h
    | none => d.rxInvalid h
  else if !d.carOpens h then d.rxInvalid h
  else
    let d := d.rxAbandon 2
    if d.carOpens h then open_ d else d.rxInvalid h

/-- CARAVAN_HEAD_RECEIVE (R478). -/
def execCaravanHeadReceive (h : BitVec 256) (free : Fin 129) (s : State) : Host.Outcome State Fault Refusal :=
  s.upd (s.dev.onDie fun d => d.rxBlock free.val fun d => d.rxHead (headOf h))

/-- A complete burst is handled by its stream (R480). -/
def Dev.rxStream (d : Dev) (b : InBurst) : Dev :=
  if b.head.stream = 0x81 then
    let d := { d with car := { d.car with armed := false } }
    match d.mgt.xfer with
    | some x =>
      { d with mgt := { d.mgt with xfer := some { x with total := b.bytes.length, got := b.bytes.length, verifying := true } } }
    | none => d
  else
    let k := b.head.stream.toNat - 0x90
    let d := if (d.car.held.get none k).isSome then d.count (cDev 18) else d
    { d with car := { d.car with held := d.car.held.put none k (some b.bytes) } }

/-- The bytes received reach the total length: the CRC-32 is checked. DEDUCED, unsafe: log entry 54. -/
def Dev.rxDone (d : Dev) (b : InBurst) : Dev :=
  let d := { d with car := { d.car with rx := none } }
  if crc32 b.bytes = b.head.crc then d.rxStream b
  else d.carFault .carFrame F.CAR_ERR.FRAME b.head.stream.toNat 3 b.head.seq.toNat

/-- A DATA block (R478, R479): a burst that is stalled or broken takes none. DEDUCED, unsafe: log entry 54. -/
def Dev.rxData (d : Dev) (x : List (BitVec 8)) : Dev :=
  match d.car.rx with
  | some b =>
    if b.stalled || b.broken || d.car.skip then d.count (cDev 14)
    else
      let b := { b with bytes := b.bytes ++ x }
      let d := ({ d with car := { d.car with rx := some b } }).count (cDev 12)
      if b.head.total.toNat ≤ b.bytes.length then d.rxDone b else d
  | none => d.count (cDev 14)

/-- A DATA block carries 1 to 60 bytes (R468). -/
def execCaravanDataReceive (b : List (BitVec 8)) (free : Fin 129) (s : State) : Host.Outcome State Fault Refusal :=
  if b.length = 0 || 60 < b.length then .fault (.illFormed "CARAVAN_DATA_RECEIVE")
  else s.upd (s.dev.onDie fun d => d.rxBlock free.val fun d => d.rxData b)

/-- R469. `lost`: it is the fourth in a row. DEDUCED, unsafe: log entry 55. -/
def execCaravanBadBlock (lost : Bool) (s : State) : Host.Outcome State Fault Refusal :=
  s.upd (s.dev.onDie fun d =>
    if !d.bit F.CAR_CFG.RX_EN || !d.bit F.CAR_STATUS.RX_LOCK then d
    else
      let (st, q) := d.rxId
      let d := (d.count (cDev 13)).carFault .carFrame F.CAR_ERR.FRAME st 1 q
      if lost then ((d.put F.CAR_STATUS.RX_LOCK 0 0).carFault .carFrame F.CAR_ERR.FRAME st 2 q).rxBreak else d)

/-- CARAVAN_RX_LOCK (R469). DEDUCED, unsafe: log entry 55. -/
def execCaravanRxLock (s : State) : Host.Outcome State Fault Refusal :=
  s.upd (s.dev.onDie fun d => if d.bit F.CAR_CFG.RX_EN then d.set F.CAR_STATUS.RX_LOCK else d)

/-- R471: the whole buffer is returned as credit. -/
def execCaravanAlignEnd (s : State) : Host.Outcome State Fault Refusal :=
  s.upd (s.dev.onDie fun d =>
    if d.bit F.CAR_CFG.RX_EN && d.bit F.CAR_STATUS.RX_LOCK then d.put F.CAR_STATUS.RX_FREE 0 128 else d)

/-- CARAVAN_STALL_TIMEOUT (R479). -/
def execCaravanStallTimeout (s : State) : Host.Outcome State Fault Refusal :=
  s.upd (s.dev.onDie fun d =>
    match d.car.rx with
    | some b =>
      if b.stalled then d else ({ d with car := { d.car with rx := some { b with stalled := true } } }).count (cDev 15)
    | none => d)

/-- CARAVAN_ABANDON_TIMEOUT (R479). -/
def execCaravanAbandonTimeout (s : State) : Host.Outcome State Fault Refusal := s.upd (s.dev.onDie fun d => d.rxAbandon 1)

/-! ### Configuration -/

/-- RX_EN is cleared: an open burst is abandoned (R481). DEDUCED, unsafe: log entry 55. -/
def Dev.rxOff (d : Dev) : Dev :=
  let d := ((d.rxAbandon 3).put F.CAR_STATUS.RX_LOCK 0 0).put F.CAR_STATUS.RX_FREE 0 0
  { d with car := { d.car with skip := false } }

/-- TX_EN is cleared: an open burst is abandoned (R476). DEDUCED, unsafe: log entry 53. -/
def Dev.txOff (d : Dev) : Dev :=
  let d := (d.carDrop.put F.CAR_STATUS.TX_READY 0 0).put F.CAR_STATUS.TX_CREDIT 0 0
  { d with car := { d.car with align := 0, tx := [] } }

/-- Write CAR_CFG (R471, R476, R481, R485). -/
def Dev.carConfig (d : Dev) (v : Nat) : Dev :=
  let tx := d.bit F.CAR_CFG.TX_EN
  let rx := d.bit F.CAR_CFG.RX_EN
  let rate := d.get F.CAR_CFG.TX_RATE
  let d := d.putWord .CAR_CFG 0 v
  let tx' := d.bit F.CAR_CFG.TX_EN
  let rx' := d.bit F.CAR_CFG.RX_EN
  let d := if tx && !tx' then d.txOff else d
  let d := if rx && !rx' then d.rxOff else d
  d.carEnabled (tx' && (!tx || d.get F.CAR_CFG.TX_RATE ≠ rate)) (rx' && !rx)

/-- tABANDON is greater than tSTALL, in units of 0.1 ms (R482). -/
def carTimesOk (v : Nat) : Bool := decide (max 1 (v / 2 ^ 4 % 2 ^ 8) < 10 * min 1000 (max 1 (v / 2 ^ 12 % 2 ^ 10)))

/-- CARAVAN_CONFIG (R482). -/
def execCaravanConfig (r : FoernReq) (s : State) : Host.Outcome State Fault Refusal :=
  s.upd (s.dev.onDie fun d => d.foern r (fmCmd 0xCB00) fun _ pay d =>
    let v := le pay 0 4
    if pay.length ≠ 8 || 2 ^ 27 ≤ v || 1 < le pay 4 1 || le pay 5 3 ≠ 0 || !carTimesOk v then .fail .invalidParam
    else
      let d := d.carConfig v
      .done (if le pay 4 1 = 1 then d.carResync else d) [⟨0x80, 0, v⟩])

/-- CARAVAN_STATUS (R486). -/
def execCaravanStatus (r : FoernReq) (s : State) : Host.Outcome State Fault Refusal :=
  s.upd (s.dev.onDie fun d =>
    d.foern r { opcode := 0xCB01, may := fun p pay _ => fmOnly p || (p = .monitor && le pay 0 4 = 0), modes := liveModes } fun _ pay d =>
    let mask := le pay 0 4
    if pay.length ≠ 4 || 32 ≤ mask then .fail .invalidParam
    else
      let err := d.word .CAR_ERR
      let held := (List.range 16).foldl (fun a k => if (d.car.held.get none k).isSome then a + 2 ^ k else a) 0
      .ok (bytes 4 (d.view .CAR_CFG) ++ bytes 4 (d.view .CAR_STATUS) ++ bytes 4 err ++ bytes 4 (d.view .CAR_RX_BURST) ++
        bytes 4 (d.view .CAR_RX_SEQ) ++ bytes 4 (d.view .CAR_RX_OFF) ++ bytes 4 (d.view .CAR_OUTQ) ++ bytes 2 held ++ bytes 2 0)
        (d.putWord .CAR_ERR 0 (clearMask err mask)) [])

/-- R487. -/
def execCaravanFwReceive (r : FoernReq) (s : State) : Host.Outcome State Fault Refusal :=
  s.upd (s.dev.onDie fun d => d.foern r (fmCmd 0xCB02) fun _ pay d =>
    if pay.length ≠ 0 then .fail .invalidParam
    else if d.mgt.xfer.isSome then .fail .busyBackground
    else match d.xferStart (d.origin r.via) none 0 true with
      | .bg item d st => .bg item { d with car := { d.car with armed := true } } st
      | x => x)

end Sys2Proof.Machine
end

