-- ==== Sys2Proof/Machine/Counters.lean ====
section
/-!
DEFINITION. Snapshots of the counters and group 0xCA00 (R587 to R594).
-/

namespace Sys2Proof.Machine

/-- The captures of a snapshot beside the counters: DIR_STAMP of every slice, and PRT_IL_SEQ and PRT_IL_BUF of every port. -/
def Dev.captures (d : Dev) : List (Nat × Nat) :=
  (List.range 8).map (fun t => (cntKey (0x1000 + t * 8), d.get F.DIR_STAMP.COUNT t)) ++
    (List.range 64).map fun p => (cntKey (0x2000 + p * 8), d.view .PRT_IL_SEQ p + 2 ^ 32 * d.view .PRT_IL_BUF p)

/-- R588: every counter with its OVF bit goes to its shadow, and the captures with it. -/
def Dev.snapshot (d : Dev) : Dev :=
  let sh := d.captures.foldl (fun t x => t.put 0 x.1 x.2) d.cnt
  let d := { d with shadow := sh }
  let d := (d.put F.CNT_SNAP_FTC.FTC 0 d.clk.ftc.toNat).put F.CNT_SNAP_AOC.AOC 0 d.clk.aoc.toNat
  d.put F.CNT_SNAP_COUNT.COUNT 0 (d.get F.CNT_SNAP_COUNT.COUNT + 1)

/-- CNT_CTL_SNAP (R588). -/
def execCntCtlSnap (s : State) : Host.Outcome State Fault Refusal := s.upd (s.dev.onDie Dev.snapshot)

/-- Only the FM and Factory have a path to the counters (R591). -/
def cntCmd (opcode : Nat) : Cmd := { opcode := opcode, may := fun p _ _ => fmOnly p, modes := dieModes }

/-- COUNTER_SNAPSHOT (R588). -/
def execCounterSnapshot (r : FoernReq) (s : State) : Host.Outcome State Fault Refusal :=
  s.upd (s.dev.onDie fun d => d.foern r (cntCmd 0xCA00) fun _ pay d =>
    if pay.length ≠ 0 then .fail .invalidParam
    else
      let d := d.snapshot
      .ok (bytes 4 (d.get F.CNT_SNAP_COUNT.COUNT) ++ bytes 4 0 ++ bytes 8 d.clk.ftc.toNat) d [])

/-- R594: `n` counters at a live address lie in one bank. -/
def cntRange (a n : Nat) : Bool :=
  a % 8 == 0 && a / 2 ^ 24 == 0x0B && match cntBank (a % 2 ^ 24) with
    | some b => cntBank (a % 2 ^ 24 + 8 * (n - 1)) == some b
    | none => false

/-- A counter's record: its value and OVF. -/
def cntRecord (v : Nat) : List (BitVec 8) := bytes 6 (v % 2 ^ 48) ++ bytes 1 (v / 2 ^ 48) ++ bytes 1 0

/-- COUNTER_READ (R594). -/
def execCounterRead (r : FoernReq) (s : State) : Host.Outcome State Fault Refusal :=
  s.upd (s.dev.onDie fun d => d.foern r (cntCmd 0xCA01) fun _ pay d =>
    let a := le pay 0 4
    let n := le pay 4 2
    let live := le pay 6 1
    if pay.length ≠ 8 || n = 0 || 496 < n || 1 < live || le pay 7 1 ≠ 0 || !cntRange a n then .fail .invalidParam
    else
      let t := if live = 1 then d.cnt else d.shadow
      .ok (bytes 4 (d.get F.CNT_SNAP_COUNT.COUNT) ++ bytes 4 0 ++
        (List.range n).flatMap fun k => cntRecord (t.get 0 (a / 8 + k))) d [])

/-- Clear the OVF bits of the live counters whose key is chosen; how many were set. -/
def Dev.clearOvf (d : Dev) (chosen : Nat → Bool) : Dev × Nat :=
  let l := d.cnt.filter fun x => chosen x.1 && decide (2 ^ 48 ≤ x.2)
  ({ d with cnt := l.foldl (fun t x => t.put 0 x.1 (x.2 % 2 ^ 48)) d.cnt }, l.length)

/-- A count of 0 clears every OVF bit of every bank. DEDUCED, unsafe: log entry 56. -/
def execCounterClearSticky (r : FoernReq) (s : State) : Host.Outcome State Fault Refusal :=
  s.upd (s.dev.onDie fun d => d.foern r (cntCmd 0xCA02) fun _ pay d =>
    let a := le pay 0 4
    let n := le pay 4 2
    if pay.length ≠ 8 || le pay 6 2 ≠ 0 || a % 8 ≠ 0 || (n ≠ 0 && !cntRange a n) then .fail .invalidParam
    else
      let (d, k) := d.clearOvf fun key => n = 0 || (decide (a / 8 ≤ key) && decide (key < a / 8 + n))
      .ok (bytes 4 k) d [])

end Sys2Proof.Machine
end

