-- ==== Sys2Proof/Machine/TimeCmds.lean ====
section
/-!
DEFINITION. The commands of fabric time and of the global block: the discipline of the FTC (R56, R57, R608), the clock source
of the always-on counter (R64), the claims of GPIOs (R72, R612), and the writes of GLB_TIME_CTL and GLB_NODE (R605, R608).
-/

namespace Sys2Proof.Machine

/-! ### Discipline -/

/-- The discipline update fails: the FTC runs on (R608). -/
def Dev.timeFail (d : Dev) : Dev := d.set F.GLB_ERR.TIME_FAIL

/-- The next TIME_REQ toward the partner, under a new request ID. -/
def Dev.timeAsk (d : Dev) (p : Nat) : Dev :=
  let r := d.ilRt p
  (d.setIl p { r with timeId := r.timeId + 1 }).ilQueueCtrl p (.timeReq r.timeId 0)

/-- `ptm` is the offset that the PTM exchange toward the FM's host found, in ns, two's complement; none where PTM is not
enabled there or no answer came. The exchange with an interlink partner answers by TIME_RSP; a request still unanswered when
the next update is due has failed (R148, R608). DEDUCED, unsafe: log entry 47. -/
def execDisciplineUpdate (ptm : Option (BitVec 64)) (s : State) : Host.Outcome State Fault Refusal :=
  s.upd (s.dev.onDie fun d =>
    let p := d.get F.GLB_TIME_CTL.PORT
    match d.timeSource with
    | 1 =>
      (match ptm with
        | some off => if (d.prt p).up && !d.isIl p then d.discipline off.toInt else d.timeFail
        | none => d.timeFail)
    | 2 =>
      if (d.prt p).up && d.isIl p then
        if (d.ilRt p).timeReq.isSome then
          (d.setIl p { d.ilRt p with timeReq := none }).timeFail.timeAsk p
        else d.timeAsk p
      else d.timeFail
    | _ => d)

/-! ### The clock of the always-on counter (R64) -/

/-- CRYSTAL_STOP (R64). -/
def execCrystalStop (s : State) : Host.Outcome State Fault Refusal :=
  s.upd (let d := s.dev
    if d.bit F.PWR_TIME_STATUS.RC_NOW then d
    else
      let d := (d.set F.PWR_TIME_STATUS.RC_NOW).set F.PWR_TIME_STATUS.RC_SEEN
      let d := { d with pwr := { d.pwr with rcSince := true } }
      if d.powered then
        d.raise .aocSource (uDev 0x12) 0 (Config.faultAddr Kind.aocSource.code 0).toNat (some 0)
      else d)

/-- CRYSTAL_STABLE (R64). -/
def execCrystalStable (s : State) : Host.Outcome State Fault Refusal :=
  s.upd (s.dev.put F.PWR_TIME_STATUS.RC_NOW 0 0)

/-! ### GPIOs (R72, R74, R612) -/

/-- What a write of a function code to a claim register does. -/
inductive ClaimRes where
  /-- claimed or released -/
  | taken
  /-- another code holds the GPIO -/
  | held
  /-- no code that may be written -/
  | invalid
  deriving DecidableEq, Repr

/-- R612: the outcome of writing `code` to GLB_CLAIM_GPIOn. -/
def Dev.claimRes (d : Dev) (n code : Nat) : ClaimRes :=
  let cur := d.get F.GLB_CLAIM_GPIO.FUNC n
  if code = 0 then .taken
  else if (decide (0x100 ≤ code) && decide (code ≤ 0x104)) || (code == 0x105 && d.mode == .factory) then
    if cur = 0 || cur = code then .taken else .held
  else .invalid

/-- A write through BAR 2: a refused one sets GLB_ERR.CLAIM. -/
def Dev.claimWrite (d : Dev) (n code : Nat) : Dev :=
  match d.claimRes n code with
  | .taken => d.put F.GLB_CLAIM_GPIO.FUNC n code
  | _ => d.set F.GLB_ERR.CLAIM

/-- GLB_CLAIM_GPIO_WRITE (R612). -/
def execGlbClaimGpioWrite (n : Fin 16) (v : BitVec 32) (s : State) : Host.Outcome State Fault Refusal :=
  s.upd (s.dev.onDie fun d => d.claimWrite n.val (v.toNat % 65536))

/-- One edge on the ball, at a second of the FTC. DESIGN CHOICE, unsafe: log entry 48. -/
def execFtcPulseOutput (n : Fin 16) (s : State) : Host.Outcome State Fault Refusal :=
  s.upd (s.dev.onDie fun d =>
    if d.get F.GLB_CLAIM_GPIO.FUNC n.val = 0x101 then
      { d with pwr := { d.pwr with pulses := d.pwr.pulses.modify 0 n.val (· + 1) } }
    else d)

/-- FTC_CAPTURE_INPUT (R74). -/
def execFtcCaptureInput (n : Fin 16) (s : State) : Host.Outcome State Fault Refusal :=
  s.upd (s.dev.onDie fun d =>
    if d.get F.GLB_CLAIM_GPIO.FUNC n.val = 0x102 then
      { d with pwr := { d.pwr with captures := d.pwr.captures.put 0 n.val d.clk.ftc } }
    else d)

/-! ### Global registers (R605, R608) -/

/-- GLB_TIME_CTL_WRITE (R608). -/
def execGlbTimeCtlWrite (v : BitVec 32) (s : State) : Host.Outcome State Fault Refusal :=
  s.upd (s.dev.onDie fun d => d.putWord .GLB_TIME_CTL 0 v.toNat)

/-- A write outside Bring-up and Quiesce is ignored and sets GLB_ERR.MODE_WRITE. -/
def Dev.nodeWrite (d : Dev) (v : Nat) : Dev :=
  if d.mode = .bringUp || d.mode = .quiesce then d.putWord .GLB_NODE 0 v else d.set F.GLB_ERR.MODE_WRITE

/-- GLB_NODE_WRITE (R605). -/
def execGlbNodeWrite (v : BitVec 32) (s : State) : Host.Outcome State Fault Refusal :=
  s.upd (s.dev.onDie fun d => d.nodeWrite v.toNat)

end Sys2Proof.Machine
end

