-- ==== Sys2Proof/Machine/Csr.lean ====
section
/-!
DEFINITION. Writes and reads of the CSR space (R8, R9, R11, R596 to R600, R612), of the two DVSECs (R107, R264), and group
0xCC00 (R458, R459).
-/

namespace Sys2Proof.Machine

/-! ### One CSR write -/

/-- The runs of a register word whose field has an access type. -/
def Reg.runsOf (r : Reg) (a : Acc) : List BitRun := r.layout.filter fun x => decide (x.fld.acc = a)

/-- A write by access type (R9): RW fields take their bits, RW1C bits written as 1 are cleared, the rest is ignored. -/
def Dev.plainWrite (d : Dev) (r : Reg) (i v : Nat) : Dev :=
  let d := d.putRuns (r.runsOf .rw) i v
  let ones := r.runsOf .rw1c
  d.putRuns ones i (clearMask (d.runsWord ones i) v)

/-- PRT_CFG: a change of PERSONALITY or ROLE that R105 does not accept is ignored; a changed WIDTH or MGMT_FN is stored for the
next Bring-up (R83, R87). DEDUCED, unsafe: log entry 13. -/
def Dev.prtCfgWrite (d : Dev) (p v : Nat) : Dev :=
  let ok := !d.personaChange p v || (d.cfgMode && d.portIdle p)
  let v := if ok then v else v / 16 * 16 + d.get F.PRT_CFG.PERSONALITY p + 4 * d.get F.PRT_CFG.ROLE p
  (d.cfgImage p v).widthStore p v

/-- PRT_CTL (R110). -/
def Dev.prtCtlWrite (d : Dev) (p v : Nat) : Dev :=
  let d := if v.testBit 0 then d.ctlRetrain p else d
  let d := if v.testBit 1 then d.ctlHotReset p else d
  if v.testBit 2 = d.bit F.PRT_CTL.LINK_DISABLE p then d else d.ctlDisable p (v.testBit 2)

/-- One CSR write to a mapped word, with the actions the register's Meaning names. A refused claim sets GLB_ERR.CLAIM.
DEDUCED, unsafe: log entry 25. DEDUCED, unsafe: log entry 57. -/
def Dev.csrWrite (d : Dev) (x : Place) (v : Nat) : Dev :=
  match x with
  | .reg .PRT_CFG p => d.prtCfgWrite p v
  | .reg .PRT_CTL p => d.prtCtlWrite p v
  | .reg .TIL_BUF_CFG t => (d.plainWrite .TIL_BUF_CFG t v).bufFloors t
  | .reg .SCH_HIST_CFG _ =>
    let d := d.plainWrite .SCH_HIST_CFG 0 v
    if v.testBit 17 then d.histClear else d
  | .reg .DIR_CTL t => if t = 0 then d.plainWrite .DIR_CTL 0 v else d
  | .reg .DIR_RECOV_CTL t => if t = 0 then d.plainWrite .DIR_RECOV_CTL 0 v else d
  | .reg .CAR_CFG _ => d.carConfig v
  | .reg .CAR_CTL _ => if v.testBit 0 then d.carResync else d
  | .reg .CNT_CTL _ => if v.testBit 0 then d.snapshot else d
  | .reg .PWR_CTL _ => d.put F.PWR_CTL.RAIL_RESTART 0 (v / 2)
  | .reg .PWR_WAKE_RESULT _ => if v.testBit 16 then d.clearResult else d
  | .reg .GLB_NODE _ => d.nodeWrite v
  | .reg .GLB_CLAIM_GPIO n => d.claimWrite n (v % 65536)
  | .reg r i => d.plainWrite r i v
  | _ => d

/-- Writes of words in increasing address order; unmapped addresses take none. -/
def Dev.csrWrites (d : Dev) : Nat → List (BitVec 32) → Dev
  | _, [] => d
  | a, w :: l => ((match Machine.place a with
      | some x => d.csrWrite x w.toNat
      | none => d).csrWrites (a + 4) l)

/-! ### Accesses from outside -/

/-- R597: a write with a byte enable clear is discarded whole. Of the DVSECs, only IDENT and the four opcodes are plain
fields; VALID and ENABLE are commands of their own. DEDUCED, unsafe: log entry 57. -/
def execCsrWrite (a : RegAddr) (ws : List (BitVec 32)) (whole : Bool) (s : State) : Host.Outcome State Fault Refusal :=
  s.upd (s.dev.onDie fun d =>
    match a with
    | .csr a => if whole then d.csrWrites a.toNat ws else d.set F.GLB_ERR.BAR_PARTIAL
    | .portIdentity p word =>
      let v := (ws.headD 0).toNat
      if !d.isHost p.val || ws = [] then d
      else match word.val with
        | 0 => d.plainWrite .PIDV_0C p.val v
        | 1 => d.plainWrite .PIDV_10 p.val v
        | _ => d
    | .fwdExt p word =>
      if d.isHost p.val && word.val == 1 && !ws.isEmpty then d.plainWrite .FWDV_10 p.val (ws.headD 0).toNat else d)

/-- R9, R597: a read through BAR 2 answers the word, 0 if the address is unmapped, and clears fields of type RC.
DESIGN CHOICE, safe: log entry 49. -/
def execRcRegisterRead (a : BitVec 28) (s : State) : Host.Outcome State Fault Refusal :=
  s.upd (s.dev.onDie fun d =>
    match place a.toNat with
    | some x => { d.readClear x with rdata := BitVec.ofNat 32 (d.viewPlace x) }
    | none => { d with rdata := 0 })

/-! ### Group 0xCC00 -/

/-- REG_READ and REG_WRITE are for the FM and Factory. -/
def regCmd (opcode : Nat) : Cmd := { opcode := opcode, may := fun p _ _ => fmOnly p, modes := dieModes }

/-- The places of `n` words from an address, if all are mapped in one block (R459). -/
def placesOf (a n : Nat) : Option (List Place) :=
  let l := (List.range n).filterMap fun k => if csrBlock (a + 4 * k) = csrBlock a then place (a + 4 * k) else none
  if l.length = n then some l else none

/-- Reads in increasing address order. -/
def Dev.readAll (d : Dev) : List Place → List (BitVec 8) × Dev
  | [] => ([], d)
  | x :: l =>
    let (b, d1) := (d.readClear x).readAll l
    (bytes 4 (d.viewPlace x) ++ b, d1)

/-- REG_READ (R459). -/
def execRegRead (r : FoernReq) (s : State) : Host.Outcome State Fault Refusal :=
  s.upd (s.dev.onDie fun d => d.foern r (regCmd 0xCC00) fun _ pay d =>
    let n := le pay 4 2
    if pay.length ≠ 8 || n = 0 || 256 < n || le pay 6 2 ≠ 0 then .fail .invalidParam
    else match placesOf (le pay 0 4) n with
      | none => .fail .invalidParam
      | some l =>
        let (b, d) := d.readAll l
        .ok b d [])

/-- The words of the parameters that a register word is (R450). -/
def paramsOf (r : Reg) (i : Nat) : List (Nat × Nat) :=
  let port (k w : Nat) := [(0x1000 + i * 16 + k, w)]
  match r with
  | .PRT_L0P => port 1 0 | .PRT_IDE => port 2 0 | .TIL_PCFG => port 3 0 | .PRT_LAYOVER => port 4 0
  | .PRT_CFG => port 0 0 | .PRT_IL_CFG => port 5 0 | .PRT_IL_PEER => port 6 0
  | .PRT_IL_VCPOOL0 => port 7 0 | .PRT_IL_VCPOOL1 => port 7 1 | .PRT_IL_VCPOOL2 => port 7 2
  | .GLB_NODE => [(1, 0), (2, 0)] | .MGT_XPORT => [(0x11, 0), (0x12, 0)] | .CAR_CFG => [(0x80, 0)]
  | .DIR_CTL => if i = 0 then [(0x4000, 0)] else []
  | .DIR_RECOV_CTL => if i = 0 then [(0x4001, 0)] else []
  | _ => []

/-- What PERSIST stages after a write of these places (R449). PRT_CFG is staged with the WIDTH and MGMT_FN just written.
DEDUCED, unsafe: log entry 57. -/
def Dev.stagePlaces (d : Dev) (l : List Place) : List Stg :=
  l.flatMap fun x => match x with
    | .reg .PRT_CFG _ => []
    | .reg r i => (paramsOf r i).flatMap fun y => d.stageNow y.1 [y.2]
    | _ => []

/-- PRT_CFG as PERSIST stages it: the word written. -/
def stageCfg (l : List (Place × Nat)) : List Stg :=
  l.filterMap fun x => match x.1 with
    | .reg .PRT_CFG p => some ⟨0x1000 + p * 16, 0, x.2⟩
    | _ => none

/-- Writes in increasing address order, up to a refused claim, which is answered as R612 says. -/
def Dev.writeAll (d : Dev) : List (Place × Nat) → Option (Detail × List (BitVec 8)) × Dev
  | [] => (none, d)
  | (.reg .GLB_CLAIM_GPIO n, v) :: l =>
    (match d.claimRes n (v % 65536) with
      | .taken => (d.claimWrite n (v % 65536)).writeAll l
      | .held =>
        (some (.resourceConflict, bytes 1 1 ++ bytes 1 n ++ bytes 2 (d.get F.GLB_CLAIM_GPIO.FUNC n) ++ bytes 2 0xFFFF ++ bytes 2 0), d)
      | .invalid => (some (.invalidParam, []), d))
  | (x, v) :: l => (d.csrWrite x v).writeAll l

/-- REG_WRITE (R459). -/
def execRegWrite (r : FoernReq) (s : State) : Host.Outcome State Fault Refusal :=
  s.upd (s.dev.onDie fun d => d.foern r (regCmd 0xCC01) fun _ pay d =>
    let n := le pay 4 2
    if pay.length < 8 || n = 0 || 256 < n || le pay 6 2 ≠ 0 || pay.length ≠ 8 + 4 * n then .fail .invalidParam
    else match placesOf (le pay 0 4) n with
      | none => .fail .invalidParam
      | some l =>
        let ws := l.zip (wordsOf (pay.drop 8))
        match d.writeAll ws with
        | (some (x, out), d) => .errWith x d out
        | (none, d) => .ok [] d (d.stagePlaces l ++ stageCfg ws))

end Sys2Proof.Machine
end

