-- ==== Sys2Proof/Machine/FmApi.lean ====
section
/-!
DEFINITION. The standard commands of the CXL Fabric Manager API (R439) and of the window devices' mailboxes (R436). What they
carry is defined by a standard outside the spec: an answer's bytes are free values where no chapter states them.
-/

namespace Sys2Proof.Machine

/-- A standard command: its place in the list, the Foern opcode it acts as, whether the FM's transports and the window
devices' mailboxes answer it, and the modes it is accepted in. -/
structure StdCmd where
  n     : Nat
  acts  : Nat := 0
  fm    : Bool := true
  host  : Bool := false
  modes : Mode → Bool := dieModes

/-- The answer to a standard command. DEDUCED, unsafe: log entry 59. -/
def StdCmd.rsp (c : StdCmd) (v : Transport) (x : Detail) (pay : List (BitVec 8)) (bg : Bool := false) : Rsp :=
  { via := v, opcode := Config.stdOpcode c.n, ret := if bg then .backgroundStarted else x.ret, detail := x, persist := false,
    background := bg, replayed := false, sel := 0, seq := 0, pay := pay }

/-- Issue the answer to a standard command; it has no request sequence, so it is not kept for repeats (R441). -/
def Dev.stdRespond (d : Dev) (x : Rsp) : Dev := { d with mgt := { d.mgt with rsp := d.mgt.rsp ++ [x] } }

/-- The answer Unsupported. -/
def Dev.unsupported (d : Dev) (c : StdCmd) (v : Transport) : Dev := d.stdRespond { c.rsp v .invalidParam [] with ret := .unsupported }

/-- Whether the transport carries the command. -/
def StdCmd.carried (c : StdCmd) : Transport → Bool
  | .hostMbox _ => c.host
  | .tenantMbox _ => false
  | _ => c.fm

/-- Answer an accepted standard command by what its own part found. -/
def Dev.concludeStd (d0 : Dev) (v : Transport) (c : StdCmd) : Ans → Dev
  | .ok out d1 _ => d1.stdRespond (c.rsp v .ok out)
  | .bg item d1 _ =>
    if d1.bgRoom v then
      (d1.begin { via := v, hdr := { opcode := BitVec.ofNat 16 c.acts, persist := false, sel := 0, seq := 0 }, item := item }).stdRespond
        (c.rsp v .ok [] true)
    else d0.stdRespond (c.rsp v .busyBackground [])
  | .held d1 | .later d1 => d1
  | .errWith x d1 out => d1.stdRespond (c.rsp v x out)
  | .err x out => d0.stdRespond (c.rsp v x out)

/-- Execute a standard command (R436, R439, R442, R445, R447, R462). DEDUCED, unsafe: log entry 59. -/
def Dev.std (d : Dev) (r : FoernReq) (c : StdCmd) (body : Dev → Ans) : Dev :=
  if !d.answers r.via then d
  else
    let d0 := d.taken r.via
    let no (x : Detail) : Dev := d0.stdRespond (c.rsp r.via x [])
    if !d.served r.via then
      if r.via.mctp then d0.mboxViol r.via 5 else (no .privilege).mboxViol r.via 5
    else if r.via.largest < r.raw.length then
      (d0.stdRespond { c.rsp r.via .invalidParam [] with ret := .invalidPayloadLength }).mboxViol r.via 1
    else if !c.carried r.via then d0.unsupported c r.via
    else if d.principal r.via = .monitor then no .privilege
    else if d.get F.MGT_FW_STATUS.STATE = 4 || !c.modes d.mode || !boxMode r.via d.mode then no .wrongMode
    else d0.concludeStd r.via c (body d0)

/-- Success with bytes that only the standard defines: free values, at most 4,080. DESIGN CHOICE, safe: log entry 9. -/
def Dev.freeAns (d : Dev) : Ans :=
  let (n, d) := d.fresh
  .ok ((List.range (16 * (Config.freeByte n 0).toNat)).map fun k => Config.freeByte n (k + 1)) d []

/-- A command that only reads. -/
def State.stdRead (s : State) (r : FoernReq) (c : StdCmd) : Host.Outcome State Fault Refusal :=
  s.upd (s.dev.onDie fun d => d.std r c Dev.freeAns)

/-! ### Identification, limits and logs -/

/-- IDENTIFY (R439). -/
def execIdentify (r : FoernReq) (s : State) : Host.Outcome State Fault Refusal := s.stdRead r { n := 1 }

/-- BACKGROUND_OPERATION_STATUS (R439). -/
def execBackgroundOperationStatus (r : FoernReq) (s : State) : Host.Outcome State Fault Refusal := s.stdRead r { n := 2 }

/-- GET_RESPONSE_MESSAGE_LIMIT (R439). -/
def execGetResponseMessageLimit (r : FoernReq) (s : State) : Host.Outcome State Fault Refusal :=
  s.upd (s.dev.onDie fun d => d.std r { n := 3 } fun d => .ok (bytes 1 d.mgt.rspLimit) d [])

/-- SET_RESPONSE_MESSAGE_LIMIT (R439). -/
def execSetResponseMessageLimit (r : FoernReq) (limit : Fin 256) (s : State) : Host.Outcome State Fault Refusal :=
  s.upd (s.dev.onDie fun d => d.std r { n := 4 } fun d =>
    .ok (bytes 1 limit.val) { d with mgt := { d.mgt with rspLimit := limit.val } } [])

/-- GET_SUPPORTED_LOGS (R439). -/
def execGetSupportedLogs (r : FoernReq) (s : State) : Host.Outcome State Fault Refusal := s.stdRead r { n := 5, host := true }

/-- GET_LOG (R439). -/
def execGetLog (r : FoernReq) (s : State) : Host.Outcome State Fault Refusal := s.stdRead r { n := 6, host := true }

/-- Event records: of the window device's log on a host mailbox (R370). -/
def execGetEventRecords (r : FoernReq) (s : State) : Host.Outcome State Fault Refusal := s.stdRead r { n := 7, host := true }

/-- Drop the `n` oldest events of host port `p`. -/
def dropEvents (p : Nat) : Nat → List InsEvent → List InsEvent
  | _, [] => []
  | n, x :: l => if x.host = p && decide (0 < n) then dropEvents p (n - 1) l else x :: dropEvents p n l

/-- Clear the `n` oldest event records of the transport's log. DEDUCED, unsafe: log entry 59. -/
def execClearEventRecords (r : FoernReq) (n : Nat) (s : State) : Host.Outcome State Fault Refusal :=
  s.upd (s.dev.onDie fun d => d.std r { n := 8, host := true } fun d =>
    .done (match r.via with
      | .hostMbox p => { d with ins := { d.ins with evlog := dropEvents p.val n d.ins.evlog } }
      | _ => { d with mgt := { d.mgt with cleared := d.mgt.cleared + n } }))

/-- GET_EVENT_INTERRUPT_POLICY (R439). -/
def execGetEventInterruptPolicy (r : FoernReq) (s : State) : Host.Outcome State Fault Refusal :=
  s.upd (s.dev.onDie fun d => d.std r { n := 9 } fun d => .ok (bytes 4 d.mgt.evtPolicy.toNat) d [])

/-- SET_EVENT_INTERRUPT_POLICY (R439). -/
def execSetEventInterruptPolicy (r : FoernReq) (policy : BitVec 32) (s : State) : Host.Outcome State Fault Refusal :=
  s.upd (s.dev.onDie fun d => d.std r { n := 10 } fun d => .done { d with mgt := { d.mgt with evtPolicy := policy } })

/-! ### Firmware and time -/

/-- GET_FW_INFO (R439). -/
def execGetFwInfo (r : FoernReq) (s : State) : Host.Outcome State Fault Refusal := s.stdRead r { n := 11 }

/-- Acts as FW_TRANSFER. -/
def execTransferFw (r : FoernReq) (act : FwAct) (s : State) : Host.Outcome State Fault Refusal :=
  s.upd (s.dev.onDie fun d => d.std r { n := 12, acts := 0xC004, modes := fwModes } fun d =>
    let o := d.origin r.via
    match act with
    | .start slot total => d.xferStart o slot total false
    | .data off n => d.xferData o off n
    | .finish => d.xferEnd o
    | .cancel => d.xferCancel o)

/-- Acts as ACTIVATE_FIRMWARE, mode 0x1 if `now`. -/
def execActivateFw (r : FoernReq) (slot : Fin 2) (now : Bool) (s : State) : Host.Outcome State Fault Refusal :=
  s.upd (s.dev.onDie fun d => d.std r { n := 13, acts := 0xC003 } fun d => d.activateBody slot now)

/-- GET_TIMESTAMP (R439). -/
def execGetTimestamp (r : FoernReq) (s : State) : Host.Outcome State Fault Refusal :=
  s.upd (s.dev.onDie fun d => d.std r { n := 14 } fun d => .ok (bytes 8 d.clk.ftc.toNat) d [])

/-! ### The switch -/

/-- IDENTIFY_SWITCH_DEVICE (R439). -/
def execIdentifySwitchDevice (r : FoernReq) (s : State) : Host.Outcome State Fault Refusal := s.stdRead r { n := 15 }

/-- GET_PHYSICAL_PORT_STATE (R439). -/
def execGetPhysicalPortState (r : FoernReq) (s : State) : Host.Outcome State Fault Refusal := s.stdRead r { n := 16 }

/-- Acts as PRT_CTL. -/
def execPhysicalPortControl (r : FoernReq) (p : Port) (act : PortAct) (s : State) : Host.Outcome State Fault Refusal :=
  s.upd (s.dev.onDie fun d => d.std r { n := 17 } fun d =>
    .done (match act with
      | .retrain => d.ctlRetrain p.val
      | .hotReset => d.ctlHotReset p.val
      | .disable on => d.ctlDisable p.val on))

/-- SEND_PPB_CXLIO_CONFIG_REQUEST (R439). -/
def execSendPpbCxlioConfigRequest (r : FoernReq) (s : State) : Host.Outcome State Fault Refusal := s.stdRead r { n := 18 }

/-- GET_VIRTUAL_CXL_SWITCH_INFO (R439). -/
def execGetVirtualCxlSwitchInfo (r : FoernReq) (s : State) : Host.Outcome State Fault Refusal := s.stdRead r { n := 19 }

/-- Acts as BIND. -/
def execBindVppb (r : FoernReq) (host : Port) (v : Fin 32) (edge : BitVec 12) (ld : Option (BitVec 4)) (s : State) :
    Host.Outcome State Fault Refusal :=
  s.upd (s.dev.onDie fun d => d.std r { n := 20, acts := 0xC201, modes := liveModes } fun d =>
    d.bindReq host.val v.val ((ld.map fun x => 128 + x.toNat).getD 0) edge.toNat)

/-- Wait, managed hot-remove and surprise hot-remove act as UNBIND modes 0 to 2. -/
def execUnbindVppb (r : FoernReq) (host : Port) (v : Fin 32) (mode : Fin 3) (s : State) : Host.Outcome State Fault Refusal :=
  s.upd (s.dev.onDie fun d =>
    (d.std r { n := 21, acts := 0xC202, modes := liveModes } fun d => d.unbindReq host.val v.val mode.val).surprise host.val)

/-- TUNNEL_MANAGEMENT_COMMAND (R439). -/
def execTunnelManagementCommand (r : FoernReq) (s : State) : Host.Outcome State Fault Refusal := s.stdRead r { n := 22 }

/-- GET_LD_INFO (R439). -/
def execGetLdInfo (r : FoernReq) (s : State) : Host.Outcome State Fault Refusal := s.stdRead r { n := 23 }

/-- GET_LD_ALLOCATIONS (R439). -/
def execGetLdAllocations (r : FoernReq) (s : State) : Host.Outcome State Fault Refusal := s.stdRead r { n := 24 }

/-! ### Window devices, and what is not supported -/

/-- IDENTIFY_MEMORY_DEVICE (R436). -/
def execIdentifyMemoryDevice (r : FoernReq) (s : State) : Host.Outcome State Fault Refusal :=
  s.stdRead r { n := 25, fm := false, host := true }

/-- Any other standard opcode, Set Timestamp among them. -/
def execUnsupportedStandardOpcode (r : FoernReq) (s : State) : Host.Outcome State Fault Refusal :=
  s.upd (s.dev.onDie fun d => d.std r { n := 26, fm := false } fun d => .done d)

end Sys2Proof.Machine
end

