-- ==== Sys2Proof/Machine/Switch.lean ====
section
/-!
DEFINITION. The commands of the core pipeline, the shared buffer, multicast and layover (chapters 01 and 05), outside the
Foern interface.
-/

namespace Sys2Proof.Machine

/-- The release of a slot: on a standard port once its flit has passed its CRC, or at once with header-early arbitration (R23);
on an interlink only early, and only from the flit that carries rx_expected, since the others enter as their flits are released
(R138). -/
def Dev.releaseSlot (d : Dev) (p : Fin 64) (flit : Nat) (dec : Decode) (m : Msg) (more : Nat) (ecrc : Bool) : Dev :=
  let early := d.bit F.PRT_CFG.HE_ARB p.val
  if d.isIl p.val && !(early && d.ilState p.val == 5 && (d.ilRt p.val).rxExp.toNat == flit) then d
  else d.ingress p flit (!early) dec m more ecrc

/-- INGRESS_SLOT (R22). DESIGN CHOICE, unsafe: log entry 8. -/
def execIngressSlot (p : Port) (flit : Nat) (dec : Decode) (m : Msg) (more : Fin 16) (ecrc : Bool)
    (s : State) : Host.Outcome State Fault Refusal :=
  s.upd (s.dev.onDie fun d => d.releaseSlot p flit dec m more.val ecrc)

/-- CROSSBAR_ARBITRATION (R31). -/
def execCrossbarArbitration (s : State) : Host.Outcome State Fault Refusal :=
  s.upd (s.dev.onDie fun d => (List.range 8).foldl Dev.grantOut d)

/-- SLOT_COMMIT (R25). DEDUCED, unsafe: log entry 20. -/
def execSlotCommit (id : Nat) (verdict : Bool) (s : State) : Host.Outcome State Fault Refusal :=
  s.upd (s.dev.onDie fun d => d.commitSlot id verdict)

/-- The receive errors of port `p` that R116 and R585 name: the flit is discarded; a standard port's failed FEC correction is
logged; a framing or symbol error is noted. -/
def Dev.rxErr (d : Dev) (p : Nat) (fec rx : Bool) : Dev :=
  let d := d.count (cPort p 9)
  let d := if fec && !d.isIl p then
      ((d.count (cPort p 11)).set F.PRT_ERR.FLIT_UNCORR p).raise .flitUncorr (uPort p) p (Config.faultAddr Kind.flitUncorr.code p).toNat
    else d
  if rx then d.set F.PRT_ERR.RX_ERR p else d

/-- R26, R27: the verdict governs over a grant on the same edge. -/
def execFlitCrcFail (p : Port) (flit : Nat) (fec rx : Bool) (s : State) : Host.Outcome State Fault Refusal :=
  s.upd (s.dev.onDie fun d => (d.undoFlit p.val flit).rxErr p.val fec rx)

/-- Port `p`'s egress link offers this credit, in messages per internal class (a standard port; an interlink counts its own). -/
def Dev.offerCredit (d : Dev) (p : Nat) (link : List Nat) : Dev :=
  if d.isIl p then d else d.setPrt p { d.prt p with link := (List.range 8).map fun c => six link c }

/-- The queue that message `x` joins on port `e`. -/
def Dev.joins (d : Dev) (x : Staged) (e : Nat) : Nat :=
  match x.dest with
  | .mcast g => queueNo e (d.get F.TIL_MCAST.CLASS g.toNat) 0
  | _ => x.q

/-- R227: the bypass of stage 9 on port `e`, which selects the message that has just made queue `q` non-empty when the scheduler
would select that queue. -/
def Dev.bypass (d : Dev) (e q : Nat) : Dev :=
  if (d.queue q).msgs.length ≠ 1 || !d.passesPort e then d
  else
    let n := (d.side e).noteQueues e
    match n.pick e with
    | some k => if k = .strict q || k = .wfq q then (n.take e k .none).count (cEgress e 2) else d
    | none => d

/-- MESSAGE_ADMIT with the ports whose link layer has room on the admission edge, and the credit that each of their links offers:
a message bound for an empty queue there may bypass it (R227). -/
def Dev.admitBypass (d : Dev) (k : Nat) (ports : List (Port × List Nat)) : Dev :=
  match d.sw.staged[k]? with
  | none => d
  | some x =>
    let empty := (ports.map fun y => (y.1.val, d.joins x y.1.val)).filter fun y => (d.queue y.2).msgs.isEmpty
    let d := (ports.foldl (fun d y => d.offerCredit y.1.val y.2) d).admitStaged k
    empty.foldl (fun d y => if y.2 / 256 = y.1 then d.bypass y.1 y.2 else d) d

/-- MESSAGE_ADMIT (R181): `ports` have room on the edge, and their links offer the credit of `links` in turn. DEDUCED, unsafe: log entry 20. -/
def execMessageAdmit (k : Nat) (ports : List Port) (links : List (List Nat)) (s : State) : Host.Outcome State Fault Refusal :=
  s.upd (s.dev.onDie fun d => d.admitBypass k (ports.zip links))

/-- R179: the reservation of the TLP whose first slot is `id` is released; the TLP goes on as store-and-forward. -/
def Dev.revert (d : Dev) (id : Nat) : Dev :=
  let isIo (m : Msg) : Bool := match m.cls with | .ion | .iop | .ioc => true | _ => false
  match d.sw.pipe.find? fun x => x.id == id && x.heIo && x.resv with
  | some x => (d.setMsg { x with heIo := false, resv := false }).count (cTile (x.port.val / 8) 1)
  | none =>
    match d.sw.staged.find? fun x => x.id == id && x.resv && isIo x.m, d.sw.staged.findIdx? fun x => x.id == id && x.resv && isIo x.m with
    | some x, some k =>
      ({ d with sw := { d.sw with staged := d.sw.staged.modify k fun y => { y with resv := false } } }).count (cTile x.tile.val 1)
    | _, _ => d

/-- IO_HOLD_TIMEOUT (R179). -/
def execIoHoldTimeout (id : Nat) (s : State) : Host.Outcome State Fault Refusal := s.upd (s.dev.onDie fun d => d.revert id)

/-- One edge of the scheduler of port `p` (R222). While the link carries no traffic it sends nothing (R100, R228). -/
def Dev.schedule (d : Dev) (p : Nat) (link : List Nat) (es : List CellErr) : Dev :=
  if !(d.prt p).up then d
  else if !d.passesPort p then (if es = [] then d else d.emptySlots p)
  else
    let d := d.offerCredit p link
    Dev.select es (if es = [] then d else d.creditStalls p) p true

/-- `link`: the messages of each internal class for which the egress link has credit (a standard port); `room`: the messages the
link layer takes; `e0`, `e1`: what reading the cells of each selected message finds. From shed stage 4 on, one message an edge
(R537). DEDUCED, unsafe: log entry 20. -/
def execSchedulerSelect (p : Port) (link : List Nat) (room : Fin 3) (e0 e1 : CellErr) (s : State) : Host.Outcome State Fault Refusal :=
  s.upd (s.dev.onDie fun d =>
    let n := if d.get F.PWR_SAG_STATUS.STAGE ≥ 4 then min room.val 1 else room.val
    d.schedule p.val link ([e0, e1].take n))

/-- R191: the stored copy `id` has a straggler older than STRAG_AGE. -/
def execStragglerAgeExpiry (id : Nat) (s : State) : Host.Outcome State Fault Refusal :=
  s.upd (s.dev.onDie fun d =>
    match d.sw.mc.find? fun c => c.id == id && c.started && !c.aged with
    | some c =>
      let low := (c.waiting.map (·.val)).foldl min 63
      if d.get F.TIL_MCAST_CFG.STRAG_AGE c.tile.val = 0 then d
      else
        let c' : McCopy := { c with aged := true }
        ({ d.set F.TIL_ERR.STRAG_AGE c.tile.val with sw := { d.sw with mc := d.sw.mc.map fun (x : McCopy) => if x.id = id then c' else x } }).raise
          .mcastStragglerAge (uTile c.tile.val 0x11) low (c.group.toNat + low * 2 ^ 12 + c.gseq.toNat * 2 ^ 18)
    | none => d)

/-- R198. -/
def execLayoverExpiry (p : Port) (s : State) : Host.Outcome State Fault Refusal :=
  s.upd (s.dev.onDie fun d => if (d.prt p.val).layover then d.flushPort p.val 1 else d)

/-! ### The waiters of the auxiliary partition (R76) -/

/-- Admit waiting multicast messages, first come first served, while one can be admitted. -/
def Dev.serveStragglers : Nat → Dev → Dev
  | 0, d => d
  | fuel + 1, d =>
    match (List.range d.sw.staged.length).findSome? fun k =>
        match d.sw.staged[k]? with
        | some x => match x.dest with
          | .mcast _ => let e := d.admitStaged k; if e.sw.staged.length < d.sw.staged.length then some e else none
          | _ => none
        | none => none with
    | some e => Dev.serveStragglers fuel e
    | none => d

/-- Stragglers, then Blend staging; telemetry never waits (R77). -/
def Dev.serveAux (d : Dev) (t : Nat) : Dev :=
  let d := Dev.serveStragglers d.sw.staged.length d
  (List.range 64).foldl (fun d k =>
    let f := t * 64 + k
    if !(d.foldRt f).held.isEmpty && d.auxCan t .blend 1 then d.foldRequeue f else d) d

/-- AUX_WAITER_SERVE (R76). -/
def execAuxWaiterServe (t : Tile) (s : State) : Host.Outcome State Fault Refusal :=
  s.upd (s.dev.onDie fun d => d.serveAux t.val)

end Sys2Proof.Machine
end

