-- ==== Sys2Proof/Machine/Dispatch.lean ====
section
/-!
DEFINITION. One arm per command: the direct call of its meaning.
-/

namespace Sys2Proof.Machine

def exec (i : Instr) (s : State) : Host.Outcome State Fault Refusal :=
  match i with
  | .vauxPowerOn pwrok sysRst perst testEn xtalByp => Sys2Proof.Machine.execVauxPowerOn pwrok sysRst perst testEn xtalByp s
  | .vauxBrownout => Sys2Proof.Machine.execVauxBrownout s
  | .ingressSlot p flit dec m more ecrc => Sys2Proof.Machine.execIngressSlot p flit dec m more ecrc s
  | .crossbarArbitration => Sys2Proof.Machine.execCrossbarArbitration s
  | .slotCommit id verdict => Sys2Proof.Machine.execSlotCommit id verdict s
  | .flitCrcFail p flit fec rx => Sys2Proof.Machine.execFlitCrcFail p flit fec rx s
  | .refclkLoss t => Sys2Proof.Machine.execRefclkLoss t s
  | .setMode r => Sys2Proof.Machine.execSetMode r s
  | .bringUpComplete failed => Sys2Proof.Machine.execBringUpComplete failed s
  | .sysResetAssert => Sys2Proof.Machine.execSysResetAssert s
  | .sysResetDeassert straps => Sys2Proof.Machine.execSysResetDeassert straps s
  | .perstInAssert => Sys2Proof.Machine.execPerstInAssert s
  | .perstInDeassert straps => Sys2Proof.Machine.execPerstInDeassert straps s
  | .testEnDeassert => Sys2Proof.Machine.execTestEnDeassert s
  | .sysPwrokFall => Sys2Proof.Machine.execSysPwrokFall s
  | .sysPwrokRise => Sys2Proof.Machine.execSysPwrokRise s
  | .quiesceDrainComplete => Sys2Proof.Machine.execQuiesceDrainComplete s
  | .quiesceTimeout => Sys2Proof.Machine.execQuiesceTimeout s
  | .standbyWalksEnd => Sys2Proof.Machine.execStandbyWalksEnd s
  | .standbyPoisonWritesDone => Sys2Proof.Machine.execStandbyPoisonWritesDone s
  | .entryPairSample => Sys2Proof.Machine.execEntryPairSample s
  | .mpWfi => Sys2Proof.Machine.execMpWfi s
  | .standbyEntryTimeout => Sys2Proof.Machine.execStandbyEntryTimeout s
  | .keepSetSaveDone => Sys2Proof.Machine.execKeepSetSaveDone s
  | .railDisableStep => Sys2Proof.Machine.execRailDisableStep s
  | .disciplineUpdate ptm => Sys2Proof.Machine.execDisciplineUpdate ptm s
  | .crystalStop => Sys2Proof.Machine.execCrystalStop s
  | .crystalStable => Sys2Proof.Machine.execCrystalStable s
  | .ftcPulseOutput n => Sys2Proof.Machine.execFtcPulseOutput n s
  | .ftcCaptureInput n => Sys2Proof.Machine.execFtcCaptureInput n s
  | .glbClaimGpioWrite n v => Sys2Proof.Machine.execGlbClaimGpioWrite n v s
  | .glbTimeCtlWrite v => Sys2Proof.Machine.execGlbTimeCtlWrite v s
  | .glbNodeWrite v => Sys2Proof.Machine.execGlbNodeWrite v s
  | .linkTrainingComplete p equalised width flits reversed ide partnerRate => Sys2Proof.Machine.execLinkTrainingComplete p equalised width flits reversed ide partnerRate s
  | .partnerIdentityRead p ident => Sys2Proof.Machine.execPartnerIdentityRead p ident s
  | .portIdentityValidWrite p => Sys2Proof.Machine.execPortIdentityValidWrite p s
  | .l0pInterval p utilTx utilRx class7Held granted => Sys2Proof.Machine.execL0pInterval p utilTx utilRx class7Held granted s
  | .l0pPartnerRequest p width => Sys2Proof.Machine.execL0pPartnerRequest p width s
  | .prtCtlRetrain p => Sys2Proof.Machine.execPrtCtlRetrain p s
  | .prtCtlHotReset p => Sys2Proof.Machine.execPrtCtlHotReset p s
  | .prtCtlLinkDisable p on => Sys2Proof.Machine.execPrtCtlLinkDisable p on s
  | .linkDownDeclare p reason unacked => Sys2Proof.Machine.execLinkDownDeclare p reason unacked s
  | .phyLoss p unacked => Sys2Proof.Machine.execPhyLoss p unacked s
  | .hotResetReceived p => Sys2Proof.Machine.execHotResetReceived p s
  | .ideIntegrityFail p unacked => Sys2Proof.Machine.execIdeIntegrityFail p unacked s
  | .ideKeyRefresh p done => Sys2Proof.Machine.execIdeKeyRefresh p done s
  | .doeRequest p mgmt act len => Sys2Proof.Machine.execDoeRequest p mgmt act len s
  | .portConfig r => Sys2Proof.Machine.execPortConfig r s
  | .portStatus r => Sys2Proof.Machine.execPortStatus r s
  | .linkRetrain r => Sys2Proof.Machine.execLinkRetrain r s
  | .setLayover r => Sys2Proof.Machine.execSetLayover r s
  | .ilFlitSend p => Sys2Proof.Machine.execIlFlitSend p s
  | .ilFlitReceive p f => Sys2Proof.Machine.execIlFlitReceive p f s
  | .ilFlitCrcFail p flit => Sys2Proof.Machine.execIlFlitCrcFail p flit s
  | .ilCodewordUncorrectable p flits inMs => Sys2Proof.Machine.execIlCodewordUncorrectable p flits inMs s
  | .ilIdleReceive p h c0 c1 c2 c3 c4 c5 => Sys2Proof.Machine.execIlIdleReceive p h c0 c1 c2 c3 c4 c5 s
  | .ilParamReceive p h b => Sys2Proof.Machine.execIlParamReceive p h b s
  | .ilParamAckReceive p h session resume => Sys2Proof.Machine.execIlParamAckReceive p h session resume s
  | .ilRetrainReqReceive p h width reason => Sys2Proof.Machine.execIlRetrainReqReceive p h width reason s
  | .ilRetrainAckReceive p h width => Sys2Proof.Machine.execIlRetrainAckReceive p h width s
  | .ilTimeReqReceive p h id t1 => Sys2Proof.Machine.execIlTimeReqReceive p h id t1 s
  | .ilTimeRspReceive p h id t2 t3 => Sys2Proof.Machine.execIlTimeRspReceive p h id t2 t3 s
  | .ilLinkDownReceive p h why => Sys2Proof.Machine.execIlLinkDownReceive p h why s
  | .ilNakTimeout p seq => Sys2Proof.Machine.execIlNakTimeout p seq s
  | .ilStallTimeout p => Sys2Proof.Machine.execIlStallTimeout p s
  | .ilDownExit p => Sys2Proof.Machine.execIlDownExit p s
  | .ilSignalDetect p lanes => Sys2Proof.Machine.execIlSignalDetect p lanes s
  | .ilEqualised p quads reversed => Sys2Proof.Machine.execIlEqualised p quads reversed s
  | .ilCodewordLock p => Sys2Proof.Machine.execIlCodewordLock p s
  | .ilTrainTimeout p => Sys2Proof.Machine.execIlTrainTimeout p s
  | .ilParamTimeout p => Sys2Proof.Machine.execIlParamTimeout p s
  | .ilParamResend p => Sys2Proof.Machine.execIlParamResend p s
  | .ilRetrainReqResend p => Sys2Proof.Machine.execIlRetrainReqResend p s
  | .ilRetrainAttemptTimeout p => Sys2Proof.Machine.execIlRetrainAttemptTimeout p s
  | .messageAdmit k ports links => Sys2Proof.Machine.execMessageAdmit k ports links s
  | .ioHoldTimeout id => Sys2Proof.Machine.execIoHoldTimeout id s
  | .schedulerSelect p link room e0 e1 => Sys2Proof.Machine.execSchedulerSelect p link room e0 e1 s
  | .stragglerAgeExpiry id => Sys2Proof.Machine.execStragglerAgeExpiry id s
  | .layoverExpiry p => Sys2Proof.Machine.execLayoverExpiry p s
  | .routeWrite r => Sys2Proof.Machine.execRouteWrite r s
  | .bind r => Sys2Proof.Machine.execBind r s
  | .bindComplete p => Sys2Proof.Machine.execBindComplete p s
  | .unbind r => Sys2Proof.Machine.execUnbind r s
  | .unbindComplete p power => Sys2Proof.Machine.execUnbindComplete p power s
  | .mcastGroupSet r => Sys2Proof.Machine.execMcastGroupSet r s
  | .routeRead r => Sys2Proof.Machine.execRouteRead r s
  | .mcastGroupRead r => Sys2Proof.Machine.execMcastGroupRead r s
  | .auxPartitionSet r => Sys2Proof.Machine.execAuxPartitionSet r s
  | .bindStatus r => Sys2Proof.Machine.execBindStatus r s
  | .auxWaiterServe t => Sys2Proof.Machine.execAuxWaiterServe t s
  | .refillTick => Sys2Proof.Machine.execRefillTick s
  | .holdQueueRelease n => Sys2Proof.Machine.execHoldQueueRelease n s
  | .gateWindowChange p overrun => Sys2Proof.Machine.execGateWindowChange p overrun s
  | .gateListTakeover p => Sys2Proof.Machine.execGateListTakeover p s
  | .histSample => Sys2Proof.Machine.execHistSample s
  | .schHistFreeze on => Sys2Proof.Machine.execSchHistFreeze on s
  | .schHistClear => Sys2Proof.Machine.execSchHistClear s
  | .queueConfig r => Sys2Proof.Machine.execQueueConfig r s
  | .shaperSet r => Sys2Proof.Machine.execShaperSet r s
  | .policerSet r => Sys2Proof.Machine.execPolicerSet r s
  | .gateListSet r => Sys2Proof.Machine.execGateListSet r s
  | .latencySampleCfg r => Sys2Proof.Machine.execLatencySampleCfg r s
  | .classMapSet r => Sys2Proof.Machine.execClassMapSet r s
  | .queueStatus r => Sys2Proof.Machine.execQueueStatus r s
  | .schedCtlSet r => Sys2Proof.Machine.execSchedCtlSet r s
  | .histRead r => Sys2Proof.Machine.execHistRead r s
  | .tollgateEdge t => Sys2Proof.Machine.execTollgateEdge t s
  | .biResponseRelease p line => Sys2Proof.Machine.execBiResponseRelease p line s
  | .biConflictAck p line => Sys2Proof.Machine.execBiConflictAck p line s
  | .biTimeoutExpiry p line => Sys2Proof.Machine.execBiTimeoutExpiry p line s
  | .deadAgentWalkEnd p => Sys2Proof.Machine.execDeadAgentWalkEnd p s
  | .fwdDvsecEnable p ok => Sys2Proof.Machine.execFwdDvsecEnable p ok s
  | .prefetchHintAccept t => Sys2Proof.Machine.execPrefetchHintAccept t s
  | .prefetchReadReturn t id data poison => Sys2Proof.Machine.execPrefetchReadReturn t id data poison s
  | .prefetchLineExpiry t line => Sys2Proof.Machine.execPrefetchLineExpiry t line s
  | .scrubRowRead t look errs => Sys2Proof.Machine.execScrubRowRead t look errs s
  | .targetTimeout t write id => Sys2Proof.Machine.execTargetTimeout t write id s
  | .dirQuotaVictimFound t id => Sys2Proof.Machine.execDirQuotaVictimFound t id s
  | .windowCreate r => Sys2Proof.Machine.execWindowCreate r s
  | .windowDestroy r => Sys2Proof.Machine.execWindowDestroy r s
  | .windowDestroyComplete w => Sys2Proof.Machine.execWindowDestroyComplete w s
  | .dirFlushHost r => Sys2Proof.Machine.execDirFlushHost r s
  | .dirFlushWalkEnd host window => Sys2Proof.Machine.execDirFlushWalkEnd host window s
  | .agentDeclareDead r => Sys2Proof.Machine.execAgentDeclareDead r s
  | .prefetchCfg r => Sys2Proof.Machine.execPrefetchCfg r s
  | .windowGrant r => Sys2Proof.Machine.execWindowGrant r s
  | .windowGrantRevokeComplete p g => Sys2Proof.Machine.execWindowGrantRevokeComplete p g s
  | .windowStatus r => Sys2Proof.Machine.execWindowStatus r s
  | .dirSetRead r => Sys2Proof.Machine.execDirSetRead r s
  | .dirDump r => Sys2Proof.Machine.execDirDump r s
  | .dirDumpComplete => Sys2Proof.Machine.execDirDumpComplete s
  | .dirMarkClear r => Sys2Proof.Machine.execDirMarkClear r s
  | .dirMarkClearComplete w => Sys2Proof.Machine.execDirMarkClearComplete w s
  | .foldRequest t unc => Sys2Proof.Machine.execFoldRequest t unc s
  | .blendStagedDrain t unc => Sys2Proof.Machine.execBlendStagedDrain t unc s
  | .foldResultWriteComplete f => Sys2Proof.Machine.execFoldResultWriteComplete f s
  | .foldRearm f => Sys2Proof.Machine.execFoldRearm f s
  | .foldTimeout f => Sys2Proof.Machine.execFoldTimeout f s
  | .foldOpen r => Sys2Proof.Machine.execFoldOpen r s
  | .foldClose r => Sys2Proof.Machine.execFoldClose r s
  | .foldStatus r => Sys2Proof.Machine.execFoldStatus r s
  | .instanceCreate r => Sys2Proof.Machine.execInstanceCreate r s
  | .instanceReset r => Sys2Proof.Machine.execInstanceReset r s
  | .vfFlr n => Sys2Proof.Machine.execVfFlr n s
  | .squashTimeout n => Sys2Proof.Machine.execSquashTimeout n s
  | .instanceResetDrained n => Sys2Proof.Machine.execInstanceResetDrained n s
  | .instanceFreeze r => Sys2Proof.Machine.execInstanceFreeze r s
  | .instanceFreezeComplete n => Sys2Proof.Machine.execInstanceFreezeComplete n s
  | .frozenWaitTimeout n => Sys2Proof.Machine.execFrozenWaitTimeout n s
  | .instanceSave r => Sys2Proof.Machine.execInstanceSave r s
  | .instanceSaveStart n => Sys2Proof.Machine.execInstanceSaveStart n s
  | .instanceBlobSent n => Sys2Proof.Machine.execInstanceBlobSent n s
  | .instanceRestore r => Sys2Proof.Machine.execInstanceRestore r s
  | .instanceThaw r => Sys2Proof.Machine.execInstanceThaw r s
  | .instanceDestroy r => Sys2Proof.Machine.execInstanceDestroy r s
  | .instanceStatus r => Sys2Proof.Machine.execInstanceStatus r s
  | .instanceXlateSet r => Sys2Proof.Machine.execInstanceXlateSet r s
  | .instancePoolSet r => Sys2Proof.Machine.execInstancePoolSet r s
  | .eventDeliver p => Sys2Proof.Machine.execEventDeliver p s
  | .lockGrant => Sys2Proof.Machine.execLockGrant s
  | .lockForward => Sys2Proof.Machine.execLockForward s
  | .unlockReceive p => Sys2Proof.Machine.execUnlockReceive p s
  | .lockTimeout => Sys2Proof.Machine.execLockTimeout s
  | .ioCplTimeout p src tag => Sys2Proof.Machine.execIoCplTimeout p src tag s
  | .bridgeCfg r => Sys2Proof.Machine.execBridgeCfg r s
  | .lockStatus r => Sys2Proof.Machine.execLockStatus r s
  | .mcastApertureSet r => Sys2Proof.Machine.execMcastApertureSet r s
  | .lockRelease r => Sys2Proof.Machine.execLockRelease r s
  | .fwBootReady => Sys2Proof.Machine.execFwBootReady s
  | .fwBootTimeout badHeader => Sys2Proof.Machine.execFwBootTimeout badHeader s
  | .fwWatchdogExpiry => Sys2Proof.Machine.execFwWatchdogExpiry s
  | .fwActivateTimeout => Sys2Proof.Machine.execFwActivateTimeout s
  | .mailboxDoorbell v => Sys2Proof.Machine.execMailboxDoorbell v s
  | .mctpPacketReceive v k => Sys2Proof.Machine.execMctpPacketReceive v k s
  | .bgResultExpiry => Sys2Proof.Machine.execBgResultExpiry s
  | .getIdentity r => Sys2Proof.Machine.execGetIdentity r s
  | .getMode r => Sys2Proof.Machine.execGetMode r s
  | .activateFirmware r => Sys2Proof.Machine.execActivateFirmware r s
  | .fwTransfer r => Sys2Proof.Machine.execFwTransfer r s
  | .fwEraseComplete => Sys2Proof.Machine.execFwEraseComplete s
  | .fwVerifyComplete version svn check => Sys2Proof.Machine.execFwVerifyComplete version svn check s
  | .fwTransferIdleTimeout => Sys2Proof.Machine.execFwTransferIdleTimeout s
  | .bgStatus r => Sys2Proof.Machine.execBgStatus r s
  | .paramRead r => Sys2Proof.Machine.execParamRead r s
  | .paramWrite r => Sys2Proof.Machine.execParamWrite r s
  | .paramCommit r => Sys2Proof.Machine.execParamCommit r s
  | .paramCommitComplete => Sys2Proof.Machine.execParamCommitComplete s
  | .paramList r => Sys2Proof.Machine.execParamList r s
  | .regRead r => Sys2Proof.Machine.execRegRead r s
  | .regWrite r => Sys2Proof.Machine.execRegWrite r s
  | .factoryToken r signed => Sys2Proof.Machine.execFactoryToken r signed s
  | .factoryInject r => Sys2Proof.Machine.execFactoryInject r s
  | .certWrite r => Sys2Proof.Machine.execCertWrite r s
  | .identify r => Sys2Proof.Machine.execIdentify r s
  | .backgroundOperationStatus r => Sys2Proof.Machine.execBackgroundOperationStatus r s
  | .getResponseMessageLimit r => Sys2Proof.Machine.execGetResponseMessageLimit r s
  | .setResponseMessageLimit r limit => Sys2Proof.Machine.execSetResponseMessageLimit r limit s
  | .getSupportedLogs r => Sys2Proof.Machine.execGetSupportedLogs r s
  | .getLog r => Sys2Proof.Machine.execGetLog r s
  | .getEventRecords r => Sys2Proof.Machine.execGetEventRecords r s
  | .clearEventRecords r n => Sys2Proof.Machine.execClearEventRecords r n s
  | .getEventInterruptPolicy r => Sys2Proof.Machine.execGetEventInterruptPolicy r s
  | .setEventInterruptPolicy r policy => Sys2Proof.Machine.execSetEventInterruptPolicy r policy s
  | .getFwInfo r => Sys2Proof.Machine.execGetFwInfo r s
  | .transferFw r act => Sys2Proof.Machine.execTransferFw r act s
  | .activateFw r slot now => Sys2Proof.Machine.execActivateFw r slot now s
  | .getTimestamp r => Sys2Proof.Machine.execGetTimestamp r s
  | .identifySwitchDevice r => Sys2Proof.Machine.execIdentifySwitchDevice r s
  | .getPhysicalPortState r => Sys2Proof.Machine.execGetPhysicalPortState r s
  | .physicalPortControl r p act => Sys2Proof.Machine.execPhysicalPortControl r p act s
  | .sendPpbCxlioConfigRequest r => Sys2Proof.Machine.execSendPpbCxlioConfigRequest r s
  | .getVirtualCxlSwitchInfo r => Sys2Proof.Machine.execGetVirtualCxlSwitchInfo r s
  | .bindVppb r host v edge ld => Sys2Proof.Machine.execBindVppb r host v edge ld s
  | .unbindVppb r host v mode => Sys2Proof.Machine.execUnbindVppb r host v mode s
  | .tunnelManagementCommand r => Sys2Proof.Machine.execTunnelManagementCommand r s
  | .getLdInfo r => Sys2Proof.Machine.execGetLdInfo r s
  | .getLdAllocations r => Sys2Proof.Machine.execGetLdAllocations r s
  | .identifyMemoryDevice r => Sys2Proof.Machine.execIdentifyMemoryDevice r s
  | .unsupportedStandardOpcode r => Sys2Proof.Machine.execUnsupportedStandardOpcode r s
  | .caravanHeadReceive h free => Sys2Proof.Machine.execCaravanHeadReceive h free s
  | .caravanDataReceive b free => Sys2Proof.Machine.execCaravanDataReceive b free s
  | .caravanBadBlock lost => Sys2Proof.Machine.execCaravanBadBlock lost s
  | .caravanAlignEnd => Sys2Proof.Machine.execCaravanAlignEnd s
  | .caravanCreditTransition => Sys2Proof.Machine.execCaravanCreditTransition s
  | .caravanBlockSend paused => Sys2Proof.Machine.execCaravanBlockSend paused s
  | .caravanFlushTimeout stream => Sys2Proof.Machine.execCaravanFlushTimeout stream s
  | .caravanOutputAbandon => Sys2Proof.Machine.execCaravanOutputAbandon s
  | .caravanResyncTimeout => Sys2Proof.Machine.execCaravanResyncTimeout s
  | .carCtlResync => Sys2Proof.Machine.execCarCtlResync s
  | .caravanStallTimeout => Sys2Proof.Machine.execCaravanStallTimeout s
  | .caravanAbandonTimeout => Sys2Proof.Machine.execCaravanAbandonTimeout s
  | .caravanConfig r => Sys2Proof.Machine.execCaravanConfig r s
  | .caravanStatus r => Sys2Proof.Machine.execCaravanStatus r s
  | .caravanFwReceive r => Sys2Proof.Machine.execCaravanFwReceive r s
  | .fwReceiveTimeout => Sys2Proof.Machine.execFwReceiveTimeout s
  | .faultRecordAccept => Sys2Proof.Machine.execFaultRecordAccept s
  | .compatWindowExpiry seq => Sys2Proof.Machine.execCompatWindowExpiry seq s
  | .wirePairSample pair t c => Sys2Proof.Machine.execWirePairSample pair t c s
  | .wireTimeout pair => Sys2Proof.Machine.execWireTimeout pair s
  | .collectorStart => Sys2Proof.Machine.execCollectorStart s
  | .faultRead r => Sys2Proof.Machine.execFaultRead r s
  | .faultAck r => Sys2Proof.Machine.execFaultAck r s
  | .faultPolicySet r => Sys2Proof.Machine.execFaultPolicySet r s
  | .reactionModeSet r => Sys2Proof.Machine.execReactionModeSet r s
  | .fenceRelease r => Sys2Proof.Machine.execFenceRelease r s
  | .tileReinit r => Sys2Proof.Machine.execTileReinit r s
  | .tileReinitComplete t ok => Sys2Proof.Machine.execTileReinitComplete t ok s
  | .faultStatus r => Sys2Proof.Machine.execFaultStatus r s
  | .wakeSource evs => Sys2Proof.Machine.execWakeSource evs s
  | .vrPgRise ch => Sys2Proof.Machine.execVrPgRise ch s
  | .railEnableStep straps => Sys2Proof.Machine.execRailEnableStep straps s
  | .wakeVrTimeout => Sys2Proof.Machine.execWakeVrTimeout s
  | .corePllLock => Sys2Proof.Machine.execCorePllLock s
  | .wakePllTimeout => Sys2Proof.Machine.execWakePllTimeout s
  | .keepSetRestoreDone imgBad ctlBad => Sys2Proof.Machine.execKeepSetRestoreDone imgBad ctlBad s
  | .wakeFinish => Sys2Proof.Machine.execWakeFinish s
  | .wakeRetry => Sys2Proof.Machine.execWakeRetry s
  | .vrPgFall ch => Sys2Proof.Machine.execVrPgFall ch s
  | .railRestart => Sys2Proof.Machine.execRailRestart s
  | .supplyThresholdCross m shed below => Sys2Proof.Machine.execSupplyThresholdCross m shed below s
  | .thermalThresholdCross sensor temp thr rising => Sys2Proof.Machine.execThermalThresholdCross sensor temp thr rising s
  | .shedRestore => Sys2Proof.Machine.execShedRestore s
  | .tileNapEntry t => Sys2Proof.Machine.execTileNapEntry t s
  | .tileRetainEntry t => Sys2Proof.Machine.execTileRetainEntry t s
  | .tileOffEntry t => Sys2Proof.Machine.execTileOffEntry t s
  | .tileDemandWake t => Sys2Proof.Machine.execTileDemandWake t s
  | .tileWakeComplete t ok => Sys2Proof.Machine.execTileWakeComplete t ok s
  | .eventTimerExpiry n => Sys2Proof.Machine.execEventTimerExpiry n s
  | .powerStatus r => Sys2Proof.Machine.execPowerStatus r s
  | .wakeRecord r => Sys2Proof.Machine.execWakeRecord r s
  | .powerCfg r => Sys2Proof.Machine.execPowerCfg r s
  | .powerTimerSet r => Sys2Proof.Machine.execPowerTimerSet r s
  | .tilePowerSet r => Sys2Proof.Machine.execTilePowerSet r s
  | .wakeResultClear => Sys2Proof.Machine.execWakeResultClear s
  | .presenceConfirm b => Sys2Proof.Machine.execPresenceConfirm b s
  | .presenceLoss b => Sys2Proof.Machine.execPresenceLoss b s
  | .alertChange b low => Sys2Proof.Machine.execAlertChange b low s
  | .prechargeSlotGrant => Sys2Proof.Machine.execPrechargeSlotGrant s
  | .prechargeDone b => Sys2Proof.Machine.execPrechargeDone b s
  | .prechargeTimeout b isns vout => Sys2Proof.Machine.execPrechargeTimeout b isns vout s
  | .gateRampTimeout b isns vout => Sys2Proof.Machine.execGateRampTimeout b isns vout s
  | .gateFullOn b => Sys2Proof.Machine.execGateFullOn b s
  | .pgqComplete b => Sys2Proof.Machine.execPgqComplete b s
  | .perstRelease b => Sys2Proof.Machine.execPerstRelease b s
  | .senseLimitCross b above => Sys2Proof.Machine.execSenseLimitCross b above s
  | .faultTimerExpiry b isns vout => Sys2Proof.Machine.execFaultTimerExpiry b isns vout s
  | .fastTrip b isns vout => Sys2Proof.Machine.execFastTrip b isns vout s
  | .bayUndervoltage b isns vout => Sys2Proof.Machine.execBayUndervoltage b isns vout s
  | .retryTimerExpiry b => Sys2Proof.Machine.execRetryTimerExpiry b s
  | .onStableReset b => Sys2Proof.Machine.execOnStableReset b s
  | .feedGood feedB v => Sys2Proof.Machine.execFeedGood feedB v s
  | .feedLoss feedB v => Sys2Proof.Machine.execFeedLoss feedB v s
  | .bbmComplete b above => Sys2Proof.Machine.execBbmComplete b above s
  | .powerOffGates b => Sys2Proof.Machine.execPowerOffGates b s
  | .powerOffDone b => Sys2Proof.Machine.execPowerOffDone b s
  | .bayCycleRestart b => Sys2Proof.Machine.execBayCycleRestart b s
  | .perstPulseEnd b => Sys2Proof.Machine.execPerstPulseEnd b s
  | .bayConfig r => Sys2Proof.Machine.execBayConfig r s
  | .bayPower r => Sys2Proof.Machine.execBayPower r s
  | .bayStatus r => Sys2Proof.Machine.execBayStatus r s
  | .bayFeedSet r => Sys2Proof.Machine.execBayFeedSet r s
  | .bayBusXfer r res => Sys2Proof.Machine.execBayBusXfer r res s
  | .bayBusTimeout m => Sys2Proof.Machine.execBayBusTimeout m s
  | .counterSnapshot r => Sys2Proof.Machine.execCounterSnapshot r s
  | .cntCtlSnap => Sys2Proof.Machine.execCntCtlSnap s
  | .counterRead r => Sys2Proof.Machine.execCounterRead r s
  | .counterClearSticky r => Sys2Proof.Machine.execCounterClearSticky r s
  | .csrWrite a ws whole => Sys2Proof.Machine.execCsrWrite a ws whole s
  | .rcRegisterRead a => Sys2Proof.Machine.execRcRegisterRead a s
  | .refclkReturn t => Sys2Proof.Machine.execRefclkReturn t s
  | .caravanRxLock => Sys2Proof.Machine.execCaravanRxLock s
  | .i3cDynamicAddressAssignment a => Sys2Proof.Machine.execI3cDynamicAddressAssignment a s

end Sys2Proof.Machine
end

