-- ==== Sys2Proof/Machine/Tick.lean ====
section
/-!
DEFINITION. One clock edge on which no command arrives: the counters of time that run whatever is commanded (R55, R57, R60,
R544, R586). A step on an empty queue is such an edge (log entry 2).
-/

namespace Sys2Proof.Machine

/-- One CCLK of the FTC (R55): 5 in 12, less or more one nanosecond of a slew, at most once in 24,000 CCLK (100 ppm, R57).
DESIGN CHOICE, unsafe: log entry 2. -/
def Clock.cclk (c : Clock) : Clock :=
  let wrap := decide (12 ≤ c.res + 5)
  let due := decide (23999 ≤ c.slewAge)
  let res := (c.res + 5) % 12
  if due && decide (0 < c.slew) && !wrap then { c with ftc := c.ftc + 1, res := res, slew := c.slew - 1, slewAge := 0 }
  else if due && decide (c.slew < 0) && wrap then { c with res := res, slew := c.slew + 1, slewAge := 0 }
  else { c with ftc := if wrap then c.ftc + 1 else c.ftc, res := res, slewAge := c.slewAge + 1 }

/-- Event timers 4 to 15 count down to 0 on CCLK (R73). DESIGN CHOICE, unsafe: log entry 2. -/
def Clock.timersDown (c : Clock) : Clock := { c with timers := c.timers.map fun x => (x.1, x.2 - 1) }

/-- One ACLK edge: the AOC counts (R60), and so do the enabled event timers down to 0 (R544).
DESIGN CHOICE, unsafe: log entry 2. -/
def Dev.aclk (d : Dev) : Dev :=
  let d := { d with clk := { d.clk with aoc := d.clk.aoc + 1 } }
  (List.range 4).foldl (fun d n =>
    if d.bit F.PWR_TIMER.EN n then d.put F.PWR_TIMER.COUNT n (d.get F.PWR_TIMER.COUNT n - 1) else d) d

/-- The counters of cycles whose condition holds (R217, R256, R586): stalled records, a shed stage, stragglers (R191), waiting events
(R406), requests for the lock token (R410), sleeping tiles that a demand wakes (R535), full hold queues (R236), full side
buffers that hold a head (R401), instance heads over quota (R368), held contributions (R346), waits for a floor of an egress buffer
(R217), and ports that select nothing while a queue is held (R256). DESIGN CHOICE, safe: log entry 5. -/
def Dev.cycleKeys (d : Dev) : List Nat :=
  ((if d.flt.stalled.isEmpty then [] else [cDev 7]) ++ (if d.get F.PWR_SAG_STATUS.STAGE = 0 then [] else [cDev 20]) ++
    (d.sw.mc.filter (·.started)).map (fun c => cTile c.tile.val 5) ++
    (d.ports.filter fun x => x.2.events.any fun e => decide (x.2.done < e.stamp)).map (fun x => cTile (x.1 / 8) 11) ++
    d.brg.waiters.filterMap (fun w => w.ing.map fun p => cTile (p.val / 8) 13) ++
    ((List.range 8).filter fun t => d.bit F.TIL_PWR_STATUS.WAKING t).map (fun t => cTile t 29) ++
    d.sw.pols.filterMap (fun x => x.2.bind fun q => q.hold.head?.bind fun h => if q.hold.length = d.holdMax x.1 then
      h.ing.map fun p => cEgress p.val 12 else none) ++
    (d.ports.filter fun x => d.sideHeld x.1).map (fun x => cEgress x.1 19) ++
    d.ins.waiting.map (fun i => cInst i 1) ++ d.stallKeys ++ d.busyPorts.flatMap d.holdKeys ++
    (d.bld.folds.filter fun x => !x.2.held.isEmpty && d.get F.FOLD.STATE x.1 == 1).map fun x => cTile (x.1 / 64) 25).eraseDups

/-- Every interlink releases what it can (R406). -/
def Dev.serveIls (d : Dev) : Dev := (d.il.map (·.1)).foldl Dev.ilServe d

/-- An edge without a command: time goes on, the cycles are counted, and an interlink releases what waits at its ingress (R406).
With the fabric die on it is one CCLK: 32,768 ACLK edges fall on 2.4 × 10^9 of them, 16 on 1,171,875. With the die off it is one
ACLK edge. DESIGN CHOICE, unsafe: log entry 2. -/
def Dev.tick (d : Dev) : Dev :=
  if d.powered then
    let d := { d with clk := d.clk.cclk.timersDown }
    let d := d.cycleKeys.foldl Dev.count d
    let d := d.serveIls
    let p := d.clk.phase + 16
    if p < 1171875 then { d with clk := { d.clk with phase := p } }
    else ({ d with clk := { d.clk with phase := p - 1171875 } }).aclk
  else d.aclk

end Sys2Proof.Machine
end

