-- ==== Sys2Proof/Machine/Step.lean ====
section
/-!
DEFINITION. One step: the command at the front of the queue is carried out, with the queue's rest; on an empty queue a clock
edge passes (log entry 2).
-/

namespace Sys2Proof.Machine

/-- The three outcomes of a step. -/
abbrev Step := Host.Outcome State Fault Refusal

/-- Carry out the command at the front of the queue, or let one clock edge pass. DESIGN CHOICE, unsafe: log entry 2. -/
def step (s : State) : Step :=
  match s.pending with
  | [] => s.upd s.dev.tick
  | c :: rest => exec c { s with pending := rest }

/-- The state with the command that a word spells in front of its queue; no word spells one. -/
def State.withFetchWord (s : State) (nbits w : Nat) : State :=
  match Sys2Proof.decodeTableWord nbits w with
  | some c => { s with pending := c :: s.pending }
  | none => s

end Sys2Proof.Machine
end

