-- ==== Sys2Proof/WellFormed.lean ====
section
/-!
DEFINITION. Which commands a link can carry: the lists that stand for fixed places of a flit or a block have the lengths that
R124, R149 and R468 give them.
-/

namespace Sys2Proof

/-- A PARAM body has one entry for each of the six channels (R149). -/
def IlParam.wellFormed (b : IlParam) : Bool := b.pools.length == 6 && b.freed.length == 6

/-- The slot area of a flit holds at most four slots; an IDLE flit carries one count for each of the six channels (R124,
R136). -/
def IlBody.wellFormed : IlBody → Bool
  | .data l | .replay l => decide (l.length ≤ 4)
  | .idle l => l.length == 6
  | .ctrl (.param b) => b.wellFormed
  | .ctrl _ => true

/-- A command that a link or a bus can carry; every other operand is bounded by its type. DEDUCED, safe: log entry 62. -/
def Instr.wellFormed : Instr → Bool
  | .ilFlitReceive _ f => f.flit.body.wellFormed
  | .ilParamReceive _ _ b => b.wellFormed
  | .caravanDataReceive b _ => b.length != 0 && decide (b.length ≤ 60)
  | _ => true

end Sys2Proof
end

