-- ==== Sys2Proof/Safety.lean ====
section
/-!
DEFINITION. What counts as a safe state and a safe run: the tables are canonical, the bounded queues keep their bounds, the
mode agrees with the supplies, and only commands that a link can carry wait.
-/

namespace Sys2Proof.Machine

/-- The register file and the counters are in canonical form. -/
def Dev.tablesOk (d : Dev) : Bool := Tab.wf 0 d.regs && Tab.wf 0 d.cnt && Tab.wf 0 d.shadow

/-- Every command that waits is one that a link can carry. -/
def State.queueOk (s : State) : Bool := s.pending.all Instr.wellFormed

/-- No record of an edge is left unsettled (R71, R492). -/
def Dev.quiet (d : Dev) : Bool := d.flt.arr.isEmpty

/-- A Foern request that reaches the command's own checks: the fabric die is on, the firmware answers and serves the transport,
the length is that of a request, it is no repeat (R441), and checks 1 to 5 of R445 pass. -/
def Dev.accepts (d : Dev) (r : FoernReq) (c : Cmd) : Bool :=
  let h := hdrOf c.opcode r.raw
  d.die && d.answers r.via && d.served r.via && decide (8 ≤ r.raw.length) && decide (r.raw.length ≤ r.via.largest) &&
    !d.working r.via h && (d.repeated r.via h).isNone && (d.firstFailed r c h).isNone

/-- A standard request that reaches the command's own part. -/
def Dev.acceptsStd (d : Dev) (r : FoernReq) (c : StdCmd) : Bool :=
  d.die && d.answers r.via && d.served r.via && decide (r.raw.length ≤ r.via.largest) && c.carried r.via &&
    decide (d.principal r.via ≠ .monitor) && decide (d.get F.MGT_FW_STATUS.STATE ≠ 4) && c.modes d.mode && boxMode r.via d.mode

/-- The state that a command leaves: its device `d`, with the records of the edge settled, and the queue as it was. -/
def State.after (s : State) (d : Dev) : State := { s with dev := d.settle s.dev }

/-- The state after an accepted Foern request of opcode `op` that is answered OK: its effect `d` on the device that took the
request, what PERSIST stages, and the response payload. -/
def State.okay (s : State) (r : FoernReq) (op : Nat) (d : Dev) (out : List (BitVec 8) := []) (st : List Stg := []) : State :=
  s.after ((d.persisted (hdrOf op r.raw) st).respond ((hdrOf op r.raw).rsp r.via .ok out))

/-- The state after an accepted Foern request that starts in the background, on an item (R447). -/
def State.begun (s : State) (r : FoernReq) (op : Nat) (item : Nat) (d : Dev) (st : List Stg := []) : State :=
  s.after (((d.persisted (hdrOf op r.raw) st).begin { via := r.via, hdr := hdrOf op r.raw, item := item }).respond
    ((hdrOf op r.raw).rsp r.via .ok [] true))

/-- The state after an accepted Foern request whose own check fails: nothing changes but the doorbell and the origin shown. -/
def State.declined (s : State) (r : FoernReq) (op : Nat) (x : Detail) (out : List (BitVec 8) := []) : State :=
  s.after ((s.dev.taken r.via).respond ((hdrOf op r.raw).rsp r.via x out))

/-- A step that neither faults nor refuses. -/
def State.goesOn (s : State) : Prop := ∃ t, step s = .next t

end Sys2Proof.Machine
end

