-- ==== Sys2Proof/Certificates/Slice0/Obligations.lean ====
section
/-!
DEFINITION. The statements for the provers. Each statement says what it formalises; a family's statement gives, for each of
its commands, the state that the command answers, so that everything else stays as it was. `State.after` settles the
records of the edge (R71, R492); no other queue changes.
-/

open Sys2Proof Sys2Proof.Machine

/-- O1 (95 What each step holds, R71). For every command c and state s, a step of s with c in front of its queue is exec
of c on s with the queue's rest. -/
def Obligations.StepTakesTheFront : Prop :=
  ∀ (c : Instr) (rest : List Instr) (s : State),
    step { s with pending := c :: rest } = exec c { s with pending := rest }

/-- O2 (R55, R57, R60, R73, R544, R586). A step on an empty queue answers a next state whose queue is empty (the model's
choice of an idle step: log entry 2). With the fabric die off the AOC counts one and the FTC stands; only it and the
enabled event timers change. With the die on, and no slot waiting at the ingress of an interlink, only the clocks,
those timers and the counters of cycles whose condition holds change: the FTC goes on one CCLK, each such counter
counts one, and no other counts. -/
def Obligations.IdleStepIsAnEdge : Prop :=
  ∀ s : State, s.pending = [] → s.dev.quiet = true →
    ∃ t, step s = .next t ∧ t.pending = [] ∧
      (∀ k, (∀ n < 4, k ≠ F.PWR_TIMER.COUNT.key n) → t.dev.regs.get 0 k = s.dev.regs.get 0 k) ∧
      (s.dev.powered = false → { t.dev with regs := s.dev.regs } = { s.dev with clk := { s.dev.clk with aoc := s.dev.clk.aoc + 1 } }) ∧
      (s.dev.powered = true → (∀ x ∈ s.dev.il, x.2.wait = []) →
        let keys := ({ s.dev with clk := s.dev.clk.cclk.timersDown } : Dev).cycleKeys
        { t.dev with clk := s.dev.clk, cnt := s.dev.cnt, regs := s.dev.regs } = s.dev ∧
          t.dev.clk.ftc = s.dev.clk.cclk.ftc ∧ t.dev.clk.timers = s.dev.clk.timersDown.timers ∧
          (∀ k ∉ keys, t.dev.cnt.get 0 k = s.dev.cnt.get 0 k) ∧
          (∀ k ∈ keys, t.dev.cnt.get 0 k = cntAdd (s.dev.cnt.get 0 k) 1))

/-- O3 (95 What each step holds). For every command and state, if exec answers a next state then its queue is the queue
before. -/
def Obligations.ExecKeepsTheQueue : Prop :=
  ∀ (c : Instr) (s t : State), exec c s = .next t → t.pending = s.pending

/-- O4 (R71, R124, R136, R149, R468, R492). Call a state sound if every waiting command is one that a link or a bus can
carry and no record of an edge is left unsettled. From every sound state a step answers a next state, and that state
is sound. Put any list of commands that a link or a bus can carry into the queue of the reset state: after any
number of steps the machine has neither faulted nor refused, and the queue holds the list without its first
commands. -/
def Obligations.EveryStepGoesOn : Prop :=
  (∀ s : State, s.queueOk = true → s.dev.quiet = true →
    ∃ t, step s = .next t ∧ t.queueOk = true ∧ t.dev.quiet = true) ∧
  (∀ (l : List Instr) (n : Nat), l.all Instr.wellFormed = true →
    ∃ t, Sys2Proof.core.run n { State.reset with pending := l } = .next t ∧ t.pending = l.drop n)

/-- O5 (R124, R136, R149, R468). ilFlitReceive, ilParamReceive and caravanDataReceive with list operands of a length
that the flit or block formats do not have answer the fault illFormed with their mnemonic (the model's choice: log
entry 62); with list operands of the right length they answer a next state. -/
def Obligations.IllFormedFault : Prop :=
  ∀ (s : State) (p : Fin 64) (f : IlFlit) (h : IlHdr) (b : IlParam) (l : List (BitVec 8)) (free : Fin 129)
    (crc : BitVec 64) (sym : Nat),
    (Instr.wellFormed (.ilFlitReceive p ⟨f, crc, sym⟩) = false → exec (.ilFlitReceive p ⟨f, crc, sym⟩) s = .fault (.illFormed "IL_FLIT_RECEIVE")) ∧
    (Instr.wellFormed (.ilParamReceive p h b) = false → exec (.ilParamReceive p h b) s = .fault (.illFormed "IL_PARAM_RECEIVE")) ∧
    (Instr.wellFormed (.caravanDataReceive l free) = false →
      exec (.caravanDataReceive l free) s = .fault (.illFormed "CARAVAN_DATA_RECEIVE"))

/-- O6 (R10, R34, R40, R53, R60). After VAUX power-on the C64 is in Standby with its rails off; every register field
reads its reset value; counters, FTC and AOC read 0; the log and all queues are empty; no command waits; and the
state is sound. The values of fields without a stated reset value are the model's (log entry 4). -/
def Obligations.ResetState : Prop :=
  State.reset.dev.mode = .standby ∧ State.reset.dev.powered = false ∧ State.reset.dev.die = false ∧
  (∀ (f : Fld) (i : Nat), State.reset.dev.get f i = f.rst) ∧ (∀ k, State.reset.dev.cnt.get 0 k = 0) ∧
  State.reset.dev.clk.ftc = 0 ∧ State.reset.dev.clk.aoc = 0 ∧ State.reset.dev.flt.seq = 0 ∧ State.reset.dev.logged = [] ∧
  State.reset.dev.flt.inq = [] ∧ State.reset.pending = [] ∧ State.reset.queueOk = true ∧ State.reset.dev.quiet = true ∧
  State.reset.dev.tablesOk = true

/-- O7 (R436, R441, R442, R444, R445, R462, R465). For the commands named, of every group: on a live fabric die whose
firmware answers the transport, a request of a transport that is not served, of a length that no request has, that
repeats the last one of its MCTP origin, or that fails one of checks 1 to 5 has no effect but the response (and, for
the first two, FK_MBOX_VIOL with cause 5 or 1); a repeat of one still worked on is dropped, and one of the last
answered is answered by the kept response with REPLAYED set. The first failed check is answered: the version, the
right of the principal (FACTORY_ONLY for a factory-only command, PRIVILEGE otherwise), the mode. The codes that pair
with the detail are those of R444. -/
def Obligations.RequestChecks : Prop :=
  (∀ (s : State) (r : FoernReq), s.dev.die = true → s.dev.answers r.via = true →
    ∀ p ∈ ([(.getIdentity r, { opcode := 0xC000, may := anyOne, modes := dieModes, rom := true }),
        (.activateFirmware r, { opcode := 0xC003, may := fun p _ _ => fmOnly p, modes := dieModes, rom := true }),
        (.paramRead r, parCmd 0xC006), (.paramCommit r, parCmd 0xC008), (.portConfig r, portCmd 0xC100),
        (.portStatus r, { opcode := 0xC101, may := portStatusMay, modes := dieModes }), (.routeWrite r, fmCmd 0xC200),
        (.bind r, fmCmd 0xC201), (.queueConfig r, fmCmd 0xC300), (.windowCreate r, fmCmd 0xC400),
        (.foldOpen r, { opcode := 0xC500, may := fun p _ _ => fmOnly p, modes := foldModes }), (.instanceCreate r, insCmd 0xC600),
        (.lockRelease r, fmCmd 0xC703), (.faultRead r, fltReadCmd 0xC800), (.faultAck r, fltCmd 0xC801),
        (.tileReinit r, { fltCmd 0xC805 with modes := fun m => m = .quiesce }), (.wakeRecord r, pwrCmd 0xC901),
        (.bayPower r, bayCmd 0xC981), (.counterSnapshot r, cntCmd 0xCA00), (.caravanConfig r, fmCmd 0xCB00),
        (.regRead r, regCmd 0xCC00), (.factoryToken r true, { opcode := 0xCF00, may := isFm, modes := fun m => m = .bringUp }),
        (.factoryInject r, { opcode := 0xCF01, factory := true, may := fun _ _ _ => true, modes := fun m => m = .factory }),
        (.certWrite r, { opcode := 0xCF02, factory := true, may := fun _ _ _ => true, modes := fun m => m = .factory })]
          : List (Instr × Cmd)),
    let h := hdrOf p.2.opcode r.raw
    let d := s.dev.taken r.via
    (s.dev.served r.via = false → r.via.mctp = true → exec p.1 s = .next (s.after (d.mboxViol r.via 5))) ∧
    (s.dev.served r.via = false → r.via.mctp = false →
      exec p.1 s = .next (s.after ((d.respond (h.rsp r.via .privilege [])).mboxViol r.via 5))) ∧
    (s.dev.served r.via = true → r.raw.length < 8 ∨ r.via.largest < r.raw.length →
      exec p.1 s = .next (s.after
        ((d.respond { h.rsp r.via .invalidParam [] with ret := .invalidPayloadLength }).mboxViol r.via 1))) ∧
    (s.dev.served r.via = true → 8 ≤ r.raw.length → r.raw.length ≤ r.via.largest →
      (s.dev.working r.via h = true → exec p.1 s = .next (s.after d)) ∧
      (∀ x, s.dev.working r.via h = false → s.dev.repeated r.via h = some x →
        exec p.1 s = .next (s.after { d with mgt := { d.mgt with rsp := d.mgt.rsp ++ [{ x with replayed := true }] } })) ∧
      (∀ x, s.dev.working r.via h = false → s.dev.repeated r.via h = none → s.dev.firstFailed r p.2 h = some x →
        exec p.1 s = .next (s.declined r p.2.opcode x)))) ∧
  (∀ (d : Dev) (r : FoernReq) (c : Cmd) (h : Hdr),
    let p := d.principal r.via
    let live := d.get F.MGT_FW_STATUS.STATE ≠ 4 ∨ c.rom = true
    (le r.raw 0 1 ≠ 1 → d.firstFailed r c h = some .invalidParam) ∧
    (le r.raw 0 1 = 1 → c.factory = true → p ≠ .factory → d.firstFailed r c h = some .factoryOnly) ∧
    (le r.raw 0 1 = 1 → c.factory = false → c.may p (r.raw.drop 8) h.sel = false → d.firstFailed r c h = some .privilege) ∧
    (le r.raw 0 1 = 1 → (c.factory = true → p = .factory) → (c.factory = false → c.may p (r.raw.drop 8) h.sel = true) →
      (c.modes d.mode = false ∨ ¬ live → d.firstFailed r c h = some .wrongMode) ∧
      (c.modes d.mode = true → boxMode r.via d.mode = true → live → le r.raw 1 1 ≤ 1 → noItem c.opcode = false →
        d.firstFailed r c h = none)) ∧
    (p = .monitor → fmOnly p = false) ∧
    (d.mode ≠ .factory → (∃ e, r.via = .bmcMctp e) → d.bit F.MGT_XPORT.BMC_MONITOR = true → p = .monitor) ∧
    (d.mode = .factory → d.mgt.factory = some r.via → p = .factory) ∧
    (∀ q, d.mode ≠ .factory → r.via = .hostMbox q → p = .host q)) ∧
  (Detail.ok.ret = .success ∧ Detail.privilege.ret = .unsupported ∧ Detail.factoryOnly.ret = .unsupported ∧
    Detail.wrongMode.ret = .invalidInput ∧ Detail.notQuiesced.ret = .retryRequired ∧ Detail.timeout.ret = .aborted ∧
    Detail.busyBackground.ret = .busy)

/-- O8 (R40, R42, R523, R524, R532, R533, R46, R604, R606, R19, R429, R430). VAUX_POWER_ON and VAUX_BROWNOUT complete in
every state. Each is a cold reset: the mode is Standby, the clocks, counters, directory, log and queues are as after
reset, and of the management processor the flash image slots, the boot header, the OTP values and the certificate
slots stay. At power-on Butre takes the pins: with PERST_IN# already deasserted and SYS_PWROK high the wake starts
at once with channel 0, and else the rails are off. In every state: asserting SYS_RESET# or PERST_IN# records the
level, and with the rails on is a new entry to Bring-up with cause 0x4 or 0x5 in which the boot waits (the mode is
Bring-up, the fabric die is in reset), also while Butre has begun a Standby entry and the fabric die is not yet
reset for it (R45: rank 3 pre-empts; the model's reading, log entry 33); with the die off only the level is
recorded; while it is asserted already nothing changes. Deasserting it starts the boot with the straps as they stand
if the other pin is up too and the rails are on; the deassertion of PERST_IN# is also wake source bit 0. The fall of
TEST_EN in Factory Test is a new Bring-up with cause 0x9, and changes only the pin's level otherwise. The start of a
boot latches the straps; with a reference clock present the core and management PLLs lock to the lowest tile that
has one; with BOOT_HOLD set the ROM stays in recovery, and else MGT_FW_STATUS.STATE is 0 and the ROM takes NEXT_SLOT
where it is valid and ACTIVE_SLOT otherwise, or slot A where both copies of the boot header are bad. -/
def Obligations.ResetsAndBoot : Prop :=
  (∀ (s : State) (pwrok sysRst perst testEn xtal : Bool),
    (∃ t, exec (.vauxPowerOn pwrok sysRst perst testEn xtal) s = .next t ∧ t.pending = s.pending ∧
      t.dev.mode = .standby ∧ t.dev.clk = Clock.reset ∧ t.dev.cnt = [] ∧ t.dev.coh = CohSt.reset ∧ t.dev.flt = FltSt.reset ∧
      t.dev.sw = SwSt.reset ∧ t.dev.mgt.imgA = s.dev.mgt.imgA ∧ t.dev.mgt.imgB = s.dev.mgt.imgB ∧
      t.dev.mgt.boot = s.dev.mgt.boot ∧ t.dev.mgt.svnMin = s.dev.mgt.svnMin ∧ t.dev.mgt.certs = s.dev.mgt.certs ∧
      t.dev.pwr.sysRst = sysRst ∧ t.dev.pwr.perst = perst ∧ t.dev.pwr.testEn = testEn ∧
      t.dev.bit F.PWR_STATUS.PWROK = pwrok ∧
      (if pwrok && !perst then
          t.dev.get F.PWR_STATUS.STATE = 2 ∧ t.dev.get F.PWR_STATUS.EN = 1 ∧ t.dev.pwr.seqr = .up 0 false ∧
          t.dev.get F.PWR_WAKE_SOURCE.SOURCES = 0x41
        else t.dev.get F.PWR_STATUS.STATE = 0 ∧ t.dev.get F.PWR_STATUS.EN = 0 ∧ t.dev.pwr.seqr = .idle)) ∧
    (∃ t, exec .vauxBrownout s = .next t ∧ t.pending = s.pending ∧ t.dev.mode = .standby ∧ t.dev.regs = [] ∧
      t.dev.clk = Clock.reset ∧ t.dev.cnt = [] ∧ t.dev.flt = FltSt.reset ∧ t.dev.coh = CohSt.reset ∧ t.dev.pwr = PwrSt.reset ∧
      t.dev.mgt.imgA = s.dev.mgt.imgA ∧ t.dev.mgt.boot = s.dev.mgt.boot ∧ t.dev.mgt.fuses = s.dev.mgt.fuses)) ∧
  (∀ (s : State) (straps : BitVec 7),
    let on := s.dev.get F.PWR_STATUS.STATE = 3 ∨
      (s.dev.get F.PWR_STATUS.STATE = 1 ∧ (s.dev.pwr.seqr = .entry ∨ s.dev.pwr.seqr = .saving))
    (s.dev.pwr.sysRst = true → exec .sysResetAssert s = .next (s.after s.dev)) ∧
    (s.dev.pwr.sysRst = false → on →
      ∃ t, exec .sysResetAssert s = .next t ∧ t.pending = s.pending ∧ t.dev.mode = .bringUp ∧ t.dev.die = false ∧
        t.dev.pwr.sysRst = true ∧ t.dev.pwr.perst = s.dev.pwr.perst ∧ t.dev.get F.GLB_RESET_CAUSE.CAUSE = 4 ∧ t.dev.get F.PWR_STATUS.STATE = 3 ∧
        t.dev.clk.aoc = s.dev.clk.aoc ∧ t.dev.clk.ftc = s.dev.clk.ftc ∧ t.dev.mgt.imgA = s.dev.mgt.imgA) ∧
    (s.dev.pwr.sysRst = false → ¬ on →
      exec .sysResetAssert s = .next (s.after { s.dev with pwr := { s.dev.pwr with sysRst := true } })) ∧
    (s.dev.pwr.perst = false → on →
      ∃ t, exec .perstInAssert s = .next t ∧ t.pending = s.pending ∧ t.dev.mode = .bringUp ∧ t.dev.die = false ∧
        t.dev.pwr.perst = true ∧ t.dev.pwr.sysRst = s.dev.pwr.sysRst ∧ t.dev.get F.GLB_RESET_CAUSE.CAUSE = 5 ∧ t.dev.get F.PWR_STATUS.STATE = 3 ∧
        t.dev.clk.aoc = s.dev.clk.aoc ∧ t.dev.clk.ftc = s.dev.clk.ftc) ∧
    (s.dev.pwr.perst = false → ¬ on →
      exec .perstInAssert s = .next (s.after { s.dev with pwr := { s.dev.pwr with perst := true } })) ∧
    (s.dev.pwr.perst = true → exec .perstInAssert s = .next (s.after s.dev)) ∧
    (s.dev.pwr.sysRst = false → exec (.sysResetDeassert straps) s = .next (s.after s.dev)) ∧
    (s.dev.pwr.sysRst = true → s.dev.pwr.perst = false → s.dev.get F.PWR_STATUS.STATE = 3 →
      exec (.sysResetDeassert straps) s =
        .next (s.after (Dev.strapsAre { s.dev with pwr := { s.dev.pwr with sysRst := false } } straps).bootStart)) ∧
    (s.dev.pwr.sysRst = true → (s.dev.pwr.perst = true ∨ s.dev.get F.PWR_STATUS.STATE ≠ 3) →
      exec (.sysResetDeassert straps) s = .next (s.after { s.dev with pwr := { s.dev.pwr with sysRst := false } })) ∧
    (s.dev.pwr.perst = false → exec (.perstInDeassert straps) s = .next (s.after s.dev)) ∧
    (s.dev.pwr.perst = true → (s.dev.pwr.sysRst = true ∨ s.dev.get F.PWR_STATUS.STATE ≠ 3) →
      exec (.perstInDeassert straps) s =
        .next (s.after (Dev.wakeBit { s.dev with pwr := { s.dev.pwr with perst := false } } 1))) ∧
    (s.dev.pwr.perst = true → s.dev.pwr.sysRst = false → s.dev.get F.PWR_STATUS.STATE = 3 →
      exec (.perstInDeassert straps) s =
        .next (s.after ((Dev.strapsAre { s.dev with pwr := { s.dev.pwr with perst := false } } straps).bootStart.wakeBit 1))) ∧
    (s.dev.mode ≠ .factory →
      exec .testEnDeassert s = .next (s.after { s.dev with pwr := { s.dev.pwr with testEn := false } })) ∧
    (s.dev.mode = .factory → s.dev.get F.PWR_STATUS.STATE = 3 →
      ∃ t, exec .testEnDeassert s = .next t ∧ t.pending = s.pending ∧ t.dev.mode = .bringUp ∧ t.dev.pwr.testEn = false ∧
        t.dev.get F.GLB_RESET_CAUSE.CAUSE = 9 ∧ t.dev.coh.dir = [])) ∧
  (∀ d : Dev, d.bootStart.get F.GLB_STRAP.BOOT_HOLD = d.pwr.straps.toNat / 16 % 2 ∧
    d.bootStart.get F.GLB_STRAP.PARAM_SKIP = d.pwr.straps.toNat / 64 % 2 ∧
    d.bootStart.mode = d.mode ∧ d.bootStart.clk = d.clk ∧ d.bootStart.mgt.imgA = d.mgt.imgA ∧
    (∀ t : Nat, t < 8 → d.pwr.refLost.getLsbD t = false → (∀ u < t, d.pwr.refLost.getLsbD u = true) →
      d.bootStart.get F.GLB_CLK_STATUS.REF_TILE = t ∧ d.bootStart.get F.GLB_CLK_STATUS.CORE_LOCK = 1 ∧
      d.bootStart.get F.GLB_CLK_STATUS.MGMT_LOCK = 1) ∧
    (d.pwr.refLost = 255 → d.bootStart.get F.GLB_CLK_STATUS.CORE_LOCK = 0 ∧ d.bootStart.get F.GLB_CLK_STATUS.MGMT_LOCK = 0) ∧
    (d.pwr.straps.getLsbD 4 = true → d.bootStart.get F.MGT_FW_STATUS.STATE = 4) ∧
    (d.pwr.straps.getLsbD 4 = false → d.bootStart.get F.MGT_FW_STATUS.STATE = 0 ∧
      d.bootStart.mgt.from_ = if d.mgt.boot.copies then d.mgt.boot.next.getD d.mgt.boot.active else 0))

/-- O9 (R36, R37, R40, R41, R44, R45, R373, R446, R453, R508, R528, R641). An accepted SET_MODE with a valid payload and
no transition under way: target Bring-up answers OK and enters Bring-up with cause 0x8; target Service from Quiesce
is answered at once, in Degraded while a fence is in place; target Quiesce, and Standby with no background operation
and no busy instance, is held and starts the transition, in Quiesce from that edge on. The drain's end answers OK,
or flushes the ports in layover and starts the walks on the way to Standby; the timeout ends the transition with
TIMEOUT and is logged; with a line held the walks' end answers NOT_QUIESCED, with none held it goes on to the writes
of the poison marks, which the keep set then lists, or answers POOL_EXHAUSTED where the image has more than 188,416
bytes; the last write lets Butre start the entry. In Bring-up with the firmware ready, the core PLL locked and the
collector running, Bring-up ends once its conditions hold. -/
def Obligations.ModeCommands : Prop :=
  ∀ (s : State) (r : FoernReq) (x : Trans) (failed : BitVec 8),
    (let h := hdrOf 0xC002 r.raw
     let pay := r.raw.drop 8
     let d := s.dev.taken r.via
     s.dev.accepts r { opcode := 0xC002, may := fun p _ _ => fmOnly p, modes := fun m => m = .service || m = .degraded || m = .quiesce || m = .factory } = true →
     pay.length = 4 → le pay 1 1 = 0 → le pay 2 2 ≤ 10000 → s.dev.pwr.trans = none → s.dev.mgt.held = none →
      (le pay 0 1 = 1 → exec (.setMode r) s = .next (s.after ((d.respond (h.rsp r.via .ok [])).enterBringUp 8))) ∧
      (le pay 0 1 = 2 → s.dev.mode = .quiesce →
        exec (.setMode r) s = .next (s.after
          ((d.setMode (if d.anyFence then .degraded else .service) 6).respond (h.rsp r.via .ok [])))) ∧
      (le pay 0 1 = 4 → s.dev.mode = .service ∨ s.dev.mode = .degraded →
        ∃ t, exec (.setMode r) s = .next t ∧ t.pending = s.pending ∧ t.dev.mode = .quiesce ∧
          t.dev.pwr.trans = some { target := 4, rank := 6, std := none } ∧ t.dev.brg.lock = none ∧
          t.dev.mgt.held = some { via := r.via, hdr := h } ∧ t.dev.mgt.rsp = s.dev.mgt.rsp) ∧
      (le pay 0 1 = 0 → s.dev.mode ≠ .factory → s.dev.mgt.running = [] → d.insBusy = false →
        ∃ t, exec (.setMode r) s = .next t ∧ t.pending = s.pending ∧ t.dev.mode = .quiesce ∧
          t.dev.pwr.trans = some { target := 0, rank := 6, std := some .drain } ∧
          t.dev.mgt.held = some { via := r.via, hdr := h } ∧ t.dev.mgt.rsp = s.dev.mgt.rsp)) ∧
    (s.dev.die = true → s.dev.pwr.trans = some x →
      (s.dev.drained = true → x.std = none →
        exec .quiesceDrainComplete s = .next (s.after (Dev.answerMode { s.dev with pwr := { s.dev.pwr with trans := none } } .ok))) ∧
      (s.dev.drained = true → x.std = some .drain → (∀ p < 64, (s.dev.prt p).layover = false) →
        exec .quiesceDrainComplete s =
          .next (s.after { s.dev with pwr := { s.dev.pwr with trans := some { x with std := some .walks } } })) ∧
      (x.std = none ∨ x.std = some .drain →
        exec .quiesceTimeout s = .next (s.after (Dev.answerMode { s.dev with pwr := { s.dev.pwr with trans := none } } .timeout).modeFail)) ∧
      (s.dev.drained = true → x.std = some .drain →
        ∃ t, exec .quiesceDrainComplete s = .next t ∧ t.pending = s.pending ∧ t.dev.pwr.trans = some { x with std := some .walks } ∧
          t.dev.mode = s.dev.mode ∧ t.dev.mgt.held = s.dev.mgt.held ∧ t.dev.coh.dir = s.dev.coh.dir) ∧
      (x.std = some .walks → s.dev.noDeadWalk = true → (∃ e ∈ s.dev.coh.dir, e.2.st ≠ .u) →
        exec .standbyWalksEnd s =
          .next (s.after (Dev.answerMode { s.dev with pwr := { s.dev.pwr with trans := none } } .notQuiesced))) ∧
      (x.std = some .walks → s.dev.noDeadWalk = true → (∀ e ∈ s.dev.coh.dir, e.2.st = .u ∧ e.2.poison = false) →
        (∀ e ∈ s.dev.coh.slices, e.2.marks = []) →
        exec .standbyWalksEnd s =
          .next (s.after (if 188416 < ({ s.dev with coh := { s.dev.coh with keepMarks := [] } } : Dev).keepImg.size then
              Dev.answerMode { s.dev with pwr := { s.dev.pwr with trans := none } } .poolExhausted
            else { s.dev with
              coh := { s.dev.coh with keepMarks := [] }
              pwr := { s.dev.pwr with trans := some { x with std := some .poison } } }))) ∧
      (x.std = some .walks → s.dev.noDeadWalk = true → (∀ e ∈ s.dev.coh.dir, e.2.st = .u) →
        ∃ t, exec .standbyWalksEnd s = .next t ∧ t.pending = s.pending ∧ t.dev.mode = s.dev.mode ∧
          (if 188416 < ({ s.dev with coh := { s.dev.coh with keepMarks := s.dev.markedLines } } : Dev).keepImg.size then
            t.dev.pwr.trans = none
          else t.dev.coh.keepMarks = s.dev.markedLines ∧ t.dev.pwr.trans = some { x with std := some .poison } ∧
            t.dev.mgt.held = s.dev.mgt.held)) ∧
      (x.std = some .poison → (∀ e ∈ s.dev.coh.slices, e.2.thru = [] ∧ ∀ b ∈ e.2.wbs, b.through = false) →
        ∃ t, exec .standbyPoisonWritesDone s = .next t ∧ t.pending = s.pending ∧ t.dev.get F.PWR_CTL.MODE_REQ = 1 ∧
          t.dev.get F.PWR_STATUS.STATE = 1 ∧ t.dev.pwr.seqr = .entry ∧ t.dev.pwr.pair = none ∧
          t.dev.pwr.trans = some { x with std := some .modeReq } ∧ t.dev.mgt.held = none ∧ t.dev.clk = s.dev.clk)) ∧
    (s.dev.die = true → s.dev.mode = .bringUp → s.dev.get F.MGT_FW_STATUS.STATE = 2 → s.dev.bit F.GLB_CLK_STATUS.CORE_LOCK = true →
      s.dev.flt.running = true →
      ((s.dev.selfTests failed).mayServe = true →
        exec (.bringUpComplete failed) s = .next (s.after ((s.dev.selfTests failed).setMode
          (if (s.dev.selfTests failed).anyFence then .degraded else .service) 0))) ∧
      ((s.dev.selfTests failed).mayServe = false → exec (.bringUpComplete failed) s = .next (s.after (s.dev.selfTests failed))))

/-- O10 (R41, R523, R524, R525, R527, R528, R531, R604). Each event acts in the sequencer state that waits for it. A
disable step clears VR_EN of the highest enabled channel, and with the last one the C64 is in Standby. Power-good of
the awaited channel arms the next enable step; that step raises the next enabled channel, and after the last one the
straps are taken and the PLL lock is awaited, whose arrival starts the restore. A power-good or a lock that does not
arrive in time fails the attempt on the channel or on 7 and the channels go down; a retry raises channel 0. The
entry pair is sampled once; WFI or its timeout starts the save, and the end of the save keeps the image and asserts
the fabric-die reset. The end of the restore takes a good image and the control record, or reports a bad image and
takes the control record alone; the end of the wake acts where it is awaited. In any other state these events change
nothing. -/
def Obligations.RailSequencer : Prop :=
  ∀ (s : State) (ch : Fin 6) (c k : Nat) (straps : BitVec 7) (imgBad ctlBad b : Bool)
    (img : KeepImg),
    let d := s.dev
    (d.pwr.seqr = .down b → d.topCh = some c → d.get F.PWR_STATUS.EN < 2 ^ 6 → d.get F.PWR_STATUS.EN ≠ 2 ^ c →
      exec .railDisableStep s = .next (s.after (d.put F.PWR_STATUS.EN 0 (d.get F.PWR_STATUS.EN - 2 ^ c)))) ∧
    (d.pwr.seqr = .down false → ch.val = c → d.get F.PWR_STATUS.EN = 2 ^ c → d.mode = .standby → d.pwr.latched = none →
      exec .railDisableStep s = .next (s.after { (d.put F.PWR_STATUS.EN 0 0).put F.PWR_STATUS.STATE 0 0 with
        pwr := { d.pwr with seqr := .idle } })) ∧
    (d.pwr.seqr = .idle → exec .railDisableStep s = .next (s.after d)) ∧
    (d.pwr.seqr ≠ .up ch.val false →
      exec (.vrPgRise ch) s = .next (s.after (d.put F.PWR_STATUS.PG 0 (d.get F.PWR_STATUS.PG ||| 2 ^ ch.val)))) ∧
    (d.pwr.seqr = .up ch.val false →
      exec (.vrPgRise ch) s = .next (s.after { d.put F.PWR_STATUS.PG 0 (d.get F.PWR_STATUS.PG ||| 2 ^ ch.val) with
        pwr := { d.pwr with seqr := .up ch.val true } })) ∧
    (d.pwr.seqr = .up c true → d.nextCh c = some k → exec (.railEnableStep straps) s =
      .next (s.after { d.put F.PWR_STATUS.EN 0 (d.get F.PWR_STATUS.EN ||| 2 ^ k) with
        pwr := { d.pwr with seqr := .up k ((d.get F.PWR_STATUS.PG).testBit k) } })) ∧
    (d.pwr.seqr = .up c true → d.nextCh c = none → exec (.railEnableStep straps) s =
      .next (s.after { d with pwr := { d.pwr with
        seqr := .pll, straps := (straps &&& ~~~ (0x20 : BitVec 7)) ||| (d.pwr.straps &&& (0x20 : BitVec 7)) } })) ∧
    (d.pwr.seqr = .up c true → exec .wakeVrTimeout s = .next (s.after d)) ∧
    (d.pwr.seqr = .up ch.val false → ∃ t, exec .wakeVrTimeout s = .next t ∧ t.pending = s.pending ∧
      t.dev.get F.PWR_WAKE_RESULT.FAIL_CH = ch.val ∧
      t.dev.pwr.seqr ≠ .up ch.val false ∧ t.dev.coh = CohSt.reset ∧ t.dev.clk = d.clk) ∧
    (d.pwr.seqr = .pll → exec .corePllLock s = .next (s.after { d with pwr := { d.pwr with seqr := .restore } })) ∧
    (d.pwr.seqr ≠ .pll → exec .corePllLock s = .next (s.after d) ∧ exec .wakePllTimeout s = .next (s.after d)) ∧
    (d.pwr.seqr = .pll → ∃ t, exec .wakePllTimeout s = .next t ∧ t.pending = s.pending ∧
      t.dev.get F.PWR_WAKE_RESULT.FAIL_CH = 7 ∧ t.dev.pwr.seqr ≠ .pll ∧ t.dev.coh = CohSt.reset ∧ t.dev.clk = d.clk) ∧
    (d.pwr.seqr = .retry → exec .wakeRetry s =
      .next (s.after { d.put F.PWR_STATUS.EN 0 (d.get F.PWR_STATUS.EN ||| 1) with
        pwr := { d.pwr with seqr := .up 0 ((d.get F.PWR_STATUS.PG).testBit 0) } })) ∧
    (d.powered = true → d.get F.PWR_STATUS.STATE = 1 → d.pwr.pair = none →
      exec .entryPairSample s = .next (s.after { d with
        pwr := { d.pwr with pair := some (d.clk.ftc, d.clk.aoc), rcSince := d.bit F.PWR_TIME_STATUS.RC_NOW } })) ∧
    (d.pwr.pair ≠ none → exec .entryPairSample s = .next (s.after d)) ∧
    (d.pwr.seqr = .entry →
      exec .mpWfi s = .next (s.after { d with pwr := { d.pwr with seqr := .saving } }) ∧
      exec .standbyEntryTimeout s = .next (s.after
        { (d.set F.PWR_WAKE_RESULT.NO_WFI).pendFault .modeTransitionFail (uDev 0x00) 0 modeFailAddr with
          pwr := { d.pwr with seqr := .saving } })) ∧
    (d.pwr.seqr = .idle →
      exec .mpWfi s = .next (s.after d) ∧ exec .standbyEntryTimeout s = .next (s.after d) ∧
      exec .keepSetSaveDone s = .next (s.after d) ∧ exec (.keepSetRestoreDone imgBad ctlBad) s = .next (s.after d) ∧
      exec .wakeFinish s = .next (s.after d) ∧ exec .wakeRetry s = .next (s.after d)) ∧
    (d.pwr.seqr = .restore → d.pwr.keepBad = false → d.pwr.keep = some img → (d.get F.PWR_WAKE_SOURCE.SOURCES).testBit 6 = false →
      ∃ t, exec (.keepSetRestoreDone false false) s = .next t ∧ t.pending = s.pending ∧ t.dev.pwr.seqr = .finish ∧
        t.dev.pwr.wakeBoot = true ∧ t.dev.get F.PWR_KEEP.VALID = 1 ∧ t.dev.flt.seq = d.pwr.ctl.seq ∧ t.dev.sw.rates = img.rates ∧
        t.dev.clk = d.clk ∧ t.dev.mode = d.mode) ∧
    (d.pwr.seqr = .restore → (d.get F.PWR_WAKE_SOURCE.SOURCES).testBit 6 = false →
      (d.pwr.keepBad = true ∨ (imgBad = true ∧ d.pwr.keep.isSome = true)) →
      ∃ t, exec (.keepSetRestoreDone imgBad false) s = .next t ∧ t.pending = s.pending ∧ t.dev.pwr.seqr = .finish ∧
        t.dev.pwr.wakeBoot = false ∧ t.dev.get F.PWR_KEEP.VALID = 0 ∧ t.dev.get F.PWR_WAKE_RESULT.KEEP_BAD = 1 ∧
        t.dev.flt.seq = d.pwr.ctl.seq ∧ t.dev.coh.dir = d.coh.dir ∧ t.dev.clk = d.clk) ∧
    (d.pwr.seqr = .saving → d.get F.PWR_STATUS.STATE = 1 → ∃ t, exec .keepSetSaveDone s = .next t ∧ t.pending = s.pending ∧
      t.dev.pwr.keep = some d.keepImg ∧ t.dev.pwr.keepBad = false ∧ t.dev.die = false ∧ t.dev.clk.ftc = 0 ∧
      t.dev.clk.aoc = d.clk.aoc ∧ t.dev.pwr.ctl.seq = d.flt.seq ∧ t.dev.sw = SwSt.reset ∧ t.dev.bay = d.bay) ∧
    (d.pwr.restart = false → exec .railRestart s = .next (s.after d)) ∧
    (d.pwr.restart = true →
      exec .railRestart s = .next (s.after (Dev.wakeBit { d with pwr := { d.pwr with restart := false } } 0x200)))

/-- O11 (R62). In the sequencer state that awaits the end of the wake, WAKE_FINISH loads the FTC with the FTC sampled at
entry plus the nanoseconds of the AOC's advance since, 10^9/32768 each, rounded half up; it clears MODE_REQ, sets
the status to on and ESTIMATED, and the C64 is in Bring-up. -/
def Obligations.WakeLoadsTime : Prop :=
  ∀ (s : State) (f : BitVec 64) (a : BitVec 48), s.dev.pwr.seqr = .finish → s.dev.pwr.pair = some (f, a) →
    ∃ t, exec .wakeFinish s = .next t ∧ t.pending = s.pending ∧
      t.dev.clk.ftc = f + BitVec.ofNat 64 ((2 * (s.dev.clk.aoc - a).toNat * 1000000000 + 32768) / 65536) ∧
      t.dev.clk.aoc = s.dev.clk.aoc ∧ t.dev.mode = .bringUp ∧ t.dev.get F.PWR_STATUS.STATE = 3 ∧
      t.dev.get F.PWR_CTL.MODE_REQ = 0 ∧ t.dev.get F.PWR_TIME_STATUS.ESTIMATED = 1 ∧ t.dev.get F.PWR_TIME_STATUS.LOST = 0 ∧
      t.dev.pwr.wakeRec = (a, s.dev.clk.aoc, t.dev.clk.ftc) ∧ t.dev.pwr.seqr = .idle

/-- O12 (R42, R524, R526, R531, R533, R536, R537, R538, R544). A wake source fires by the power state: in Standby with
SYS_PWROK high the wake starts, and its source shows; while the rails go down it is latched; with the rails on it is
only recorded as seen. An enabled timer of Butre that expires stops at 0, and wakes where it is claimed and enabled.
A rise of SYS_PWROK starts a latched wake; its fall with the rails off clears the wake result, and with the rails on
drops them without a keep set. A timer of the fabric die that expires stops (log entry 40). A power-good that had
not risen, or whose channel is off, changes only its bit; one that falls with the rails on is a rail loss:
FK_SUPPLY_SAG stays pending and the C64 goes to Standby. A supply below a threshold sets its bit, logs FK_SUPPLY_SAG
at L0 with the stage's cause, and sheds at once; above it again clears the bit. A warning temperature is an event
and sheds; TRIP drops the rails. One stage is restored while the conditions ask for fewer. -/
def Obligations.WakesAndSupplies : Prop :=
  ∀ (s : State) (n : Fin 16) (ch : Fin 6) (m : Fin 7) (sensor : Fin 9) (temp : BitVec 12) (v : Fin 4),
    let d := s.dev
    (d.get F.PWR_STATUS.STATE = 3 → exec (.wakeSource [.perst]) s = .next (s.after
      (Dev.put { d with pwr := { d.pwr with perst := false } } F.PWR_WAKE_SEEN.SOURCES 0 (d.get F.PWR_WAKE_SEEN.SOURCES ||| 1)))) ∧
    (d.get F.PWR_STATUS.STATE = 0 → d.bit F.PWR_STATUS.PWROK = true → d.pwr.latched = none → d.pwr.lost = false →
      ∃ t, exec (.wakeSource [.perst]) s = .next t ∧ t.pending = s.pending ∧ t.dev.get F.PWR_STATUS.STATE = 2 ∧
        t.dev.get F.PWR_STATUS.EN = 1 ∧ t.dev.get F.PWR_WAKE_SOURCE.SOURCES = 1 ∧ t.dev.pwr.seqr = .up 0 false ∧
        t.dev.pwr.latched = none) ∧
    (d.get F.PWR_STATUS.STATE = 1 → d.bit F.PWR_CTL.MODE_REQ = false → d.pwr.latched = none → d.bit F.PWR_WAKE_EN.BMC = true →
      exec (.wakeSource [.bmc]) s = .next (s.after { d with
        pwr := { d.pwr with latched := some { sources := 2, bay := 0, timer := 0 } } })) ∧
    (d.bit F.PWR_WAKE_EN.WAKE_PIN = false → exec (.wakeSource [.wakePin]) s = .next (s.after d)) ∧
    (d.bit F.PWR_TIMER.EN v.val = true → d.bit F.PWR_WAKE_EN.TIMER = false → n.val = v.val →
      exec (.eventTimerExpiry n) s = .next (s.after ((d.put F.PWR_TIMER.COUNT n.val 0).put F.PWR_TIMER.EN n.val 0))) ∧
    (d.bit F.PWR_TIMER.EN v.val = true → d.bit F.PWR_WAKE_EN.TIMER = true → d.get F.GLB_CLAIM_TIMERB.FUNC v.val = 0x200 → n.val = v.val →
      d.get F.PWR_STATUS.STATE = 0 → d.bit F.PWR_STATUS.PWROK = true → d.pwr.latched = none → d.pwr.lost = false →
      ∃ t, exec (.eventTimerExpiry n) s = .next t ∧ t.pending = s.pending ∧ t.dev.get F.PWR_TIMER.COUNT n.val = 0 ∧
        t.dev.get F.PWR_TIMER.EN n.val = 0 ∧ t.dev.get F.PWR_STATUS.STATE = 2 ∧ t.dev.get F.PWR_WAKE_SOURCE.SOURCES = 8 ∧
        t.dev.get F.PWR_WAKE_SOURCE.TIMER_IDX = n.val ∧ t.dev.pwr.seqr = .up 0 false) ∧
    (n.val < 4 → d.bit F.PWR_TIMER.EN n.val = false → exec (.eventTimerExpiry n) s = .next (s.after d)) ∧
    (4 ≤ n.val → d.die = true → exec (.eventTimerExpiry n) s = .next (s.after
      { d with clk := { d.clk with timers := d.clk.timers.filter fun x => x.1 != n.val } })) ∧
    (d.pwr.latched = none → exec .sysPwrokRise s = .next (s.after (d.set F.PWR_STATUS.PWROK))) ∧
    (d.get F.PWR_STATUS.STATE = 0 → d.pwr.latched = some { sources := 8, bay := 0, timer := v.val } →
      ∃ t, exec .sysPwrokRise s = .next t ∧ t.pending = s.pending ∧ t.dev.get F.PWR_STATUS.STATE = 2 ∧
        t.dev.get F.PWR_WAKE_SOURCE.TIMER_IDX = v.val ∧ t.dev.pwr.latched = none ∧ t.dev.pwr.seqr = .up 0 false) ∧
    (d.get F.PWR_STATUS.STATE = 0 →
      ∃ t, exec .sysPwrokFall s = .next t ∧ t.pending = s.pending ∧ t.dev.bit F.PWR_STATUS.PWROK = false ∧
        t.dev.pwr.alert = false ∧ t.dev.get F.PWR_WAKE_RESULT.RESULT = F.PWR_WAKE_RESULT.RESULT.rst ∧
        t.dev.get F.PWR_STATUS.STATE = 0 ∧ t.dev.clk = d.clk ∧ t.dev.mgt = d.mgt) ∧
    (d.get F.PWR_STATUS.STATE = 3 →
      ∃ t, exec .sysPwrokFall s = .next t ∧ t.pending = s.pending ∧ t.dev.bit F.PWR_STATUS.PWROK = false ∧ t.dev.mode = .standby ∧
        t.dev.die = false ∧ t.dev.pwr.lost = true ∧ t.dev.pwr.keep = none ∧ t.dev.pwr.restart = false ∧ t.dev.pwr.alert = false ∧
        (t.dev.get F.PWR_WAKE_SOURCE.SOURCES).testBit 7 = true ∧ t.dev.clk.ftc = 0 ∧ t.dev.clk.aoc = d.clk.aoc) ∧
    ((d.get F.PWR_STATUS.PG).testBit ch.val = false ∨ (d.get F.PWR_STATUS.EN).testBit ch.val = false →
      exec (.vrPgFall ch) s = .next (s.after (d.put F.PWR_STATUS.PG 0 (d.get F.PWR_STATUS.PG &&& (63 - 2 ^ ch.val))))) ∧
    ((d.get F.PWR_STATUS.PG).testBit ch.val = true → (d.get F.PWR_STATUS.EN).testBit ch.val = true →
      d.get F.PWR_STATUS.STATE = 3 →
      ∃ t, exec (.vrPgFall ch) s = .next t ∧ t.pending = s.pending ∧ t.dev.mode = .standby ∧ t.dev.die = false ∧
        (t.dev.get F.PWR_STATUS.PG).testBit ch.val = false ∧ t.dev.pwr.lost = true ∧ t.dev.pwr.keep = none ∧
        t.dev.clk.ftc = 0 ∧ t.dev.clk.aoc = d.clk.aoc) ∧
    (d.die = true → exec .wakeResultClear s = .next (s.after d.clearResult)) ∧
    (d.powered = true → (d.get F.PWR_SAG_STATUS.WARN).testBit m.val = false →
      exec (.supplyThresholdCross m false true) s = .next (s.after
        ((d.put F.PWR_SAG_STATUS.WARN 0 (d.get F.PWR_SAG_STATUS.WARN + 2 ^ m.val)).raise .supplySag (uDev 0x10) 0 (m.val + 0x10)
          (some 0)).shed) ∧
      exec (.supplyThresholdCross m false false) s = .next (s.after d)) ∧
    (d.powered = true → (d.get F.PWR_SAG_STATUS.SHED).testBit m.val = true → m.val < 6 →
      exec (.supplyThresholdCross m true false) s =
        .next (s.after (d.put F.PWR_SAG_STATUS.SHED 0 (d.get F.PWR_SAG_STATUS.SHED - 2 ^ m.val))) ∧
      exec (.supplyThresholdCross m true true) s = .next (s.after d)) ∧
    (d.powered = false → exec (.thermalThresholdCross sensor temp 2 true) s = .next (s.after d)) ∧
    (d.powered = true → d.get F.PWR_THERM_STATUS.LEVEL < 4 → ∃ t, exec (.thermalThresholdCross sensor temp 0 true) s = .next t ∧ t.pending = s.pending ∧
      t.dev.get F.PWR_THERM_STATUS.TEMP = temp.toNat ∧ t.dev.get F.PWR_THERM_STATUS.SENSOR = sensor.val ∧
      1 ≤ t.dev.get F.PWR_THERM_STATUS.LEVEL ∧ t.dev.mode = d.mode ∧ t.dev.clk = d.clk) ∧
    (d.powered = true → d.get F.PWR_STATUS.STATE = 3 →
      ∃ t, exec (.thermalThresholdCross sensor temp 2 true) s = .next t ∧ t.pending = s.pending ∧ t.dev.mode = .standby ∧
        t.dev.die = false ∧ t.dev.pwr.lost = true) ∧
    (d.shedWant < d.get F.PWR_SAG_STATUS.STAGE →
      exec .shedRestore s = .next (s.after (d.put F.PWR_SAG_STATUS.STAGE 0 (d.get F.PWR_SAG_STATUS.STAGE - 1)))) ∧
    (d.get F.PWR_SAG_STATUS.STAGE ≤ d.shedWant → exec .shedRestore s = .next (s.after d))

/-- O13 (R534, R535, R442, R445, R449, R543, R544). On a live fabric die: an idle Active tile whose NAP_IDLE is not 0
enters Nap and counts it; an idle Nap tile that is not being woken enters Retain where RETAIN_EN is set, no fold is
open and its links are down, losing its prefetch buffer and hints; an idle tile that is not being woken enters Off
where OFF_EN is set, its ports are disabled, no window is valid and no directory entry, mark or auxiliary cell is
held. A demand starts the wake of a sleeping tile and counts it, and does nothing to an Active or a waking one (log
entry 40); the end of the wake leaves the tile Active, or, where it fails from Off, logs FK_TILE_WAKE and leaves it
Off. Each accepted request with a payload its layout allows is answered OK. POWER_STATUS and WAKE_RECORD answer the
registers in the order of R543 and change nothing, but that WAKE_RECORD's flags clear the wake result and the
sources seen. POWER_CFG with one valid image writes it and stages it. POWER_TIMER_SET loads, claims and starts a
free timer; stopping one keeps its count and releases the claim. TILE_POWER_SET writes TIL_PWR_CTL. -/
def Obligations.TilePowerAndCommands : Prop :=
  (∀ (s : State) (t : Tile) (ok : Bool), s.dev.die = true →
    let d := s.dev
    let st := d.get F.TIL_PWR_STATUS.STATE t.val
    (st = 0 → d.get F.TIL_PWR_CTL.NAP_IDLE t.val ≠ 0 → d.tileIdle t.val = true →
      exec (.tileNapEntry t) s = .next (s.after ((d.put F.TIL_PWR_STATUS.STATE t.val 1).count (cTile t.val 26)))) ∧
    (st ≠ 0 ∨ d.get F.TIL_PWR_CTL.NAP_IDLE t.val = 0 ∨ d.tileIdle t.val = false → exec (.tileNapEntry t) s = .next (s.after d)) ∧
    (st = 1 → d.bit F.TIL_PWR_STATUS.WAKING t.val = false → d.bit F.TIL_PWR_CTL.RETAIN_EN t.val = true → d.tileIdle t.val = true →
      d.foldsFree t.val = true → (∀ k < 8, (d.prt (t.val * 8 + k)).up = false) →
      exec (.tileRetainEntry t) s = .next (s.after
        (((d.setSlice t.val { d.slice t.val with pf := [], hints := [] }).put F.TIL_PWR_STATUS.STATE t.val 2).count (cTile t.val 27)))) ∧
    (st ≠ 1 ∨ d.bit F.TIL_PWR_CTL.RETAIN_EN t.val = false → exec (.tileRetainEntry t) s = .next (s.after d)) ∧
    (st < 3 → d.bit F.TIL_PWR_STATUS.WAKING t.val = false → d.bit F.TIL_PWR_CTL.OFF_EN t.val = true → d.tileIdle t.val = true →
      d.foldsFree t.val = true → (∀ k < 8, d.get F.PRT_CFG.PERSONALITY (t.val * 8 + k) = 0) → d.anyWindow = false →
      (∀ e ∈ d.coh.dir, e.1 / 16 / 2 ^ 18 ≠ t.val) → (d.slice t.val).marks = [] →
      d.auxUsed t.val .straggler = 0 → d.auxUsed t.val .blend = 0 → d.auxUsed t.val .telemetry = 0 →
      exec (.tileOffEntry t) s = .next (s.after
        (((d.setSlice t.val Slice.empty).put F.TIL_PWR_STATUS.STATE t.val 3).count (cTile t.val 28)))) ∧
    (st = 3 ∨ d.bit F.TIL_PWR_CTL.OFF_EN t.val = false → exec (.tileOffEntry t) s = .next (s.after d)) ∧
    (st = 0 → exec (.tileDemandWake t) s = .next (s.after d)) ∧
    (d.bit F.TIL_PWR_STATUS.WAKING t.val = true → exec (.tileDemandWake t) s = .next (s.after d)) ∧
    (st ≠ 0 → d.bit F.TIL_PWR_STATUS.WAKING t.val = false → exec (.tileDemandWake t) s = .next (s.after ((d.set F.TIL_PWR_STATUS.WAKING t.val).count (cTile t.val 29)))) ∧
    (d.bit F.TIL_PWR_STATUS.WAKING t.val = true → st ≠ 3 →
      exec (.tileWakeComplete t ok) s =
        .next (s.after ((d.put F.TIL_PWR_STATUS.WAKING t.val 0).put F.TIL_PWR_STATUS.STATE t.val 0))) ∧
    (d.bit F.TIL_PWR_STATUS.WAKING t.val = true → st = 3 →
      exec (.tileWakeComplete t true) s = .next (s.after
        (((d.put F.TIL_PWR_STATUS.WAKING t.val 0).freshSlice t.val).put F.TIL_PWR_STATUS.STATE t.val 0))) ∧
    (d.bit F.TIL_PWR_STATUS.WAKING t.val = true → st = 3 →
      exec (.tileWakeComplete t false) s =
        .next (s.after ((d.put F.TIL_PWR_STATUS.WAKING t.val 0).raise .tileWake (uTile t.val 0x17) t.val t.val (some 2)))) ∧
    (d.bit F.TIL_PWR_STATUS.WAKING t.val = false → exec (.tileWakeComplete t ok) s = .next (s.after d))) ∧
  (∀ (s : State) (r : FoernReq) (n v : Nat),
    let pay := r.raw.drop 8
    let d := s.dev.taken r.via
    (s.dev.accepts r { opcode := 0xC900, may := fun p _ _ => fmOrMonitor p, modes := dieModes } = true → pay = [] →
      exec (.powerStatus r) s = .next (s.okay r 0xC900 d
        (([Reg.PWR_STATUS, .PWR_WAKE_SOURCE, .PWR_WAKE_RESULT, .PWR_TIME_STATUS, .PWR_SAG_STATUS, .PWR_THERM_STATUS].flatMap
            fun x => bytes 4 (d.word x)) ++ bytes 4 (Config.vid + d.get F.PWR_AVS.APPLIED * 256) ++ bytes 4 (d.word .PWR_KEEP) ++
          (List.range 8).map fun t => BitVec.ofNat 8 (d.word .TIL_PWR_STATUS t)))) ∧
    (s.dev.accepts r (pwrCmd 0xC901) = true → pay = bytes 4 v → v < 4 →
      exec (.wakeRecord r) s = .next (s.okay r 0xC901
        (let e := if v % 2 = 1 then d.clearResult else d
         if 2 ≤ v then e.put F.PWR_WAKE_SEEN.SOURCES 0 0 else e)
        (bytes 4 (d.word .PWR_WAKE_SOURCE) ++ bytes 4 (d.word .PWR_WAKE_SEEN) ++ bytes 4 (d.word .PWR_WAKE_RESULT) ++
          bytes 4 0 ++ bytes 8 d.pwr.wakeRec.1.toNat ++ bytes 8 d.pwr.wakeRec.2.1.toNat ++ bytes 8 d.pwr.wakeRec.2.2.toNat))) ∧
    (s.dev.accepts r (pwrCmd 0xC902) = true → pay = bytes 4 2 ++ bytes 4 0 ++ bytes 4 v ++ bytes 16 0 → v < 2 ^ 7 →
      exec (.powerCfg r) s = .next (s.okay r 0xC902 (d.putWord .PWR_WAKE_EN 0 v) []
        ((d.putWord .PWR_WAKE_EN 0 v).stageNow 0x9001 [0]))) ∧
    (s.dev.accepts r (pwrCmd 0xC903) = true → (hdrOf 0xC903 r.raw).sel = BitVec.ofNat 16 n → n < 4 →
      (pay = bytes 4 1 ++ bytes 4 v → 0 < v → v < 2 ^ 31 →
        d.get F.GLB_CLAIM_TIMERB.FUNC n = 0 ∨ d.get F.GLB_CLAIM_TIMERB.FUNC n = 0x200 →
        exec (.powerTimerSet r) s = .next (s.okay r 0xC903
          (((d.put F.GLB_CLAIM_TIMERB.FUNC n 0x200).put F.PWR_TIMER.COUNT n v).set F.PWR_TIMER.EN n))) ∧
      (pay = bytes 8 0 → d.get F.GLB_CLAIM_TIMERB.FUNC n = 0x200 →
        exec (.powerTimerSet r) s = .next (s.okay r 0xC903
          (((d.put F.PWR_TIMER.EN n 0).put F.GLB_CLAIM_TIMERB.FUNC n 0).put F.GLB_CLAIM_TIMERB.SELECTOR n 0xFFFF)))) ∧
    (s.dev.accepts r (pwrCmd 0xC904) = true → (hdrOf 0xC904 r.raw).sel = BitVec.ofNat 16 n → n < 8 → pay = bytes 4 v → v < 2 ^ 26 →
      v.testBit 11 = false → exec (.tilePowerSet r) s = .next (s.okay r 0xC904 (d.putWord .TIL_PWR_CTL n v))))

/-- O14 (R55). From any clock state with no slew to apply, n times 12 CCLK advance the FTC by exactly 5 n and leave the
residue modulo 12 as it was; in each CCLK it rises by 0 or 1. -/
def Obligations.FtcRate : Prop :=
  ∀ (c : Clock) (n : Nat), c.slew = 0 → c.res < 12 →
    (Nat.repeat Clock.cclk (12 * n) c).ftc = c.ftc + BitVec.ofNat 64 (5 * n) ∧ (Nat.repeat Clock.cclk (12 * n) c).res = c.res ∧
    (c.cclk.ftc = c.ftc ∨ c.cclk.ftc = c.ftc + 1)

/-- O15 (R20, R21, R56, R57, R64, R148, R608, R72, R74, R605, R612). On a live die a discipline update with source PTM
on a standard port that is up applies the offset: up to tSTEP it is slewed with the FTC running on, beyond it the
FTC is stepped by it with a time-step event of the old value, and ESTIMATED, LOW_ACCURACY and LOST clear; an update
that finds no answer sets TIME_FAIL; toward an interlink partner that is up it queues a TIME_REQ under the next
request ID; free-running nothing happens. Losing the reference clock that the core PLL follows takes both locks and
logs FK_REFCLK_LOSS at L3, another one logs it for its tile; its return is recorded. A stop of the crystal sets
RC_NOW and RC_SEEN and with the die powered logs FK_AOC_SOURCE at L0; a stable crystal clears RC_NOW. On a live die:
writing 0 to a claim register releases the GPIO; writing a function code of R612 claims a free GPIO and changes
nothing on one that holds the code; on a GPIO that another code holds, or with a code that may not be written, the
write is refused and sets GLB_ERR.CLAIM. A pulse output makes one edge on a GPIO claimed for it and a capture input
takes the FTC; on other GPIOs nothing happens. GLB_TIME_CTL takes a write; GLB_NODE takes one in Bring-up and
Quiesce, and elsewhere the write is ignored and sets MODE_WRITE. -/
def Obligations.TimeClocksAndGpio : Prop :=
  (∀ (s : State) (off : BitVec 64) (t : Tile),
    let d := s.dev
    let p := d.get F.GLB_TIME_CTL.PORT
    (d.die = true → d.get F.GLB_TIME_CTL.SOURCE = 0 → exec (.disciplineUpdate (some off)) s = .next (s.after d)) ∧
    (d.die = true → d.get F.GLB_TIME_CTL.SOURCE = 1 → exec (.disciplineUpdate none) s = .next (s.after (d.set F.GLB_ERR.TIME_FAIL))) ∧
    (d.die = true → d.get F.GLB_TIME_CTL.SOURCE = 1 → (d.prt p).up = true → d.isIl p = false → off.toInt.natAbs ≤ d.stepNs →
      ∃ u, exec (.disciplineUpdate (some off)) s = .next u ∧ u.pending = s.pending ∧
        u.dev.clk = { d.clk with slew := off.toInt, slewAge := 0 } ∧ u.dev.get F.PWR_TIME_STATUS.ESTIMATED = 0 ∧
        u.dev.get F.PWR_TIME_STATUS.LOST = 0 ∧ u.dev.get F.PWR_TIME_STATUS.LOW_ACCURACY = 0 ∧ u.dev.mgt = d.mgt) ∧
    (d.die = true → d.get F.GLB_TIME_CTL.SOURCE = 1 → (d.prt p).up = true → d.isIl p = false → d.stepNs < off.toInt.natAbs →
      ∃ u, exec (.disciplineUpdate (some off)) s = .next u ∧ u.pending = s.pending ∧ u.dev.clk.ftc = d.clk.ftc + off ∧
        u.dev.clk.slew = 0 ∧ u.dev.clk.aoc = d.clk.aoc ∧ u.dev.get F.PWR_TIME_STATUS.ESTIMATED = 0) ∧
    (d.die = true → d.get F.GLB_TIME_CTL.SOURCE = 2 → (d.prt p).up = true → d.isIl p = true → (d.ilRt p).timeReq = none →
      exec (.disciplineUpdate (some off)) s = .next (s.after
        ((d.setIl p { d.ilRt p with timeId := (d.ilRt p).timeId + 1 }).ilQueueCtrl p (.timeReq (d.ilRt p).timeId 0)))) ∧
    (d.die = true → d.pwr.refLost.getLsbD t.val = false → d.bit F.GLB_CLK_STATUS.CORE_LOCK = true →
      d.get F.GLB_CLK_STATUS.REF_TILE = t.val →
      exec (.refclkLoss t) s = .next (s.after
        ((({ d with pwr := { d.pwr with refLost := d.pwr.refLost ||| BitVec.ofNat 8 (2 ^ t.val) } } : Dev).put
          F.GLB_CLK_STATUS.CORE_LOCK 0 0).put F.GLB_CLK_STATUS.MGMT_LOCK 0 0 |>.raise .refclkLoss (uDev 0x02) 0 (t.val + 256)
            (some 3) .device))) ∧
    (d.die = true → d.pwr.refLost.getLsbD t.val = false → d.get F.GLB_CLK_STATUS.REF_TILE ≠ t.val →
      exec (.refclkLoss t) s = .next (s.after
        (({ d with pwr := { d.pwr with refLost := d.pwr.refLost ||| BitVec.ofNat 8 (2 ^ t.val) } } : Dev).raise .refclkLoss
          (uTile t.val 0x17) t.val t.val))) ∧
    (d.pwr.refLost.getLsbD t.val = true → exec (.refclkLoss t) s = .next (s.after d)) ∧
    exec (.refclkReturn t) s =
      .next (s.after { d with pwr := { d.pwr with refLost := d.pwr.refLost &&& ~~~ BitVec.ofNat 8 (2 ^ t.val) } }) ∧
    (d.bit F.PWR_TIME_STATUS.RC_NOW = true → exec .crystalStop s = .next (s.after d)) ∧
    (d.bit F.PWR_TIME_STATUS.RC_NOW = false → d.powered = false → exec .crystalStop s = .next (s.after
      { (d.set F.PWR_TIME_STATUS.RC_NOW).set F.PWR_TIME_STATUS.RC_SEEN with pwr := { d.pwr with rcSince := true } })) ∧
    (d.bit F.PWR_TIME_STATUS.RC_NOW = false → d.powered = true →
      ∃ u, exec .crystalStop s = .next u ∧ u.pending = s.pending ∧ u.dev.get F.PWR_TIME_STATUS.RC_NOW = 1 ∧
        u.dev.get F.PWR_TIME_STATUS.RC_SEEN = 1 ∧ u.dev.pwr = { d.pwr with rcSince := true } ∧ u.dev.clk = d.clk) ∧
    exec .crystalStable s = .next (s.after (d.put F.PWR_TIME_STATUS.RC_NOW 0 0))) ∧
  (∀ (s : State) (n : Fin 16) (v : BitVec 32), s.dev.die = true →
    let d := s.dev
    let code := v.toNat % 65536
    let cur := d.get F.GLB_CLAIM_GPIO.FUNC n.val
    (code = 0 → exec (.glbClaimGpioWrite n v) s = .next (s.after (d.put F.GLB_CLAIM_GPIO.FUNC n.val 0))) ∧
    (0x100 ≤ code → code ≤ 0x104 → cur = 0 ∨ cur = code →
      exec (.glbClaimGpioWrite n v) s = .next (s.after (d.put F.GLB_CLAIM_GPIO.FUNC n.val code))) ∧
    (0x100 ≤ code → code ≤ 0x104 → cur ≠ 0 → cur ≠ code →
      exec (.glbClaimGpioWrite n v) s = .next (s.after (d.set F.GLB_ERR.CLAIM))) ∧
    (0x106 ≤ code ∨ (code = 0x105 ∧ d.mode ≠ .factory) ∨ (0 < code ∧ code < 0x100) →
      exec (.glbClaimGpioWrite n v) s = .next (s.after (d.set F.GLB_ERR.CLAIM))) ∧
    (cur = 0x101 → exec (.ftcPulseOutput n) s =
      .next (s.after { d with pwr := { d.pwr with pulses := d.pwr.pulses.modify 0 n.val (· + 1) } })) ∧
    (cur ≠ 0x101 → exec (.ftcPulseOutput n) s = .next (s.after d)) ∧
    (cur = 0x102 → exec (.ftcCaptureInput n) s =
      .next (s.after { d with pwr := { d.pwr with captures := d.pwr.captures.put 0 n.val d.clk.ftc } })) ∧
    (cur ≠ 0x102 → exec (.ftcCaptureInput n) s = .next (s.after d)) ∧
    exec (.glbTimeCtlWrite v) s = .next (s.after (d.putWord .GLB_TIME_CTL 0 v.toNat)) ∧
    (d.mode = .bringUp ∨ d.mode = .quiesce → exec (.glbNodeWrite v) s = .next (s.after (d.putWord .GLB_NODE 0 v.toNat))) ∧
    (d.mode ≠ .bringUp → d.mode ≠ .quiesce → exec (.glbNodeWrite v) s = .next (s.after (d.set F.GLB_ERR.MODE_WRITE))))

/-- O16 (R35, R587, R588, R591, R594). Counting n events in a counter: if the sum does not pass 0xFFFF_FFFF_FFFF the
counter reads the sum and its OVF bit is as before; if it does, the counter keeps the low 48 bits and OVF is set;
every other counter and all else stay. OVF of a counter is cleared by COUNTER_CLEAR_STICKY and on entry to Bring-up.
On a live die CNT_CTL.SNAP, and an accepted COUNTER_SNAPSHOT, copy every counter to its shadow with the captures of
R588, capture FTC and AOC, and advance CNT_SNAP_COUNT; the command answers that count and the FTC. An accepted
COUNTER_READ of counters of one bank answers their records, live or from the shadow, and changes nothing. An
accepted COUNTER_CLEAR_STICKY with a count of 0 clears every OVF bit and answers how many were set. -/
def Obligations.CountersAndCommands : Prop :=
  (∀ (d : Dev) (k n v : Nat) (o : Bool), v < 2 ^ 48 → d.cnt.get 0 k = v + (if o then 2 ^ 48 else 0) →
    (v + n < 2 ^ 48 → (d.count k n).cnt.get 0 k = v + n + (if o then 2 ^ 48 else 0)) ∧
    (2 ^ 48 ≤ v + n → (d.count k n).cnt.get 0 k = (v + n) % 2 ^ 48 + 2 ^ 48) ∧
    (∀ j, j ≠ k → (d.count k n).cnt.get 0 j = d.cnt.get 0 j) ∧ { d.count k n with cnt := d.cnt } = d ∧
    (∀ keep, (d.warmReset keep).cnt = []) ∧ 
    (Tab.wf 0 d.cnt = true → (d.clearOvf fun _ => true).1.cnt.get 0 k = v)) ∧
  (∀ (s : State) (r : FoernReq) (a n : Nat) (live : Bool),
    let pay := r.raw.drop 8
    let d := s.dev.taken r.via
    (s.dev.die = true → exec .cntCtlSnap s = .next (s.after s.dev.snapshot)) ∧
    (s.dev.die = true → s.dev.quiet = true → ∃ t, exec .cntCtlSnap s = .next t ∧ t.dev.cnt = s.dev.cnt ∧
      (∀ k, k < cntKey 0x1000 ∨ cntKey 0x3000 < k → t.dev.shadow.get 0 k = s.dev.cnt.get 0 k) ∧
      t.dev.get F.CNT_SNAP_FTC.FTC = s.dev.clk.ftc.toNat ∧ t.dev.get F.CNT_SNAP_AOC.AOC = s.dev.clk.aoc.toNat ∧
      t.dev.get F.CNT_SNAP_COUNT.COUNT = (s.dev.get F.CNT_SNAP_COUNT.COUNT + 1) % 2 ^ 32) ∧
    (s.dev.accepts r (cntCmd 0xCA00) = true → pay = [] → exec (.counterSnapshot r) s = .next (s.okay r 0xCA00 d.snapshot
      (bytes 4 (d.snapshot.get F.CNT_SNAP_COUNT.COUNT) ++ bytes 4 0 ++ bytes 8 d.clk.ftc.toNat))) ∧
    (s.dev.accepts r (cntCmd 0xCA01) = true → pay = bytes 4 a ++ bytes 2 n ++ bytes 2 (if live then 1 else 0) → a < 2 ^ 32 →
      0 < n → n ≤ 496 → cntRange a n = true →
      exec (.counterRead r) s = .next (s.okay r 0xCA01 d (bytes 4 (d.get F.CNT_SNAP_COUNT.COUNT) ++ bytes 4 0 ++
        (List.range n).flatMap fun k => cntRecord ((if live then d.cnt else d.shadow).get 0 (a / 8 + k))))) ∧
    (s.dev.accepts r (cntCmd 0xCA02) = true → pay = bytes 8 0 →
      exec (.counterClearSticky r) s = .next (s.okay r 0xCA02 (d.clearOvf fun _ => true).1
        (bytes 4 (d.cnt.filter fun x => decide (2 ^ 48 ≤ x.2)).length))))

/-- O17 (R9, R107, R264, R597, R598, R445, R449, R458, R459, R612). On a live die a CSR write whose byte enables are all
set writes its words in increasing address order, each to the place the address is mapped to; a partial one is
discarded whole and sets BAR_PARTIAL. A DVSEC write to a port that is no host port, or to a word that is not plain,
does nothing. A read through BAR 2 answers the word shown there and clears what is RC; an unmapped address reads 0
and changes nothing else. A plain write gives RW fields their bits and clears RW1C bits written as 1: GLB_NODE's and
TIL_ERR's fields show both. An accepted REG_READ of 1 to 256 words that are all mapped in one block answers the
words in increasing address order and clears what is RC; an accepted REG_WRITE of such words writes them in order
and stages with PERSIST the parameters they belong to. Words that are not so mapped are answered INVALID_PARAM and
nothing changes. -/
def Obligations.RegisterAccess : Prop :=
  (∀ (s : State) (a : BitVec 28) (ws : List (BitVec 32)) (w : BitVec 32) (x : Place) (p : Fin 64) (word : Fin 3) (word4 : Fin 4) (t : Fin 8) (v : Nat),
    let d := s.dev
    (d.die = true →
      exec (.csrWrite (.csr a) (w :: ws) true) s = .next (s.after
        ((match place a.toNat with
          | some x => d.csrWrite x w.toNat
          | none => d).csrWrites (a.toNat + 4) ws)) ∧
      exec (.csrWrite (.csr a) (w :: ws) false) s = .next (s.after (d.set F.GLB_ERR.BAR_PARTIAL)) ∧
      (d.isHost p.val = false →
        exec (.csrWrite (.portIdentity p word) ws true) s = .next (s.after d) ∧
        exec (.csrWrite (.fwdExt p word4) ws true) s = .next (s.after d)) ∧
      (d.isHost p.val = true → exec (.csrWrite (.fwdExt p 1) (w :: ws) true) s = .next (s.after (d.plainWrite .FWDV_10 p.val w.toNat))) ∧
      (place a.toNat = none → exec (.rcRegisterRead a) s = .next (s.after { d with rdata := 0 })) ∧
      (place a.toNat = some x → exec (.rcRegisterRead a) s =
        .next (s.after { d.readClear x with rdata := BitVec.ofNat 32 (d.viewPlace x) }))) ∧
    (d.plainWrite .TIL_ERR t.val v).get F.TIL_ERR.ROUTE_MISS t.val =
      (if v.testBit F.TIL_ERR.ROUTE_MISS.lo then 0 else d.get F.TIL_ERR.ROUTE_MISS t.val % 2) ∧
    (d.plainWrite .GLB_NODE 0 v).get F.GLB_NODE.FN_EDGE = v / 2 ^ F.GLB_NODE.FN_EDGE.lo % 2 ^ F.GLB_NODE.FN_EDGE.w ∧
    (d.csrWrite .zero v = d ∧ d.readClear .zero = d) ∧
    ((d.readClear (.reg .FLT_LOST 0)).get F.FLT_LOST.LOST = 0)) ∧
  (∀ (s : State) (r : FoernReq) (a n : Nat) (ws : List (BitVec 8)) (l : List Place), 0 < n → n ≤ 256 → a < 2 ^ 32 →
    let pay := r.raw.drop 8
    let d := s.dev.taken r.via
    (s.dev.accepts r (regCmd 0xCC00) = true → pay = bytes 4 a ++ bytes 4 n →
      (placesOf a n = some l → exec (.regRead r) s = .next (s.okay r 0xCC00 (d.readAll l).2 (d.readAll l).1)) ∧
      (placesOf a n = none → exec (.regRead r) s = .next (s.declined r 0xCC00 .invalidParam))) ∧
    (s.dev.accepts r (regCmd 0xCC01) = true → pay = bytes 4 a ++ bytes 4 n ++ ws → ws.length = 4 * n →
      (placesOf a n = some l → (d.writeAll (l.zip (wordsOf ws))).1 = none →
        exec (.regWrite r) s = .next (s.okay r 0xCC01 (d.writeAll (l.zip (wordsOf ws))).2 []
          ((d.writeAll (l.zip (wordsOf ws))).2.stagePlaces l ++ stageCfg (l.zip (wordsOf ws))))) ∧
      (placesOf a n = none → exec (.regWrite r) s = .next (s.declined r 0xCC01 .invalidParam))))

/-- O18 (R430, R437, R438, R441, R462, R613, R614, R615, R616). On a live die: ringing the doorbell of a mailbox that
exists and is not busy sets its bell; ringing a busy one is ignored and logged as FK_MBOX_VIOL with cause 2; one
that does not exist changes nothing. A single-packet message on a served transport waits for the firmware; a packet
without an open assembly is dropped with cause 3; a start of message opens an assembly in place of its tag's, and
one beyond eight is dropped with cause 4; the five control messages of R438 are answered, Set Endpoint ID after it
has stored the ID. A dynamic address assignment or RSTDAA on the BMC bus stores what is held, but not in ROM
recovery. -/
def Obligations.MailboxesAndMctp : Prop :=
  ∀ (s : State) (v : Transport) (seq : Fin 4) (tag : Fin 8) (b : List (BitVec 8)) (e : BitVec 8) (i3c : Option (BitVec 7)),
    s.dev.die = true →
    let d := s.dev
    let out (d : Dev) (x : MctpAns) : Dev := { d with mgt := { d.mgt with ctlOut := d.mgt.ctlOut ++ [(v, x)] } }
    (d.hasMbox v = true → d.bell v = false → exec (.mailboxDoorbell v) s = .next (s.after (d.setBell v))) ∧
    (d.hasMbox v = true → d.bell v = true → exec (.mailboxDoorbell v) s = .next (s.after (d.mboxViol v 2))) ∧
    (d.hasMbox v = false → exec (.mailboxDoorbell v) s = .next (s.after d)) ∧
    (v.mctp = false → exec (.mctpPacketReceive v (.packet true true seq tag b)) s = .next (s.after d)) ∧
    (d.mctpUp v = true → b.length ≤ 64 →
      (d.asmOf v tag = none → exec (.mctpPacketReceive v (.packet false true seq tag b)) s = .next (s.after (d.mboxViol v 3))) ∧
      (d.mgt.asm = [] → d.served v = true → (v, b) ∉ d.mgt.inbox →
        exec (.mctpPacketReceive v (.packet true true seq tag b)) s =
          .next (s.after { d with mgt := { d.mgt with inbox := d.mgt.inbox ++ [(v, b)] } })) ∧
      (d.mgt.asm = [] → exec (.mctpPacketReceive v (.packet true false seq tag b)) s =
          .next (s.after { d with mgt := { d.mgt with asm := [{ via := v, tag := tag, next := seq + 1, bytes := b }] } })) ∧
      (8 ≤ d.mgt.asm.length → d.asmOf v tag = none →
        exec (.mctpPacketReceive v (.packet true true seq tag b)) s = .next (s.after (d.mboxViol v 4)))) ∧
    (d.mctpUp v = true →
      exec (.mctpPacketReceive v (.control (.setEid e))) s = .next (s.after (out (d.put F.MGT_MCTP_STATUS.EID 0 e.toNat) (.eid e))) ∧
      exec (.mctpPacketReceive v (.control .getEid)) s =
        .next (s.after (out d (.eid (BitVec.ofNat 8 (d.get F.MGT_MCTP_STATUS.EID))))) ∧
      exec (.mctpPacketReceive v (.control .getUuid)) s = .next (s.after (out d .uuid)) ∧
      exec (.mctpPacketReceive v (.control .getVersions)) s = .next (s.after (out d .versions)) ∧
      exec (.mctpPacketReceive v (.control .getTypes)) s = .next (s.after (out d (.types [.control, .fmApi, .cci]))) ∧
      exec (.mctpPacketReceive v (.control .other)) s = .next (s.after d)) ∧
    (d.get F.MGT_FW_STATUS.STATE = 4 → exec (.i3cDynamicAddressAssignment i3c) s = .next (s.after d)) ∧
    (d.get F.MGT_FW_STATUS.STATE ≠ 4 →
      exec (.i3cDynamicAddressAssignment i3c) s = .next (s.after { d with mgt := { d.mgt with i3cAddr := i3c } }))

/-- O19 (R91, R97, R98, R99, R106, R107, R112, R115, R240, R537). On a live die: the end of training of a port that may
train, and whose lost IDE session is not still missing, brings it up in L0 at the highest rate both ends advertise
or the lower one that passed equalisation, at most MAX_RATE, at the widest width up to the configured one and in the
preferred flit format on offer; its lanes show signal, a degraded result sets DEGRADED, and every other port stays
as it was; where IDE comes up with it IDE_ACTIVE is set. A port that may not train is left alone. The partner's
identity is written and confirmed as its source gives it, 0 with no source; a confirmed identity equal to the
reference of a running layover ends the window, where IDE_REQUIRED is 0; with no layover it only is recorded.
Nothing is confirmed on an interlink, on a port that is down or from an absent source. PORT_IDENTITY's VALID is
recorded, and submits IDENT on a host port that is up with that source. L0p at an interval changes the width when
the partner grants it, notes the wait while it has not answered, and does nothing where the width asked for is the
present one; a partner's request between MIN_WIDTH and the trained width is granted, another one refused. -/
def Obligations.PortTraining : Prop :=
  ∀ (s : State) (p : Port) (eq width : Fin 8) (flits : BitVec 3) (rev ide : Bool) (partner : Fin 8) (v : BitVec 64)
    (x y : Fin 128) (held : Bool) (w : Nat) (id : Option (BitVec 64)), s.dev.die = true →
    let d := s.dev
    let wide := min width.val (d.get F.PRT_CFG.WIDTH p.val)
    let top := d.bothRate p.val partner.val flits
    let rate := min top eq.val
    let ended (t : State) : Prop := t.pending = s.pending ∧
        (t.dev.prt p.val).up = true ∧ t.dev.get F.PRT_STATUS.LTSSM p.val = 4 ∧ t.dev.get F.PRT_STATUS.DL_ACTIVE p.val = 1 ∧
        t.dev.get F.PRT_STATUS.RATE p.val = rate ∧ t.dev.get F.PRT_STATUS.WIDTH_NOW p.val = wide ∧
        t.dev.get F.PRT_STATUS.WIDTH_TRAINED p.val = wide ∧
        t.dev.get F.PRT_STATUS.FLIT p.val = d.flitFormat p.val rate flits ∧
        t.dev.get F.PRT_STATUS.LANE_REVERSED p.val = (if rev then 1 else 0) ∧
        t.dev.get F.PRT_LANE.SIGNAL p.val = 2 ^ 2 ^ (wide - 1) - 1 ∧
        (wide < d.get F.PRT_CFG.WIDTH p.val ∨ rate < top → t.dev.get F.PRT_ERR.DEGRADED p.val = 1) ∧
        (wide = d.get F.PRT_CFG.WIDTH p.val → rate = top → t.dev.get F.PRT_ERR.DEGRADED p.val = d.get F.PRT_ERR.DEGRADED p.val) ∧
        (∀ q, q ≠ p.val → t.dev.prt q = d.prt q) ∧ t.dev.mgt = d.mgt ∧ t.dev.coh = d.coh ∧ t.dev.clk = d.clk
    let l0pUp := d.isIl p.val = false ∧ (d.prt p.val).up = true ∧ d.l0pOn p.val = true ∧
      (d.get F.PRT_STATUS.LTSSM p.val = 4 ∨ d.get F.PRT_STATUS.LTSSM p.val = 5)
    (rate ≤ d.get F.PRT_CFG.MAX_RATE p.val ∧ rate ≤ partner.val ∧ rate ≤ 5) ∧
    (d.mayTrain p.val = true → (d.prt p.val).ideLost = false → wide ≠ 0 →
      ∃ t, exec (.linkTrainingComplete p eq width flits rev false partner) s = .next t ∧ ended t) ∧
    (d.mayTrain p.val = true → wide ≠ 0 → d.get F.PRT_CFG.PERSONALITY p.val = 1 → d.bit F.PRT_STATUS.ID_CONFIRMED p.val = false →
      ∃ t, exec (.linkTrainingComplete p eq width flits rev true partner) s = .next t ∧ ended t ∧
        t.dev.get F.PRT_STATUS.IDE_ACTIVE p.val = 1 ∧ (t.dev.prt p.val).ideLost = false) ∧
    (d.mayTrain p.val = false ∨ wide = 0 ∨ ((d.prt p.val).ideLost = true ∧ ide = false) →
      exec (.linkTrainingComplete p eq width flits rev ide partner) s = .next (s.after d)) ∧
    (d.isIl p.val = false → (d.prt p.val).up = true → d.get F.PRT_CFG.ID_SRC p.val = 3 →
      exec (.partnerIdentityRead p id) s = .next (s.after (d.confirm p.val 0))) ∧
    (d.isIl p.val = false → (d.prt p.val).up = true → d.get F.PRT_CFG.ID_SRC p.val < 2 →
      exec (.partnerIdentityRead p (some v)) s = .next (s.after (d.confirm p.val v)) ∧
      exec (.partnerIdentityRead p none) s = .next (s.after d)) ∧
    (d.isIl p.val = true ∨ (d.prt p.val).up = false → exec (.partnerIdentityRead p id) s = .next (s.after d)) ∧
    (let e := (d.put F.PRT_PARTNER_ID.ID p.val v.toNat).set F.PRT_STATUS.ID_CONFIRMED p.val
     ((d.prt p.val).layover = false → d.confirm p.val v = e) ∧
     ((d.prt p.val).layover = true → (d.prt p.val).ref = some v → d.bit F.PRT_IDE.REQUIRED p.val = false →
      d.confirm p.val v = e.setPrt p.val { d.prt p.val with layover := false, ref := none })) ∧
    (d.isHost p.val = false ∨ (d.prt p.val).up = false ∨ d.get F.PRT_CFG.ID_SRC p.val ≠ 2 →
      exec (.portIdentityValidWrite p) s = .next (s.after (d.set F.PIDV.VALID p.val))) ∧
    (d.isHost p.val = true → (d.prt p.val).up = true → d.get F.PRT_CFG.ID_SRC p.val = 2 →
      exec (.portIdentityValidWrite p) s =
        .next (s.after ((d.set F.PIDV.VALID p.val).confirm p.val (BitVec.ofNat 64 (d.get F.PIDV.IDENT p.val))))) ∧
    (l0pUp → d.l0pWant p.val x.val y.val held = some w →
      exec (.l0pInterval p x y held (some true)) s = .next (s.after (d.l0pWidth p.val w)) ∧
      exec (.l0pInterval p x y held none) s = .next (s.after (d.setPrt p.val { d.prt p.val with l0p := some (BitVec.ofNat 3 w) })) ∧
      exec (.l0pInterval p x y held (some false)) s = .next (s.after (d.setPrt p.val { d.prt p.val with l0p := none }))) ∧
    (l0pUp → d.l0pWant p.val x.val y.val held = none → exec (.l0pInterval p x y held (some true)) s = .next (s.after d)) ∧
    (l0pUp → d.get F.PRT_L0P.MIN_WIDTH p.val ≤ width.val → width.val ≤ d.get F.PRT_STATUS.WIDTH_TRAINED p.val →
      width.val ≠ d.get F.PRT_STATUS.WIDTH_NOW p.val →
      exec (.l0pPartnerRequest p width) s = .next (s.after (d.l0pWidth p.val width.val))) ∧
    (width.val < d.get F.PRT_L0P.MIN_WIDTH p.val ∨ d.get F.PRT_STATUS.WIDTH_TRAINED p.val < width.val →
      exec (.l0pPartnerRequest p width) s = .next (s.after d))

/-- O20 (R92, R93, R95, R100, R101, R102, R104, R110, R113, R146, R194, R196). On a live die: RETRAIN takes a standard
port that is up into Recovery at its trained width, starts the retrain of R144 on an interlink, and is ignored on a
port that is down. HOT_RESET, LINK_DISABLE and the causes of R102 declare the port down: the reason, the count and
the log, the link fields, and then the layover window, or with a window of 0 the flush; on an interlink the goodbye
of R146 goes first. A cause that does not apply to the port, or 0x3 without FAST_DOWN, changes nothing; causes 0x3
and 0x7 act as PHY_LOSS and IDE_INTEGRITY_FAIL. A loss of signal with FAST_DOWN is logged and takes the port down
with 0x3. A failed IDE integrity check is logged, takes the port down with 0x7 and loses both key sets. A key
refresh programs the next key set and pends, and ends with that set. A received Hot Reset takes a host port down
with 0x5 and resets its instances. A DOE mailbox holds one request object until its answer; an object that ends an
IDE session of a host port that is up makes IDE active there, as the C64's own session toward a target does. -/
def Obligations.PortControl : Prop :=
  ∀ (s : State) (p : Port) (reason : Fin 16) (n len : Nat) (proto : DoeProto) (mgmt : Bool), s.dev.die = true →
    let d := s.dev
    let lt := d.get F.PRT_STATUS.LTSSM p.val
    let ref := if d.bit F.PRT_STATUS.ID_CONFIRMED p.val then some (BitVec.ofNat 64 (d.get F.PRT_PARTNER_ID.ID p.val)) else none
    let next := 1 - d.get F.PRT_IDE.KEYSET p.val
    let here := if mgmt then d.exposes p.val = true else d.isHost p.val = true
    ((d.prt p.val).up = false → exec (.prtCtlRetrain p) s = .next (s.after d)) ∧
    ((d.prt p.val).up = true → d.isIl p.val = true → exec (.prtCtlRetrain p) s = .next (s.after (d.ilRetrain p.val 1 0))) ∧
    ((d.prt p.val).up = true → d.isIl p.val = false →
      ∃ t, exec (.prtCtlRetrain p) s = .next t ∧ t.pending = s.pending ∧ t.dev.get F.PRT_STATUS.LTSSM p.val = 3 ∧
        t.dev.get F.PRT_STATUS.WIDTH_NOW p.val = d.get F.PRT_STATUS.WIDTH_TRAINED p.val % 8 ∧
        t.dev.prt p.val = { d.prt p.val with l0p := none, named := none } ∧
        t.dev.cnt.get 0 (cPort p.val 23) = (if lt = 4 ∨ lt = 5 then cntAdd (d.cnt.get 0 (cPort p.val 23)) 1
          else d.cnt.get 0 (cPort p.val 23)) ∧
        (∀ q, q ≠ p.val → t.dev.prt q = d.prt q) ∧ t.dev.sw = d.sw ∧ t.dev.coh = d.coh) ∧
    (d.isTarget p.val = false → exec (.prtCtlHotReset p) s = .next (s.after d)) ∧
    (d.isTarget p.val = true → (d.prt p.val).up = true → exec (.prtCtlHotReset p) s = .next (s.after (d.linkDown p.val 5))) ∧
    (d.isTarget p.val = true → (d.prt p.val).up = false → exec (.prtCtlHotReset p) s = .next (s.after (d.endLayover p.val))) ∧
    ((d.prt p.val).up = true → exec (.prtCtlLinkDisable p true) s = .next (s.after
      (let e := ((d.ilGoodbye p.val 1).set F.PRT_CTL.LINK_DISABLE p.val).linkDown p.val 6
       if e.isIl p.val then e.ilEnter p.val 7 else e.put F.PRT_STATUS.LTSSM p.val 7))) ∧
    ((d.prt p.val).up = false → (d.prt p.val).layover = false →
      exec (.prtCtlLinkDisable p true) s = .next (s.after
        (let e := (d.ilGoodbye p.val 1).set F.PRT_CTL.LINK_DISABLE p.val
         if e.isIl p.val then e.ilEnter p.val 7 else e.put F.PRT_STATUS.LTSSM p.val 7))) ∧
    (d.bit F.PRT_CTL.LINK_DISABLE p.val = true →
      (d.isIl p.val = false → exec (.prtCtlLinkDisable p false) s = .next (s.after
        ((d.put F.PRT_CTL.LINK_DISABLE p.val 0).put F.PRT_STATUS.LTSSM p.val 0))) ∧
      (d.isIl p.val = true → d.portFenced p.val = false → exec (.prtCtlLinkDisable p false) s = .next (s.after
        ((d.put F.PRT_CTL.LINK_DISABLE p.val 0).ilEnter p.val 0)))) ∧
    (d.isIl p.val = false → reason.val ∈ [1, 2, 4, 5, 6, 8] →
      exec (.linkDownDeclare p reason n) s = .next (s.after (d.linkDown p.val reason.val (some n))) ∧
      ((d.prt p.val).up = true → d.brg.lock = none → n = 0 → reason.val ∈ [1, 2, 4] → d.window p.val ≠ 0 →
        ∃ t, exec (.linkDownDeclare p reason n) s = .next t ∧ t.pending = s.pending ∧ (t.dev.prt p.val).up = false ∧
          (t.dev.prt p.val).layover = true ∧ (t.dev.prt p.val).ref = ref ∧ t.dev.get F.PRT_DOWN_INFO.REASON p.val = reason.val ∧
          t.dev.get F.PRT_STATUS.DL_ACTIVE p.val = 0 ∧ t.dev.get F.PRT_STATUS.ID_CONFIRMED p.val = 0 ∧
          (∀ q, q ≠ p.val → t.dev.prt q = d.prt q) ∧ t.dev.sw.queues = d.sw.queues ∧ t.dev.coh = d.coh)) ∧
    (d.isIl p.val = true →
      exec (.linkDownDeclare p 6 n) s = .next (s.after ((d.ilGoodbye p.val 1).linkDown p.val 6 (some n))) ∧
      exec (.linkDownDeclare p 8 n) s = .next (s.after ((d.ilGoodbye p.val 2).linkDown p.val 8 (some n))) ∧
      (reason.val ∉ [3, 6, 7, 8] → exec (.linkDownDeclare p reason n) s = .next (s.after d))) ∧
    (exec (.linkDownDeclare p 3 n) s = exec (.phyLoss p n) s ∧ exec (.linkDownDeclare p 7 n) s = exec (.ideIntegrityFail p n) s) ∧
    (d.isIl p.val = false → (8 < reason.val ∨ reason.val = 0 ∨ ((d.prt p.val).up = false ∧ reason.val ≠ 7)) →
      exec (.linkDownDeclare p reason n) s = .next (s.after d)) ∧
    (d.bit F.PRT_CFG.FAST_DOWN p.val = false ∨ (d.prt p.val).up = false → exec (.phyLoss p n) s = .next (s.after d)) ∧
    (d.bit F.PRT_CFG.FAST_DOWN p.val = true → (d.prt p.val).up = true → exec (.phyLoss p n) s = .next (s.after
      ((((d.set F.PRT_ERR.PHY_LOSS p.val).raise .phyLoss (uPort p.val) p.val
        (Config.faultAddr Kind.phyLoss.code p.val).toNat).put F.PRT_LANE.SIGNAL p.val 0).linkDown p.val 3 (some n)))) ∧
    (d.isIl p.val = true ∨ d.bit F.PRT_STATUS.IDE_ACTIVE p.val = false → exec (.ideIntegrityFail p n) s = .next (s.after d)) ∧
    (d.isIl p.val = false → d.bit F.PRT_STATUS.IDE_ACTIVE p.val = true →
      exec (.ideIntegrityFail p n) s = .next (s.after
        (let e := ((d.set F.PRT_ERR.IDE_FAIL p.val).raise .ideIntegrity (uPort p.val) p.val
          (Config.faultAddr Kind.ideIntegrity.code p.val).toNat).linkDown p.val 7 (some n)
         e.setPrt p.val { e.prt p.val with ideKeys := 0, ideLost := true }))) ∧
    (d.isIl p.val = false → d.bit F.PRT_STATUS.IDE_ACTIVE p.val = true →
      exec (.ideKeyRefresh p false) s = .next (s.after ((d.set F.PRT_IDE.PENDING p.val).setPrt p.val
        { d.prt p.val with ideKeys := (d.prt p.val).ideKeys ||| keyPair next })) ∧
      (d.bit F.PRT_IDE.PENDING p.val = true → lt ≠ 3 → exec (.ideKeyRefresh p true) s = .next (s.after
        (((d.put F.PRT_IDE.KEYSET p.val next).put F.PRT_IDE.PENDING p.val 0).setPrt p.val
          { d.prt p.val with ideKeys := keyPair next, contain := d.bit F.PRT_IDE.CONTAINMENT p.val })))) ∧
    (d.enabled p.val = false ∨ d.isTarget p.val = true ∨ d.isIl p.val = true → exec (.hotResetReceived p) s = .next (s.after d)) ∧
    (d.enabled p.val = true → d.isTarget p.val = false → d.isIl p.val = false → d.isHost p.val = false → (d.prt p.val).up = true →
      exec (.hotResetReceived p) s = .next (s.after (d.linkDown p.val 5))) ∧
    (d.isHost p.val = true → exec (.hotResetReceived p) s = .next (s.after
      (((List.range 32).foldl (fun d v =>
          let x : VppbRt := { d.brg.vppb.get VppbRt.reset (vppbNo p.val v) with pdc := false, dlsc := false, attn := false }
          ({ d with brg := { d.brg with vppb := d.brg.vppb.put VppbRt.reset (vppbNo p.val v) x } } : Dev))
        (if (d.prt p.val).up then d.linkDown p.val 5 else d.endLayover p.val)).insResetPort p.val))) ∧
    (here → proto ≠ .other → len ≤ 4096 → d.doe p.val mgmt = none →
      exec (.doeRequest p mgmt (.request proto) len) s = .next (s.after (d.setDoe p.val mgmt (some proto)))) ∧
    (d.doe p.val mgmt ≠ none ∨ proto = .other ∨ 4096 < len →
      exec (.doeRequest p mgmt (.request proto) len) s = .next (s.after d)) ∧
    (d.doe p.val mgmt = some proto → exec (.doeRequest p mgmt (.answer false none) len) s = .next (s.after (d.setDoe p.val mgmt none))) ∧
    (d.isHost p.val = true → (d.prt p.val).up = true → d.doe p.val false = some proto → proto = .cma ∨ proto = .securedCma →
      exec (.doeRequest p false (.answer true none) len) s = .next (s.after ((d.setDoe p.val false none).ideUp p.val))) ∧
    (d.isTarget p.val = true → (d.prt p.val).up = true →
      exec (.doeRequest p false .session len) s = .next (s.after (d.ideUp p.val))) ∧
    (d.get F.PRT_CFG.PERSONALITY p.val = 1 → d.bit F.PRT_STATUS.ID_CONFIRMED p.val = false →
      d.ideUp p.val = (d.set F.PRT_STATUS.IDE_ACTIVE p.val).setPrt p.val { d.prt p.val with
        ideKeys := (d.prt p.val).ideKeys ||| keyPair (d.get F.PRT_IDE.KEYSET p.val), ideLost := false,
        contain := d.bit F.PRT_IDE.CONTAINMENT p.val })

/-- O21 (R87, R105, R110, R112, R113, R144, R445, R449, R455, R456, R457). Each accepted request with a payload its
layout allows: PORT_CONFIG writes the selected images, stages them and stores a changed width, and a change of
personality outside Bring-up and Quiesce is answered WRONG_MODE; PORT_STATUS answers the registers of the port in
the order of R455, with the time left of a running layover window (a free value within the window: log entry 16) or
else 0xFFFF_FFFF, and clears the error bits of its mask; LINK_RETRAIN retrains a port that is up at the named rate,
or an interlink at the named width, is answered STATE_MISMATCH on a port that is down or disabled and
BUSY_BACKGROUND while an interlink retrains; SET_LAYOVER writes and stages the window. -/
def Obligations.PortCommands : Prop :=
  ∀ (s : State) (r : FoernReq) (p v w rate : Nat), p < 64 →
    let pay := r.raw.drop 8
    let d := s.dev.taken r.via
    let img (k : Nat) := le pay (4 + 4 * k) 4
    let chg := v.testBit 0 && d.personaChange p (img 0)
    let edge := v.testBit 3 && (img 3) % 8192 != d.word .TIL_PCFG p % 8192
    let shows (d : Dev) (left : Nat) : List (BitVec 8) :=
      let show_ (x : Reg) := bytes 4 (d.view x p)
      show_ .PRT_CFG ++ show_ .PRT_STATUS ++ show_ .PRT_DOWN_INFO ++ show_ .PRT_LANE ++ show_ .PRT_ERR ++
          show_ .PRT_PARTNER_ID_LO ++ show_ .PRT_PARTNER_ID_HI ++ bytes 4 left ++ show_ .PRT_IL_STATUS ++
          show_ .PRT_IL_SEQ ++ show_ .PRT_IL_BUF ++ show_ .PRT_IL_ERR
    let clear (d : Dev) (m : Nat) : Dev :=
      let e := d.putWord .PRT_ERR p (clearMask (d.word .PRT_ERR p) (m % 2 ^ 16))
      e.putWord .PRT_IL_ERR p (clearMask (e.word .PRT_IL_ERR p) (m / 2 ^ 16))
    (s.dev.accepts r (portCmd 0xC100) = true → (hdrOf 0xC100 r.raw).sel = BitVec.ofNat 16 p →
      (pay = bytes 4 2 ++ bytes 4 0 ++ bytes 4 v ++ bytes 28 0 → v < 2 ^ 32 → reserved1 v (Reg.mask .PRT_L0P) = false →
        l0pBad v = false →
        exec (.portConfig r) s = .next (s.okay r 0xC100 (d.putWord .PRT_L0P p v) [] [⟨0x1000 + p * 16 + 1, 0, v⟩])) ∧
      (pay.length = 40 → le pay 0 4 = v → v < 128 → portImagesBad v img = false → chg = false ∨ (d.cfgMode = true ∧ d.portIdle p = true) →
        edge = false ∨ d.cfgMode = true ∨ d.portIdle p = true →
        exec (.portConfig r) s = .next (s.okay r 0xC100
          (if v.testBit 0 then (d.portImages p v img).widthStore p (img 0) else d.portImages p v img) [] (portStage p v img))) ∧
      (pay = bytes 4 1 ++ bytes 4 v ++ bytes 32 0 → v < 2 ^ 32 → reserved1 v (Reg.mask .PRT_CFG) = false →
        d.personaChange p v = true → s.dev.mode = .service ∨ s.dev.mode = .degraded →
        exec (.portConfig r) s = .next (s.declined r 0xC100 .wrongMode))) ∧
    (s.dev.accepts r { opcode := 0xC101, may := portStatusMay, modes := dieModes } = true →
      (hdrOf 0xC101 r.raw).sel = BitVec.ofNat 16 p → pay = bytes 4 v → v < 2 ^ 32 → reserved1 v 0x7F003F = false →
      ((s.dev.prt p).layover = false →
        exec (.portStatus r) s = .next (s.okay r 0xC101 (clear d v) (shows d 0xFFFFFFFF))) ∧
      ((s.dev.prt p).layover = true → ∃ left, left ≤ d.window p ∧
        exec (.portStatus r) s = .next (s.okay r 0xC101 (clear { d with freeCtr := d.freeCtr + 1 } v) (shows d left)))) ∧
    (s.dev.accepts r (portCmd 0xC102) = true → (hdrOf 0xC102 r.raw).sel = BitVec.ofNat 16 p →
      pay = bytes 1 w ++ bytes 1 rate ++ bytes 2 0 → w < 256 → rate < 256 → d.retrainBad p w rate = false →
      (d.portIdle p = true → exec (.linkRetrain r) s = .next (s.declined r 0xC102 .stateMismatch)) ∧
      (d.portIdle p = false → d.isIl p = true → d.get F.PRT_IL_STATUS.STATE p = 6 →
        exec (.linkRetrain r) s = .next (s.declined r 0xC102 .busyBackground)) ∧
      (d.portIdle p = false → d.isIl p = false → w = 0 ∧
        exec (.linkRetrain r) s = .next (s.okay r 0xC102 (d.retrainPort p 1 0
          (some (BitVec.ofNat 3 (if rate = 7 then d.get F.PRT_STATUS.RATE p else rate)))))) ∧
      (d.portIdle p = false → d.isIl p = true → d.get F.PRT_IL_STATUS.STATE p ≠ 6 →
        exec (.linkRetrain r) s = .next (s.okay r 0xC102
          (d.ilRetrain p (if w ≠ 0 ∧ d.ilWidth p w ≠ d.get F.PRT_STATUS.WIDTH_NOW p then 4 else 1) w)))) ∧
    (s.dev.accepts r (portCmd 0xC103) = true → (hdrOf 0xC103 r.raw).sel = BitVec.ofNat 16 p → pay = bytes 4 v → v ≤ 1000000 →
      exec (.setLayover r) s = .next (s.okay r 0xC103 (d.put F.PRT_LAYOVER.WINDOW_US p v) []
        ((d.put F.PRT_LAYOVER.WINDOW_US p v).stageNow (0x1000 + p * 16 + 4) [0])))

/-- O22 (R589, R590, R125, R130, R131, R133, R135, R136, R146, R150). For every state and interlink port, IL_FLIT_SEND
answers a next state in which the flit counters e 4 to 7 of the port together have advanced by n, 0 or 1, and its
slot counters e 0 to 3 by 4 n, modulo 2^48; and n is 1 whenever the port is ACTIVE. On a live die IL_FLIT_SEND puts
one flit with its CRC-64 (inverted by an injection) on the wire of an interlink port in ACTIVE, once what the link
has released is taken and the credit of freed slots given back. First the oldest sequence queued to be resent, as
REPLAY; then the first waiting control body; then new DATA of the waiting slots that have credit, under the next
sequence, which the replay buffer keeps; else IDLE with the sequence of the next DATA flit and the six freed counts.
Each header carries the acknowledgement of the last flit in order and the oldest sequence to name, or with NAK_GBN
the one expected. Where no parameter exchange runs nothing is sent outside ACTIVE; a port that is no interlink sends
nothing. -/
def Obligations.InterlinkSends : Prop :=
  (∀ (s : State) (p : Port), s.dev.die = true → s.dev.isIl p.val = true →
    let sum (d : Dev) (l : List Nat) : Nat := (l.map fun e => d.cnt.get 0 (cPort p.val e) % 2 ^ 48).sum
    ∃ (t : State) (n : Nat), exec (.ilFlitSend p) s = .next t ∧ t.pending = s.pending ∧ n ≤ 1 ∧
      (s.dev.ilState p.val = 5 → n = 1) ∧
      sum t.dev [4, 5, 6, 7] % 2 ^ 48 = (sum s.dev [4, 5, 6, 7] + n) % 2 ^ 48 ∧
      sum t.dev [0, 1, 2, 3] % 2 ^ 48 = (sum s.dev [0, 1, 2, 3] + 4 * n) % 2 ^ 48) ∧
  (∀ (s : State) (p : Port) (x : IlSlot) (l : List IlSlot) (c : IlCtrl) (cs : List IlCtrl) (q : BitVec 12) (qs : List (BitVec 12))
    (g : IlFlit × Nat), s.dev.die = true →
    let d := s.dev
    let e := (d.ilServe p.val).ilGive p.val
    let r := e.ilRt p.val
    let again := r.resend.head?.bind fun a => r.replay.find? fun y => y.1.hdr.seq == a
    let crc (f : IlFlit) : BitVec 64 := if 0 < e.flt.injLink.get 0 p.val then ~~~ (IlFlit.crc f) else IlFlit.crc f
    let sent (f : IlFlit) (t : State) : Prop := t.pending = s.pending ∧ t.dev.wire = e.wire ++ [(p, f, crc f)] ∧
      f.hdr.ack = r.rxExp - 1 ∧ f.hdr.nak = (if r.sendGbn then some r.rxExp else r.toName.head?) ∧ f.hdr.gbn = r.sendGbn
    (d.isIl p.val = false → exec (.ilFlitSend p) s = .next (s.after d)) ∧
    (d.isIl p.val = true → e.ilState p.val ≠ 5 → e.ilInParam p.val = false ∨ r.ctrlq = [] →
      exec (.ilFlitSend p) s = .next (s.after e)) ∧
    (d.isIl p.val = true → e.ilState p.val = 5 →
      (r.resend = q :: qs → again = some g →
        ∃ (t : State) (f : IlFlit), exec (.ilFlitSend p) s = .next t ∧ sent f t ∧ f.body = .replay (IlBody.slots g.1.body) ∧
          f.hdr.seq = g.1.hdr.seq ∧ (t.dev.ilRt p.val).txNext = r.txNext ∧ (t.dev.ilRt p.val).txq = r.txq) ∧
      (again = none → r.ctrlq = c :: cs → c = .retrainReq 3 1 →
        ∃ (t : State) (f : IlFlit), exec (.ilFlitSend p) s = .next t ∧ sent f t ∧ f.body = .ctrl c ∧ f.hdr.seq = r.txNext ∧
          (t.dev.ilRt p.val).ctrlq = cs ∧ (t.dev.ilRt p.val).txNext = r.txNext) ∧
      (again = none → r.ctrlq = [] → (pickSlots r.limit r.returned 4 r.txq r.sent []).1 = x :: l → r.replay.length < 1024 →
        ∃ (t : State) (f : IlFlit), exec (.ilFlitSend p) s = .next t ∧ sent f t ∧ f.body = .data (x :: l) ∧ f.hdr.seq = r.txNext ∧
          (t.dev.ilRt p.val).txNext = r.txNext + 1 ∧ (t.dev.ilRt p.val).replay = r.replay ++ [(f, 0)] ∧
          (t.dev.ilRt p.val).txq = (pickSlots r.limit r.returned 4 r.txq r.sent []).2.1) ∧
      (again = none → r.ctrlq = [] → (pickSlots r.limit r.returned 4 r.txq r.sent []).1 = [] ∨ 1024 ≤ r.replay.length →
        ∃ (t : State) (f : IlFlit), exec (.ilFlitSend p) s = .next t ∧ sent f t ∧ f.body = .idle (r.freed.map (BitVec.ofNat 16 ·)) ∧
          f.hdr.seq = r.txNext ∧ f.hdr.crVc = 7 ∧ (t.dev.ilRt p.val).txNext = r.txNext ∧ (t.dev.ilRt p.val).replay = r.replay ∧
          (∀ k, k ≠ p.val → t.dev.ilRt k = e.ilRt k) ∧ t.dev.ports = e.ports ∧ t.dev.sw = e.sw)))

/-- O23 (R122, R125, R130, R133, R134, R135, R143, R144, R145, R147, R148, R149). On a live die and an interlink port in
ACTIVE: a DATA or REPLAY flit with a good CRC-64 counts, its header is applied and its slots are taken in sequence;
an IDLE flit counts and its header, credits and gaps are applied; of a control flit the header and the gaps are
applied, and then: RETRAIN_REQ is answered and pauses the link; RETRAIN_ACK that is not awaited does nothing more;
TIME_REQ queues a TIME_RSP stamped at the balls; TIME_RSP that answers no request does nothing more; LINK_DOWN takes
the port down with 0xA. In PARAM, a PARAM body that fits is held with the leader and the common width, and
PARAM_ACK, once this end's has left, makes the port ACTIVE with the partner's identity confirmed. In DOWN these do
nothing but for the count. A flit that fails its CRC, by the verdict or by the CRC that it carries, is counted and
its slots undone; an uncorrectable codeword is logged, fails its flits, and beyond UNCORR_LIM in 1 ms starts a
retrain with reason 0x2. An ACK that names a sequence sent frees the flits it covers and leaves the later ones in
order; one that names none sent changes nothing and is a violation, unless an earlier ACK covered it. A NAK of an
unacknowledged sequence counts and queues its resend once. A credit count within the slots outstanding becomes the
count returned, and one beyond them changes nothing and is a violation. -/
def Obligations.InterlinkReceives : Prop :=
  (∀ (s : State) (p : Port) (h : IlHdr) (l : List IlSlot) (c0 c1 c2 c3 c4 c5 id session : BitVec 16) (b : IlParam) (w : BitVec 3)
    (why : BitVec 8) (t1 t2 t3 crc : BitVec 64) (resume : Bool) (flit sym inMs : Nat) (flits : List Nat),
    s.dev.die = true → s.dev.isIl p.val = true →
    let d := s.dev
    let c := d.count (cPort p.val 8)
    let g := (d.count (cPort p.val 10) sym).count (cPort p.val 8)
    let e := (c.ilHdr p.val h []).ilGaps p.val h.seq
    let dat : IlFlit := { hdr := h, body := .data l }
    let rep : IlFlit := { hdr := h, body := .replay l }
    (l.length ≤ 4 → d.ilState p.val = 5 →
      exec (.ilFlitReceive p ⟨dat, IlFlit.crc dat, sym⟩) s = .next (s.after ((g.ilHdr p.val h []).ilData p.val h (.data l))) ∧
      exec (.ilFlitReceive p ⟨rep, IlFlit.crc rep, sym⟩) s = .next (s.after ((g.ilHdr p.val h []).ilData p.val h (.replay l)))) ∧
    (l.length ≤ 4 → d.ilState p.val ≠ 5 → exec (.ilFlitReceive p ⟨dat, IlFlit.crc dat, sym⟩) s = .next (s.after g)) ∧
    (l.length ≤ 4 → crc ≠ IlFlit.crc dat → exec (.ilFlitReceive p ⟨dat, crc, sym⟩) s =
      .next (s.after (((d.count (cPort p.val 10) sym).count (cPort p.val 9)).undoFlit p.val h.seq.toNat))) ∧
    (d.ilState p.val = 5 → exec (.ilIdleReceive p h c0 c1 c2 c3 c4 c5) s =
      .next (s.after (c.ilIdle p.val h [c0, c1, c2, c3, c4, c5]))) ∧
    (d.ilState p.val ≠ 5 → exec (.ilIdleReceive p h c0 c1 c2 c3 c4 c5) s = .next (s.after c)) ∧
    (d.ilState p.val = 0 → b.wellFormed = true → exec (.ilParamReceive p h b) s = .next (s.after c)) ∧
    (d.ilState p.val = 4 → b.wellFormed = true → exec (.ilParamReceive p h b) s = .next (s.after (c.ilParamRx p.val b)) ∧
      (poolsOk (b.pools.map (·.toNat)) = true → b.node.toNat ≠ d.get F.GLB_NODE.NODE_ID → d.bit F.PRT_IL_PEER.PEER_CHECK p.val = false →
        widest ((d.ilRt p.val).quads &&& b.quads) (d.get F.PRT_CFG.WIDTH p.val) ≠ 0 →
        ∃ t, exec (.ilParamReceive p h b) s = .next t ∧ t.pending = s.pending ∧ (t.dev.ilRt p.val).peer = some b ∧
          t.dev.get F.PRT_STATUS.WIDTH_TRAINED p.val = widest ((d.ilRt p.val).quads &&& b.quads) (d.get F.PRT_CFG.WIDTH p.val) ∧
          t.dev.get F.PRT_IL_STATUS.LEADER p.val = (if b.node.toNat < d.get F.GLB_NODE.NODE_ID then 1 else 0) ∧
          t.dev.ilState p.val = 4 ∧ (∀ k, k ≠ p.val → t.dev.ilRt k = d.ilRt k) ∧ t.dev.sw = d.sw ∧ t.dev.ports = d.ports)) ∧
    (d.ilState p.val = 0 →
      exec (.ilParamAckReceive p h session resume) s = .next (s.after c) ∧
      exec (.ilRetrainReqReceive p h w why) s = .next (s.after c) ∧ exec (.ilRetrainAckReceive p h w) s = .next (s.after c) ∧
      exec (.ilLinkDownReceive p h why) s = .next (s.after c) ∧
      exec (.ilTimeReqReceive p h id t1) s = .next (s.after (c.ilQueueCtrl p.val (.timeRsp id (c.stampAt p.val) 0)))) ∧
    (d.ilState p.val = 4 → (d.ilRt p.val).peer = some b →
      ((d.ilRt p.val).ackTx = false →
        exec (.ilParamAckReceive p h session resume) s = .next (s.after (c.setIl p.val { d.ilRt p.val with ackRx := true, ackResume := resume }))) ∧
      ((d.ilRt p.val).ackTx = true →
        ∃ t, exec (.ilParamAckReceive p h session resume) s = .next t ∧ t.pending = s.pending ∧ t.dev.ilState p.val = 5 ∧
          (t.dev.prt p.val).up = true ∧ (t.dev.prt p.val).layover = false ∧ t.dev.get F.PRT_PARTNER_ID.ID p.val = b.serial.toNat ∧
          t.dev.get F.PRT_STATUS.ID_CONFIRMED p.val = 1 ∧ t.dev.get F.PRT_STATUS.DL_ACTIVE p.val = 1)) ∧
    (d.ilState p.val = 5 →
      exec (.ilRetrainReqReceive p h w why) s = .next (s.after (e.ilRetrainReq p.val w.toNat)) ∧
      (e.ilState p.val = 5 → (e.ilRt p.val).retrain = none →
        ∃ t, exec (.ilRetrainReqReceive p h w why) s = .next t ∧ t.pending = s.pending ∧ t.dev.ilState p.val = 6 ∧
          t.dev.wire.length = e.wire.length + 1 ∧ (t.dev.ilRt p.val).rob = []) ∧
      exec (.ilRetrainAckReceive p h w) s = .next (s.after (e.ilRetrainAck p.val w.toNat)) ∧
      exec (.ilTimeReqReceive p h id t1) s = .next (s.after (e.ilQueueCtrl p.val (.timeRsp id (e.stampAt p.val) 0))) ∧
      exec (.ilTimeRspReceive p h id t2 t3) s = .next (s.after (e.ilTimeRsp p.val id t2 t3)) ∧
      exec (.ilLinkDownReceive p h why) s = .next (s.after (if e.ilState p.val = 5 then e.linkDown p.val 0xA else e))) ∧
    ((d.ilRt p.val).timeReq = some (id, t1) → c.ilTimeRsp p.val id t2 t3 =
      (let f := c.setIl p.val { d.ilRt p.val with timeReq := none }
       if d.timeSource = 2 ∧ d.get F.GLB_TIME_CTL.PORT = p.val then
         f.discipline (((t2 - t1).toInt - (c.stampAt p.val - t3).toInt) / 2) else f)) ∧
    exec (.ilFlitCrcFail p flit) s = .next (s.after ((d.count (cPort p.val 9)).undoFlit p.val flit)) ∧
    (let u := flits.foldl (fun d f => (d.count (cPort p.val 9)).undoFlit p.val f)
       ((((d.set F.PRT_IL_ERR.FEC_UNCORR p.val).raise .flitUncorr (uPort p.val) p.val p.val).set F.PRT_ERR.FLIT_UNCORR p.val).count
         (cPort p.val 11))
     exec (.ilCodewordUncorrectable p flits inMs) s = .next (s.after
       (if u.get F.PRT_IL_CFG.UNCORR_LIM p.val ≠ 0 ∧ u.get F.PRT_IL_CFG.UNCORR_LIM p.val < inMs then u.ilRetrain p.val 2 0 else u)))) ∧
  (∀ (d : Dev) (p : Nat) (a : BitVec 12) (v n : Nat),
    let r := d.ilRt p
    (dist12 a r.acked ≤ dist12 r.txNext (r.acked + 1) →
      (d.ilAck p a).2 = false ∧ ((d.ilAck p a).1.ilRt p).acked = a ∧
      ((d.ilAck p a).1.ilRt p).replay = r.replay.filter (fun f => decide (dist12 a r.acked < dist12 f.1.hdr.seq r.acked)) ∧
      ((d.ilAck p a).1.ilRt p).txNext = r.txNext ∧ (∀ q, q ≠ p → (d.ilAck p a).1.ilRt q = d.ilRt q) ∧ (d.ilAck p a).1.regs = d.regs) ∧
    (dist12 r.txNext (r.acked + 1) < dist12 a r.acked → d.ilAck p a = (d, decide (dist12 a r.acked ≤ 3072))) ∧
    (1 ≤ dist12 a r.acked → dist12 a r.acked ≤ dist12 r.txNext (r.acked + 1) → a ∉ r.resend →
      d.ilNak p a false = ((d.count (cPort p 13)).setIl p { r with resend := r.resend ++ [a] }, false)) ∧
    ((n + 65536 - six r.returned v) % 65536 ≤ (six r.sent v + 65536 - six r.returned v) % 65536 →
      d.ilCredit p v n = (d.setIl p { r with returned := setSix r.returned v n }, false)) ∧
    ((six r.sent v + 65536 - six r.returned v) % 65536 < (n + 65536 - six r.returned v) % 65536 → d.ilCredit p v n = (d, true)))

/-- O24 (R134, R137, R139, R140, R141, R144, R146, R152). On a live die and an interlink port: a named sequence still
missing is named again; a stall in ACTIVE logs FK_IL_REPLAY_EXHAUST for the oldest flit and asks for a retrain, and
without unacknowledged flits nothing happens; DOWN is left for DETECT where the port may look for its partner; a
signal on a quad in DETECT starts TRAIN; equalised quads in TRAIN, or in a pause, set the width and start LOCK; lock
starts PARAM with a PARAM body; the timeout of TRAIN or LOCK returns to DETECT, as does that of PARAM, forgetting
the exchange, and in a pause takes the port down with 0xA; PARAM, PARAM_ACK and RETRAIN_REQ are sent again while
they are awaited; a failed attempt starts again, and the third in a row takes the port down with reason 0x9. -/
def Obligations.InterlinkLink : Prop :=
  ∀ (s : State) (p : Port) (seq : BitVec 12) (lanes : BitVec 16) (q : BitVec 4) (rev : Bool) (x : Retrain) (f : IlFlit × Nat)
    (fs : List (IlFlit × Nat)) (b : IlParam), s.dev.die = true → s.dev.isIl p.val = true →
    let d := s.dev
    let r := d.ilRt p.val
    let st := d.ilState p.val
    let lit := lanes.toNat &&& d.laneMask p.val
    let w := widest q (d.get F.PRT_CFG.WIDTH p.val)
    let back := (d.ilEnter p.val 1).setIl p.val
      { r with peer := none, ackRx := false, ackResume := false, ackTx := false, peerBad := false, ctrlq := [] }
    (seq ∈ r.named → exec (.ilNakTimeout p seq) s =
      .next (s.after (d.setIl p.val { r with named := r.named.erase seq, toName := nameFirst r.rxExp seq r.toName }))) ∧
    (seq ∉ r.named → exec (.ilNakTimeout p seq) s = .next (s.after d)) ∧
    (r.replay = [] → exec (.ilStallTimeout p) s = .next (s.after d)) ∧
    (r.replay = f :: fs → st = 5 → exec (.ilStallTimeout p) s = .next (s.after
      ((d.ilFault .ilReplayExhaust F.PRT_IL_ERR.REPLAY_EXHAUST p.val f.1.hdr.seq.toNat).ilRetrain p.val 3 0))) ∧
    (d.ilEnabled p.val = true → st = 0 → exec (.ilDownExit p) s = .next (s.after (d.ilEnter p.val 1))) ∧
    (st ≠ 0 → exec (.ilDownExit p) s = .next (s.after d)) ∧
    (d.ilEnabled p.val = true → st = 1 →
      ((∃ k < 4, lit / 16 ^ k % 16 = 15) →
        exec (.ilSignalDetect p lanes) s = .next (s.after ((d.put F.PRT_LANE.SIGNAL p.val lit).ilEnter p.val 2))) ∧
      ((∀ k < 4, lit / 16 ^ k % 16 ≠ 15) → exec (.ilSignalDetect p lanes) s = .next (s.after (d.put F.PRT_LANE.SIGNAL p.val lit)))) ∧
    (st ≠ 1 → exec (.ilSignalDetect p lanes) s = .next (s.after d)) ∧
    (st = 2 → w = 0 → exec (.ilEqualised p q rev) s = .next (s.after back)) ∧
    (st = 2 → w ≠ 0 →
      ∃ t, exec (.ilEqualised p q rev) s = .next t ∧ t.pending = s.pending ∧ t.dev.ilState p.val = 3 ∧
        t.dev.get F.PRT_STATUS.WIDTH_TRAINED p.val = w ∧ (t.dev.ilRt p.val).quads = q ∧
        t.dev.get F.PRT_STATUS.LANE_REVERSED p.val = (if rev then 1 else 0) ∧
        (∀ k, k ≠ p.val → t.dev.ilRt k = d.ilRt k) ∧ t.dev.sw = d.sw ∧ t.dev.ports = d.ports) ∧
    (st = 6 → r.retrain = some x → x.phase = 0 → widest q x.width.toNat ≠ 0 →
      ∃ t, exec (.ilEqualised p q rev) s = .next t ∧ t.pending = s.pending ∧ t.dev.ilState p.val = 6 ∧
        t.dev.get F.PRT_STATUS.WIDTH_TRAINED p.val = widest q x.width.toNat ∧
        (t.dev.ilRt p.val).retrain = some { x with phase := 1 } ∧ t.dev.sw = d.sw ∧ t.dev.ports = d.ports) ∧
    (st ≠ 2 → st ≠ 6 → exec (.ilEqualised p q rev) s = .next (s.after d)) ∧
    (st = 3 → exec (.ilCodewordLock p) s = .next (s.after ((d.ilEnter p.val 4).ilQueueCtrl p.val (.param (d.ilParam p.val))))) ∧
    (st = 6 → r.retrain = some x → x.phase = 1 → exec (.ilCodewordLock p) s = .next (s.after
      ((d.setIl p.val { r with retrain := some { x with phase := 2 } }).ilQueueCtrl p.val (.param (d.ilParam p.val))))) ∧
    (st = 2 ∨ st = 3 → exec (.ilTrainTimeout p) s = .next (s.after back)) ∧
    (st ≠ 2 → st ≠ 3 → exec (.ilTrainTimeout p) s = .next (s.after d)) ∧
    (st = 4 → exec (.ilParamTimeout p) s = .next (s.after back)) ∧
    (st = 6 → r.retrain = some x → x.phase = 2 → exec (.ilParamTimeout p) s = .next (s.after (d.linkDown p.val 0xA))) ∧
    (st = 5 → exec (.ilParamTimeout p) s = .next (s.after d) ∧ exec (.ilParamResend p) s = .next (s.after d)) ∧
    (st = 4 → r.peer = none → r.peerBad = false →
      exec (.ilParamResend p) s = .next (s.after (d.ilQueueCtrl p.val (.param (d.ilParam p.val))))) ∧
    (st = 4 → r.peer = some b → exec (.ilParamResend p) s = .next (s.after
      (d.ilQueueCtrl p.val (.paramAck (d.ilSession p.val b (d.ilResumes p.val b)) (d.ilResumes p.val b))))) ∧
    (r.retrain = some x → st = 5 → x.asking = true →
      exec (.ilRetrainReqResend p) s = .next (s.after (d.ilQueueCtrl p.val (.retrainReq x.width x.reason)))) ∧
    (r.retrain = none → exec (.ilRetrainReqResend p) s = .next (s.after d) ∧ exec (.ilRetrainAttemptTimeout p) s = .next (s.after d)) ∧
    (r.retrain = some x → st = 6 → x.phase < 2 → x.tries < 2 → exec (.ilRetrainAttemptTimeout p) s = .next (s.after
      ((d.count (cPort p.val 23)).setIl p.val { r with retrain := some { x with phase := 0, tries := x.tries + 1 } }))) ∧
    (r.retrain = some x → st = 6 → x.phase < 2 → 2 ≤ x.tries → exec (.ilRetrainAttemptTimeout p) s = .next (s.after
      ((d.ilFault .ilRetrainFail F.PRT_IL_ERR.RETRAIN_FAIL p.val 0).linkDown p.val 9)))

/-- O25 (R15, R31, R182, R535). For every state and output: every slot of the pipeline that waits for the output, from
and to Active tiles and with room for its message, raises a request. Of the requests, the one granted carries class
7 if any does, and among those of the same preference none comes from a tile nearer to the pointer, counted upward
modulo 8. The grant sets the pointer to the tile after the winner's, takes the output from what the granted slot
still waits for, and changes no other slot, no staged message and no other pointer. With a request something is
granted; an output whose tile is not Active grants nothing. -/
def Obligations.CrossbarIsFair : Prop :=
  ∀ (d : Dev) (o i : Nat) (x y : XReq) (z : PMsg) (w : PSlot),
    let far (z : XReq) : Nat := (z.tile + 8 - d.sw.xptr.get 0 o % 8) % 8
    (d.winner o = some x →
      x ∈ d.requests o ∧
      (y ∈ d.requests o → (y.strict = true → x.strict = true) ∧ (y.strict = x.strict → far x ≤ far y)) ∧
      (d.grantOut o).sw.xptr.get 0 o = (x.tile + 1) % 8 ∧
      (∀ k, k ≠ o → (d.grantOut o).sw.xptr.get 0 k = d.sw.xptr.get 0 k) ∧
      (x.slot = some i → (d.grantOut o).sw.staged = d.sw.staged ∧ (d.grantOut o).sw.pipe = d.sw.pipe.map fun z =>
        { z with slots := z.slots.map fun y => if y.id = i then { y with want := y.want.erase o } else y })) ∧
    (d.winner o = none → d.grantOut o = d) ∧
    (d.awake o = false → d.requests o = [] ∧ d.winner o = none) ∧
    (z ∈ d.sw.pipe → w ∈ z.slots → w.done = false → o ∈ w.want → d.awake o = true → d.awake (z.port.val / 8) = true →
      d.admitsMsg o z = true → { tile := z.port.val / 8, strict := z.cls7, slot := some w.id, k := 0 } ∈ d.requests o) ∧
    (y ∈ d.requests o → d.winner o ≠ none)

/-- O26 (R24, R25, R26, R27, R28, R31, R47, R48, R49, R164, R179, R406). On a live die: a standard port that carries
traffic and holds fewer than 4,096 released messages that have not completed puts the first slot of a message at the
end of the pipeline, with the next release number, with its verdict passed where header-early arbitration is off,
and with the destination and queue of stage 3; a further slot joins the message it continues; another port holds its
release. An interlink releases so only early, and only from the flit that carries rx_expected. Stage 1 on a host
port gives a request the port's edge ID, the colour green, no hops and the next per-source sequence.
CROSSBAR_ARBITRATION makes one grant at most on each of the eight outputs in turn. A slot commits once it holds its
grants and a passed verdict, in order; before that only its verdict is noted, and an unknown slot changes nothing;
the last slot of a message for an egress port stages it, with one hop more. A header-early hold that times out is
released and counted, whether the message waits for its slots or for admission, and without one nothing happens. For
every state and port, let c be the number of the first slot of the flit that waits for its verdict. FLIT_CRC_FAIL
leaves every message of other ports as it was, and of the port's slots all but those from c on whose verdict is
open, in their order. If the first message that loses every slot and has an assigned sequence carries n, that
source's next sequence is n again, and the other sources' stay; the release number of the first such message is
assigned again. Each slot lost from a message that holds a reservation on an interlink is owed there as a null slot,
but for header-early I/O whose first slot stands. Without such a slot nothing of the pipeline changes. The staged
messages, the queues and the crossbar's pointers stay as they were. -/
def Obligations.IngressCommitAndUndo : Prop :=
  (∀ (s : State) (p e : Port) (flit id : Nat) (dec : Decode) (m : Msg) (more : Fin 16) (ecrc verdict : Bool) (x : PMsg) (y : PSlot) (w : Staged),
    s.dev.die = true →
    let d := s.dev
    let he := d.bit F.PRT_CFG.HE_ARB p.val
    let e1 := d.stage1 p.val m
    let r := e1.1.destOf p.val dec e1.2.1
    (d.carries p.val = false → exec (.ingressSlot p flit dec m more ecrc) s = .next (s.after d)) ∧
    (d.isIl p.val = false → d.unfinished p.val m.cls = none → d.relFull p.val = true →
      exec (.ingressSlot p flit dec m more ecrc) s = .next (s.after d)) ∧
    (d.isIl p.val = false → d.carries p.val = true → d.unfinished p.val m.cls = some x →
      exec (.ingressSlot p flit dec m more ecrc) s = .next (s.after (d.nextSlot x flit (!he)))) ∧
    (d.isIl p.val = false → d.carries p.val = true → d.unfinished p.val m.cls = none → d.relFull p.val = false →
      ∃ (t : State) (z : PMsg), exec (.ingressSlot p flit dec m more ecrc) s = .next t ∧ t.pending = s.pending ∧
        t.dev.sw.pipe = d.sw.pipe ++ [z] ∧ z.port = p ∧ z.rel = (d.prt p.val).rel + 1 ∧ z.dest = r.dest ∧
        z.q = e1.1.queueFor r.dest r.m ∧ z.seqd = e1.2.2 ∧ z.more = more.val ∧ z.ecrc = ecrc ∧ { z.m with colour := r.m.colour } = r.m ∧
        z.slots.map (fun y => (y.id, y.flit, y.crc, y.done)) = [(d.sw.nextId, flit, !he, false)] ∧
        t.dev.sw.nextId = d.sw.nextId + 1 ∧ (t.dev.prt p.val).rel = (d.prt p.val).rel + 1 ∧
        t.dev.sw.queues = d.sw.queues ∧ t.dev.sw.staged = d.sw.staged ∧ t.dev.coh = d.coh) ∧
    (d.isIl p.val = true →
      (he = true → d.ilState p.val = 5 → (d.ilRt p.val).rxExp.toNat = flit →
        exec (.ingressSlot p flit dec m more ecrc) s = .next (s.after (d.ingress p flit false dec m more.val ecrc))) ∧
      (he = false ∨ d.ilState p.val ≠ 5 ∨ (d.ilRt p.val).rxExp.toNat ≠ flit →
        exec (.ingressSlot p flit dec m more ecrc) s = .next (s.after d))) ∧
    (d.isIl p.val = false → Op.answers m.op = false → d.isHost p.val = true → Cls.policed m.cls = true →
      let e := d.stage1 p.val m
      let k := (d.edgeOf p.val).toNat
      e.2 = ({ m with src := d.edgeOf p.val, colour := .green, hops := 0, mcast := false, gseq := 0, inst := none, gen := 0,
                      sseq := BitVec.ofNat 32 (d.sw.sseq.get 0 k) }, true) ∧
      e.1.sw.sseq.get 0 k = (d.sw.sseq.get 0 k + 1) % 2 ^ 32 ∧ (∀ j, j ≠ k → e.1.sw.sseq.get 0 j = d.sw.sseq.get 0 j) ∧
      { e.1 with sw := d.sw } = d) ∧
    (d.isIl p.val = true → d.stage1 p.val m = (d, m, false)) ∧
    exec .crossbarArbitration s = .next (s.after
      (((((((((d.grantOut 0).grantOut 1).grantOut 2).grantOut 3).grantOut 4).grantOut 5).grantOut 6).grantOut 7))) ∧
    (d.slotOf id = none → exec (.slotCommit id verdict) s = .next (s.after d)) ∧
    (d.slotOf id = some (x, y) → x.pol = none →
      (verdict = false → y.crc = false ∨ y.want ≠ [] ∨ y.done = true → exec (.slotCommit id verdict) s = .next (s.after (d.setMsg x))) ∧
      (d.sw.pipe = [x] → x.gate ≠ .full → y.done = false → y.want = [] → y.crc = true ∨ (verdict = true ∧ d.verdictDue x.port.val y = true) →
        x.slots = [y] →
        (0 < x.more → exec (.slotCommit id verdict) s = .next (s.after { d with sw := { d.sw with
          pipe := [{ x with slots := [{ y with crc := true, done := true }] }] } })) ∧
        (x.more = 0 → x.dest = .port e → d.isIl x.port.val = true → Op.answers x.m.op = false → x.viol = false → x.m.mcast = false →
          ∃ t, exec (.slotCommit id verdict) s = .next t ∧ t.pending = s.pending ∧ t.dev.sw.pipe = [] ∧
            t.dev.sw.staged = d.sw.staged ++ [{ x.staged with m := { x.m with hops := x.m.hops + 1 }, want := [], spec := false }] ∧
            t.dev.sw.queues = d.sw.queues ∧ t.dev.coh = d.coh))) ∧
    (d.sw.pipe = [] → d.sw.staged = [] → exec (.ioHoldTimeout id) s = .next (s.after d)) ∧
    (d.sw.pipe = [x] → x.id = id → x.heIo = true → x.resv = true → exec (.ioHoldTimeout id) s =
        .next (s.after ((d.setMsg { x with heIo := false, resv := false }).count (cTile (x.port.val / 8) 1)))) ∧
    (d.sw.pipe = [] → d.sw.staged = [w] → w.id = id → w.resv = true → w.m.cls = .ion ∨ w.m.cls = .iop ∨ w.m.cls = .ioc →
      exec (.ioHoldTimeout id) s = .next (s.after
        (({ d with sw := { d.sw with staged := [{ w with resv := false }] } } : Dev).count (cTile w.tile.val 1))))) ∧
  (∀ (s : State) (p e : Port) (flit : Nat) (fec rx : Bool), s.dev.die = true →
    let d := s.dev
    let mine (y : PMsg) : Bool := decide (y.port = p)
    let first := (((d.openSlots p.val).filter fun y => y.flit == flit).map (·.id)).min?
    ∃ t, exec (.flitCrcFail p flit fec rx) s = .next t ∧ t.pending = s.pending ∧
      t.dev.sw.staged = d.sw.staged ∧ t.dev.sw.queues = d.sw.queues ∧ t.dev.sw.xptr = d.sw.xptr ∧ t.dev.coh = d.coh ∧
      t.dev.cnt.get 0 (cPort p.val 9) = cntAdd (d.cnt.get 0 (cPort p.val 9)) 1 ∧
      (first = none → t.dev.sw = d.sw ∧ t.dev.il = d.il ∧ t.dev.ports = d.ports) ∧
      (∀ c, first = some c →
        let gone := (d.sw.pipe.filter mine).filter fun x => !(x.lost c).isEmpty && x.wholly c
        t.dev.sw.pipe.filter (fun y => !mine y) = d.sw.pipe.filter (fun y => !mine y) ∧
        (t.dev.sw.pipe.filter mine).flatMap (·.slots) =
          (d.sw.pipe.filter mine).flatMap (fun x => x.slots.filter fun y => !(y.open_ && decide (c ≤ y.id))) ∧
        (∀ x, gone.find? (·.seqd) = some x →
          t.dev.sw.sseq.get 0 x.m.src.toNat = x.m.sseq.toNat ∧
          ∀ k, k ≠ x.m.src.toNat → t.dev.sw.sseq.get 0 k = d.sw.sseq.get 0 k) ∧
        (gone.find? (·.seqd) = none → t.dev.sw.sseq = d.sw.sseq) ∧
        (t.dev.prt p.val).rel = (match gone with | x :: _ => x.rel - 1 | [] => (d.prt p.val).rel) ∧
        (d.isIl e.val = true → (t.dev.ilRt e.val).nulls = (d.ilRt e.val).nulls +
          ((d.sw.pipe.filter fun x => mine x && x.resv && decide (x.dest = .port e) && !(x.heIo && !x.wholly c)).map
            fun x => (x.lost c).length).sum)))

/-- O27 (R181, R182, R189, R191, R195, R222, R223, R226, R227, R400, R401, R537). On a live die: a staged message for a
port that holds its crossbar grant is admitted where it is first in its order, no lock holds it, a completion
tracker is free, its tile is Active and its cells leave its class's floor free: it joins its queue's tail, with its
age counted from now; it is a route miss where the port is disabled or fenced, and answered as lost where the port
is down without a layover; where something keeps it, nothing changes. A message that makes a queue non-empty
bypasses it on a port with room, where the scheduler would select that queue. A message number with nothing staged
changes nothing. A port that is not up selects nothing; with room for one message it takes what its scheduler picks,
or counts why nothing was eligible; with no room it only counts that. A layover that expires is a flush with cause
1, and without a layover nothing happens. An unknown, unsent or already logged copy is not logged; an aged one is,
once. Cells freed serve stragglers first, then the folds of the tile in order. For every state and port: while a
queue of class 7 is eligible, the scheduler picks an eligible queue of class 7; with none, and neither side buffer's
head having credit, it picks an eligible queue of classes 0 to 6 with no start tag of another eligible one lying
before its own where all of those tags lie within 2^31 of one another; and it picks nothing only where nothing is
eligible. A pick by virtual time removes the head, moves V to the queue's start tag and advances that tag by the
message's blocks times 65,536 over the weight; without an error in its cells the head is handed off as it was
queued. -/
def Obligations.AdmissionAndSelection : Prop :=
  (∀ (s : State) (k id q : Nat) (e0 e1 : CellErr) (e : Port) (x : Staged) (link : List Nat) (c : McCopy) (pk : Pick) (t : Tile),
    s.dev.die = true →
    let d := s.dev
    let free := d.inOrder k x [e.val] = true ∧ d.locked e.val x = false ∧ d.trkFull e.val x.m = false ∧ d.awake (e.val / 8) = true
    let folds (d : Dev) : Dev := (List.range 64).foldl (fun d k =>
      if !(d.foldRt (t.val * 64 + k)).held.isEmpty && d.auxCan t.val .blend 1 then d.foldRequeue (t.val * 64 + k) else d) d
    (d.sw.staged[k]? = none → exec (.messageAdmit k [] []) s = .next (s.after d) ∧ exec (.messageAdmit k [e] [link]) s = .next (s.after d)) ∧
    (d.sw.staged[k]? = some x → x.want ≠ [] → exec (.messageAdmit k [] []) s = .next (s.after d)) ∧
    (d.sw.staged[k]? = some x → x.dest = .port e → x.want = [] →
      (d.inOrder k x [e.val] = false ∨ d.locked e.val x = true ∨ d.trkFull e.val x.m = true ∨ d.awake (e.val / 8) = false →
        exec (.messageAdmit k [] []) s = .next (s.after d)) ∧
      (free → d.takes e.val = true → x.celled = false → d.fitsBuffer (e.val / 8) x.q x.m = false →
        exec (.messageAdmit k [] []) s = .next (s.after d)) ∧
      (free → d.isHost e.val = false → d.takes e.val = false ∨ x.celled = true ∨ d.fitsBuffer (e.val / 8) x.q x.m = true →
        (d.enabled e.val = false ∨ d.portFenced e.val = true →
          exec (.messageAdmit k [] []) s = .next (s.after (((d.unstage k x).routeMiss e.val x.m).doneMsg x.ing x.rel))) ∧
        (d.enabled e.val = true → d.portFenced e.val = false → d.takes e.val = false → exec (.messageAdmit k [] []) s =
          .next (s.after (((d.unstage k x).lostAnswer (uTile (e.val / 8) 0x11) e.val x.m).doneMsg x.ing x.rel))) ∧
        (d.enabled e.val = true → d.portFenced e.val = false → (d.prt e.val).up = true → (d.prt e.val).layover = false →
          exec (.messageAdmit k [] []) s = .next (s.after (((d.unstage k x).track e.val x.m).enqueue e.val x.q x.m x.ing x.rel none)))) ∧
      (x.q / 256 = e.val → (d.queue x.q).msgs = [] → exec (.messageAdmit k [e] [link]) s =
        .next (s.after (((d.offerCredit e.val link).admitStaged k).bypass e.val x.q)))) ∧
    ((d.enqueue e.val q x.m x.ing x.rel none).queue q).msgs = (d.queue q).msgs ++
      [{ m := x.m, ing := x.ing, rel := x.rel, mc := none, adm := d.sw.nextAdm, since := d.clk.ftc, deferred := false }] ∧
    (let n := (d.side e.val).noteQueues e.val
     ((d.queue q).msgs.length = 1 → d.passesPort e.val = true → pk = .strict q ∨ pk = .wfq q → n.pick e.val = some pk →
        d.bypass e.val q = (n.take e.val pk .none).count (cEgress e.val 2)) ∧
     ((d.queue q).msgs.length ≠ 1 ∨ d.passesPort e.val = false → d.bypass e.val q = d)) ∧
    ((d.prt e.val).up = false → exec (.schedulerSelect e link 1 e0 e1) s = .next (s.after d)) ∧
    ((d.prt e.val).up = true → d.passesPort e.val = false →
      exec (.schedulerSelect e link 0 e0 e1) s = .next (s.after d) ∧
      exec (.schedulerSelect e link 1 e0 e1) s = .next (s.after (d.emptySlots e.val))) ∧
    ((d.prt e.val).up = true → d.passesPort e.val = true →
      let n := ((((d.offerCredit e.val link).creditStalls e.val).side e.val).noteQueues e.val)
      exec (.schedulerSelect e link 0 e0 e1) s = .next (s.after ((d.offerCredit e.val link).heldEdge e.val)) ∧
      (n.pick e.val = some pk → exec (.schedulerSelect e link 1 e0 e1) s = .next (s.after (n.take e.val pk e0))) ∧
      (n.pick e.val = none → exec (.schedulerSelect e link 1 e0 e1) s = .next (s.after ((n.heldEdge e.val).emptySlots e.val)))) ∧
    ((d.prt e.val).layover = true → exec (.layoverExpiry e) s = .next (s.after (d.flushPort e.val 1))) ∧
    ((d.prt e.val).layover = false → exec (.layoverExpiry e) s = .next (s.after d)) ∧
    (d.sw.mc = [] → exec (.stragglerAgeExpiry id) s = .next (s.after d)) ∧
    (d.sw.mc = [c] → c.started = true → c.aged = false → c.waiting = [e] → d.get F.TIL_MCAST_CFG.STRAG_AGE c.tile.val ≠ 0 →
      exec (.stragglerAgeExpiry c.id) s = .next (s.after
        (({ d.set F.TIL_ERR.STRAG_AGE c.tile.val with sw := { d.sw with mc := [{ c with aged := true }] } } : Dev).raise
          .mcastStragglerAge (uTile c.tile.val 0x11) e.val (c.group.toNat + e.val * 2 ^ 12 + c.gseq.toNat * 2 ^ 18)))) ∧
    (d.sw.staged = [] → exec (.auxWaiterServe t) s = .next (s.after (folds d))) ∧
    (d.sw.staged = [x] → x.m.mcast = true → x.dest = .mcast x.m.dst → (d.admitStaged 0).sw.staged = [] →
      exec (.auxWaiterServe t) s = .next (s.after (folds (d.admitStaged 0))))) ∧
  (∀ (d : Dev) (p q c : Nat) (h : QMsg) (l : List QMsg) (e : CellErr), q / 256 = p → c / 256 = p →
    let busy (z : Nat) : Prop := z ∈ d.busyQueues p ∧ d.eligible z = true
    let r := d.prt p
    (busy c → qClass c = 7 → ∃ z, d.pick p = some (.strict z) ∧ busy z ∧ qClass z = 7) ∧
    (d.pick p = some (.strict q) → busy q ∧ qClass q = 7) ∧
    (d.pick p = some (.wfq q) → busy q ∧ qClass q ≠ 7 ∧ (∀ z, busy z → qClass z ≠ 7) ∧
      ((∀ a b, busy a → busy b → ((d.queue a).start - (d.queue b).start).toInt.natAbs < 2 ^ 30) → busy c →
        before32 (d.queue c).start (d.queue q).start = false)) ∧
    (d.pick p = none → ¬ busy q) ∧
    (r.sideNp = [] → r.sideCpl = [] → d.pick p ≠ some .sideNp ∧ d.pick p ≠ some .sideCpl) ∧
    ((d.queue q).msgs = h :: l → qClass q ≠ 7 → 0 < d.get F.QUEUE.WEIGHT q →
      ∃ (e' : Dev) (x : QMsg) (b : Bool), d.take p (.wfq q) e = e'.handOff p q x b ∧ (e = .none → x = h ∧ b = false) ∧
        (e'.queue q).msgs = l ∧
        (e'.queue q).start = (d.queue q).start + BitVec.ofNat 32 (h.m.blocks * 65536 / d.get F.QUEUE.WEIGHT q) ∧
        e'.get F.SCH_PORT_VT.VT p = (d.queue q).start.toNat))

/-- O28 (R230, R231, R232, R244, R229, R237). For every bucket contents and charge of b bytes: a message is red exactly
where it was red before or the peak bucket holds less than b, and then neither bucket changes; else it is yellow
exactly where it was yellow or the committed bucket holds less than b, and only the peak bucket pays; else it is
green and both pay. A rate converts to the nearest number of 1/256 bytes per refill, a half rounding up; at the
default interval it converts to 1 or more from 19,532 B/s on and fits 24 bits up to 655,359,980,468 B/s. A depth or
age of n falls in bin k, for 2 to 14, exactly where it lies in 2^(k-1) to 2^k - 1, in bin 1 below 2 and in bin 15
from 16,384 on. For every state with canonical tables, no setting that waits and no message held: a refill edge adds
RATE to the tokens of every queue whose shaper is on, up to BURST, leaves the tokens of every other queue, adds CIR
and PIR to the buckets of every policer that has a peak rate, up to CBS and PBS, and leaves the others; and no
message of a queue changes. -/
def Obligations.MetersRatesAndRefills : Prop :=
  (∀ (tc tp b bps refill n k : Nat) (pre : Colour),
    let x := meter tc tp pre b
    (x.1 = .red ↔ pre = .red ∨ tp < b * 256) ∧
    (x.1 = .red → x.2 = (tc, tp)) ∧
    (x.1 = .yellow ↔ pre ≠ .red ∧ b * 256 ≤ tp ∧ (pre = .yellow ∨ tc < b * 256)) ∧
    (x.1 = .yellow → x.2 = (tc, tp - b * 256)) ∧
    (x.1 = .green → b * 256 ≤ tc ∧ b * 256 ≤ tp ∧ x.2 = (tc - b * 256, tp - b * 256)) ∧
    (2 * 10 ^ 9 * rateOf bps refill ≤ 2 * (bps * (refill * 10) * 256) + 10 ^ 9 ∧
      2 * (bps * (refill * 10) * 256) + 10 ^ 9 < 2 * 10 ^ 9 * (rateOf bps refill + 1)) ∧
    (1 ≤ rateOf bps 10 ↔ 19532 ≤ bps) ∧ (rateOf bps 10 ≤ 0xFFFFFF ↔ bps ≤ 655359980468) ∧
    (2 ≤ k → k ≤ 14 → (histBin n = k ↔ 2 ^ (k - 1) ≤ n ∧ n < 2 ^ k)) ∧ (histBin n = 1 ↔ n < 2) ∧
    (histBin n = 15 ↔ 16384 ≤ n)) ∧
  (∀ (s : State) (q i : Nat), s.dev.die = true → s.dev.tablesOk = true → s.dev.sw.pendSh = [] → s.dev.sw.pendPol = [] →
    s.dev.sw.pendRefill = none → (∀ j, (s.dev.pol j).hold = []) → (∀ x ∈ s.dev.sw.pipe, x.gate ≠ .full) → q < 65536 → i < 65536 →
    let d := s.dev
    ∃ t, exec .refillTick s = .next t ∧ t.pending = s.pending ∧
      (d.bit F.QUEUE.SHAPE_EN q = true →
        (t.dev.queue q).tokens = min ((d.queue q).tokens + d.get F.QUEUE.RATE q) (d.get F.QUEUE.BURST q * 256)) ∧
      (d.get F.QUEUE.SHAPE_EN q = 0 → t.dev.queue q = d.queue q) ∧
      (t.dev.queue q).msgs = (d.queue q).msgs ∧
      (d.get F.POL.PIR i ≠ 0 → (t.dev.pol i).tc = min ((d.pol i).tc + d.get F.POL.CIR i) (d.get F.POL.CBS i * 256) ∧
        (t.dev.pol i).tp = min ((d.pol i).tp + d.get F.POL.PIR i) (d.get F.POL.PBS i * 256)) ∧
      (d.get F.POL.PIR i = 0 → t.dev.pol i = d.pol i) ∧
      t.dev.ports = d.ports ∧ t.dev.coh = d.coh ∧ t.dev.clk = d.clk)

/-- O29 (R235, R240, R241, R242, R244, R245, R246). On a live die: an empty hold queue releases nothing, and neither
does one whose head has not committed; a head that nothing keeps is metered, released where its colour passes and
else kept as metered; with its policer off it is released green; a head already metered is released as its colour
passes. A window change of a running gate records the entry in force and counts the overruns, and of a stopped gate
does nothing. A pending list whose instant has come takes over its port: the gate runs, with its count, cycle, base
and entries, and nothing is pending; with none pending, or before its instant, nothing happens. With no queue
sampled a sample changes nothing; a sample of a queue adds 1 to the bins of its depth and of its age, an empty one
to bins 0. FREEZE is written, and CLEAR empties every bin. -/
def Obligations.SchedulingEdges : Prop :=
  ∀ (s : State) (i : Inst) (p : Port) (n e q : Nat) (g : GateList) (h : Staged) (l : List Staged) (on : Bool), s.dev.die = true →
    let d := s.dev
    let x := d.pol i.val
    let from_ := (h.ing.map (·.val)).getD 0
    (x.hold = [] → exec (.holdQueueRelease i) s = .next (s.after d)) ∧
    (x.hold = h :: l → h.spec = false → d.blocked from_ i.val h.m = false →
      let z := d.police from_ i.val h.dest h.q h.m false
      (x.metered = false → d.bit F.POL.EN i.val = false → exec (.holdQueueRelease i) s =
        .next (s.after (d.releaseHead i.val { h with m := { h.m with colour := .green } } l))) ∧
      (x.metered = false → z.2.2 = true → exec (.holdQueueRelease i) s =
        .next (s.after (z.1.releaseHead i.val { h with m := { h.m with colour := z.2.1 } } l))) ∧
      (x.metered = false → z.2.2 = false → exec (.holdQueueRelease i) s = .next (s.after (z.1.setPol i.val
        { z.1.pol i.val with hold := { h with m := { h.m with colour := z.2.1 } } :: l, metered := true }))) ∧
      (x.metered = true → d.passes h.m.colour h.dest h.q = true →
        exec (.holdQueueRelease i) s = .next (s.after (d.releaseHead i.val h l))) ∧
      (x.metered = true → d.passes h.m.colour h.dest h.q = false → exec (.holdQueueRelease i) s = .next (s.after d))) ∧
    (x.hold = h :: l → h.spec = true → exec (.holdQueueRelease i) s = .next (s.after d)) ∧
    (d.bit F.SCH_GATE_CTL.EN p.val = false → exec (.gateWindowChange p n) s = .next (s.after d)) ∧
    (d.bit F.SCH_GATE_CTL.EN p.val = true → exec (.gateWindowChange p n) s = .next (s.after
      (({ d with sw := { d.sw with gateCur := d.sw.gateCur.put 0 p.val (d.gatePos p.val).1 } } : Dev).count (cEgress p.val 7) n))) ∧
    (d.sw.gates.get none p.val = none → exec (.gateListTakeover p) s = .next (s.after d)) ∧
    (d.sw.gates.get none p.val = some g → d.clk.ftc.toNat < g.start → exec (.gateListTakeover p) s = .next (s.after d)) ∧
    (d.sw.gates.get none p.val = some g → g.start ≤ d.clk.ftc.toNat → g.ents.length ≤ 64 → g.cycle < 2 ^ 30 → (∀ y ∈ g.ents, y.1 < 2 ^ 30) →
      ∃ t, exec (.gateListTakeover p) s = .next t ∧ t.pending = s.pending ∧ t.dev.get F.SCH_GATE_CTL.EN p.val = 1 ∧
        t.dev.get F.SCH_GATE_CTL.COUNT p.val = g.ents.length ∧ t.dev.get F.SCH_GATE_CYCLE.CYCLE p.val = g.cycle ∧
        t.dev.get F.SCH_GATE_BASE.BASE p.val = g.base.toNat ∧ t.dev.sw.gates.get none p.val = none ∧
        (e < g.ents.length → t.dev.get F.SCH_GATE_ENT.DURATION (p.val * 64 + e) = (g.ents.getD e (0, 0)).1 ∧
          t.dev.get F.SCH_GATE_ENT.OPEN (p.val * 64 + e) = (g.ents.getD e (0, 0)).2.toNat) ∧
        t.dev.sw.queues = d.sw.queues ∧ t.dev.ports = d.ports ∧ t.dev.coh = d.coh) ∧
    (d.listed F.QUEUE.HIST_EN = [] → exec .histSample s = .next (s.after d)) ∧
    (d.listed F.QUEUE.HIST_EN = [q] → d.get F.SCH_HIST_CFG.FREEZE = 0 → d.get F.PWR_SAG_STATUS.STAGE = 0 → d.bit F.QUEUE.CARAVAN_EN q = false →
      ((d.queue q).msgs = [] → exec .histSample s = .next (s.after ((d.bin (q * 32)).bin (q * 32 + 16)))) ∧
      (∀ m ms, (d.queue q).msgs = m :: ms → exec .histSample s = .next (s.after
        ((d.bin (q * 32 + histBin (d.queue q).cells)).bin (q * 32 + 16 + histBin ((d.clk.ftc - m.since).toNat / 10)))))) ∧
    (d.listed F.QUEUE.HIST_EN = [q] → d.get F.SCH_HIST_CFG.FREEZE = 1 → d.bit F.QUEUE.CARAVAN_EN q = false →
      exec .histSample s = .next (s.after d)) ∧
    exec (.schHistFreeze on) s = .next (s.after (d.put F.SCH_HIST_CFG.FREEZE 0 (if on then 1 else 0))) ∧
    exec .schHistClear s = .next (s.after { d with sw := { d.sw with hist := [] } })

/-- O30 (R220, R230, R231, R237, R238, R241, R244, R245, R249, R253, R254). Each accepted request with a payload its
layout allows: QUEUE_CONFIG writes the image of word 0; SHAPER_SET waits for the refill with the converted rate,
which it answers, and an enabled rate that converts to 0 or a BURST below 576 is INVALID_PARAM; POLICER_SET waits
for the refill with both converted rates, which it answers, and PIR below CIR is INVALID_PARAM; GATE_LIST_SET with
EN 0 stops the gate at once, and with a list whose durations sum to CYCLE makes it pending, else INVALID_PARAM;
LATENCY_SAMPLE_CFG sets PERIOD and clears the bins where it says so; CLASS_MAP_SET writes the two maps of a port;
QUEUE_STATUS and HIST_READ answer what is held and change nothing; SCHED_CTL_SET waits for the refill, and an
interval outside 2 to 1,000 is INVALID_PARAM. -/
def Obligations.SchedulingCommands : Prop :=
  ∀ (s : State) (r : FoernReq) (p i v w bps pir burst : Nat) (base : BitVec 64) (op8 : BitVec 8), p < 64 → i < 256 → v < 2 ^ 32 → w < 2 ^ 32 →
    bps < 2 ^ 64 → pir < 2 ^ 64 → burst < 2 ^ 32 →
    let pay := r.raw.drop 8
    let d := s.dev.taken r.via
    let sel (op n : Nat) : Prop := (hdrOf op r.raw).sel = BitVec.ofNat 16 n
    let refill := d.get F.SCH_CTL.REFILL
    let x := rateOf bps refill
    let y := rateOf pir refill
    (s.dev.accepts r (fmCmd 0xC300) = true → sel 0xC300 p → pay = bytes 2 i ++ bytes 2 1 ++ bytes 4 v → v / 2 ^ 10 % 64 = 0 →
      i / 32 = 7 ∨ v % 256 ≠ 0 → v / 512 % 2 = 0 ∨ v / 256 % 2 = 1 →
      exec (.queueConfig r) s = .next (s.okay r 0xC300 (d.putWord .QUEUE0 (p * 256 + i) v) []
        ((d.putWord .QUEUE0 (p * 256 + i) v).stageNow 0x3003 [(p * 256 + i) * 3]))) ∧
    (s.dev.accepts r (fmCmd 0xC301) = true → sel 0xC301 p →
      pay = bytes 2 i ++ bytes 1 1 ++ bytes 1 0 ++ bytes 8 bps ++ bytes 4 burst →
      (576 ≤ burst → burst < 2 ^ 24 → 0 < x → x ≤ 0xFFFFFF → exec (.shaperSet r) s = .next (s.okay r 0xC301
        { d with sw := { d.sw with pendSh := d.sw.pendSh.put none (p * 256 + i) (some ⟨true, x, burst⟩),
                                   rates := d.sw.rates.put 0 (p * 256 + i) bps } } (bytes 4 x)
        [⟨0x3003, (p * 256 + i) * 3 + 1, x + 2 ^ 31⟩, ⟨0x3003, (p * 256 + i) * 3 + 2, burst⟩])) ∧
      (burst < 576 ∨ x = 0 ∨ 0xFFFFFF < x → exec (.shaperSet r) s = .next (s.declined r 0xC301 .invalidParam))) ∧
    (s.dev.accepts r (fmCmd 0xC302) = true → sel 0xC302 i → d.bit F.POL.TRANSIT i = false →
      pay = bytes 1 1 ++ bytes 1 0 ++ bytes 2 0 ++ bytes 8 bps ++ bytes 8 pir ++ bytes 4 w ++ bytes 4 burst →
      (bps ≤ pir → 576 ≤ burst → burst < 2 ^ 24 → w < 2 ^ 24 → 0 < x → y ≤ 0xFFFFFF → x ≤ y →
        exec (.policerSet r) s = .next (s.okay r 0xC302
          { d with sw := { d.sw with pendPol := d.sw.pendPol.put none i (some ⟨true, false, none, x, y, w, burst⟩),
                                     rates := (d.sw.rates.put 0 (2 ^ 20 + 2 * i) bps).put 0 (2 ^ 20 + 2 * i + 1) pir } }
          (bytes 4 x ++ bytes 4 y)
          [⟨0x3004, i * 6, 1⟩, ⟨0x3004, i * 6 + 1, x⟩, ⟨0x3004, i * 6 + 2, y⟩, ⟨0x3004, i * 6 + 3, w⟩, ⟨0x3004, i * 6 + 4, burst⟩,
           ⟨0x3004, i * 6 + 5, d.get F.POL.HOLD_MAX i⟩])) ∧
      (pir < bps ∨ burst < 576 → exec (.policerSet r) s = .next (s.declined r 0xC302 .invalidParam))) ∧
    (s.dev.accepts r (fmCmd 0xC303) = true → sel 0xC303 p →
      (pay = bytes 16 0 → exec (.gateListSet r) s = .next (s.okay r 0xC303
        { d.put F.SCH_GATE_CTL.EN p 0 with
          sw := { d.sw with gates := d.sw.gates.erase p, gateForced := d.sw.gateForced.erase p } })) ∧
      (pay = bytes 1 1 ++ bytes 1 1 ++ bytes 2 0 ++ bytes 4 v ++ bytes 8 base.toNat ++ bytes 4 w ++ [op8, 0, 0, 0] → 1000 ≤ v → v ≤ 1000000000 →
        (w = v → exec (.gateListSet r) s = .next (s.okay r 0xC303
          { d with sw := { d.sw with gates := d.sw.gates.put none p (some ⟨v, base, [(v, op8)], d.clk.ftc⟩) } })) ∧
        (w ≠ v → exec (.gateListSet r) s = .next (s.declined r 0xC303 .invalidParam)))) ∧
    (s.dev.accepts r (fmCmd 0xC304) = true → 0 < burst → burst < 65536 →
      (pay = bytes 2 burst ++ bytes 2 0 → exec (.latencySampleCfg r) s = .next (s.okay r 0xC304 (d.put F.SCH_HIST_CFG.PERIOD 0 burst) []
        ((d.put F.SCH_HIST_CFG.PERIOD 0 burst).stageNow 0x3001 [0]))) ∧
      (pay = bytes 2 burst ++ bytes 2 1 → exec (.latencySampleCfg r) s = .next (s.okay r 0xC304
        (d.put F.SCH_HIST_CFG.PERIOD 0 burst).histClear [] ((d.put F.SCH_HIST_CFG.PERIOD 0 burst).stageNow 0x3001 [0])))) ∧
    (s.dev.accepts r (fmCmd 0xC305) = true → sel 0xC305 p → pay = bytes 4 v ++ bytes 4 w ++ bytes 4 0 → mapClash v w = false →
      let e := ((d.put F.SCH_CLASSMAP.MAP p v).put F.SCH_SLOTMAP.MAP p w).bindTransit p 0 false
      exec (.classMapSet r) s = .next (s.okay r 0xC305 e [] (e.stageNow 0x3002 [3 * p, 3 * p + 1, 3 * p + 2]))) ∧
    (s.dev.accepts r (fmCmd 0xC306) = true → sel 0xC306 p → pay = bytes 2 i ++ bytes 2 1 →
      let z := d.queue (p * 256 + i)
      exec (.queueStatus r) s = .next (s.okay r 0xC306 d
        (bytes 4 z.word3 ++ bytes 4 z.cells ++ bytes 4 z.msgs.length ++ bytes 4 z.start.toNat ++ bytes 4 (d.queueWord8 (p * 256 + i))))) ∧
    (s.dev.accepts r { opcode := 0xC307, may := fun p _ _ => fmOnly p, modes := fun m => m = .quiesce } = true →
      burst < 65536 → pay = bytes 2 burst →
      (2 ≤ burst → burst ≤ 1000 → exec (.schedCtlSet r) s = .next (s.okay r 0xC307
        { d with sw := { d.sw with pendRefill := some burst } } [] [⟨0x3000, 0, burst⟩])) ∧
      (burst < 2 ∨ 1000 < burst → exec (.schedCtlSet r) s = .next (s.declined r 0xC307 .invalidParam))) ∧
    (s.dev.accepts r (fmCmd 0xC308) = true → sel 0xC308 (p * 256 + i) → pay = [] →
      exec (.histRead r) s = .next (s.okay r 0xC308 d
        ((List.range 32).flatMap fun b => bytes 4 (d.sw.hist.get 0 ((p * 256 + i) * 32 + b)))))

/-- O31 (R91, R94, R167, R168, R169, R170, R187, R188). For every state and message of an interlink port: with a valid
entry that names an enabled port which is not fenced it goes to that port, unless it has 31 hops, when it is a route
miss; an entry with LOCAL takes a line request to the home of its address, an I/O message to the C64's own functions
and a response to the tollgate its tag names; an invalid entry and a disabled or fenced port are a miss. A multicast
message of a class other than RWD and IOP is malformed; of those two it is a miss where the group is invalid or the
hops are 31, is replicated on the root and where it comes from the root, and else goes to the root unreplicated. At
another port a message that no decoder matches is a miss, a payload above 512 bytes is malformed, and a selective
IDE message for one of the C64's own ranges gets an Unsupported Request. Taking a message to a port adds 1 to its
hops and puts it at the end of the staging. -/
def Obligations.RoutingByEdge : Prop :=
  ∀ (d : Dev) (p : Nat) (e : Port) (m : Msg) (x : Staged) (dec : Decode),
    let i := m.dst.toNat
    let q := d.get F.TIL_ROUTE.PORT i
    let r := d.get F.TIL_MCAST.ROOT_PORT i
    let goes := (d.destOf p dec m).dest
    let home := m.cls = .req ∨ m.cls = .rwd
    let io := m.cls = .ion ∨ m.cls = .iop ∨ m.cls = .ioc
    let answer := m.cls = .rsp ∨ m.cls = .drs
    (d.isIl p = true → m.mcast = false →
      (d.destOf p dec m).m = m ∧
      (d.bit F.TIL_ROUTE.VALID i = true → d.bit F.TIL_ROUTE.LOCAL i = false → d.enabled q = true → d.portFenced q = false →
        (m.hops ≠ 31 → goes = .port (Fin.ofNat 64 q)) ∧ (m.hops = 31 → goes = .answer .miss)) ∧
      (d.bit F.TIL_ROUTE.VALID i = true → d.bit F.TIL_ROUTE.LOCAL i = true →
        (home → goes = d.homeDest m.addr.toNat true m) ∧ (io → goes = .own 0) ∧ (m.cls = .snp → goes = .answer .miss) ∧
        (answer → goes = .slice (Fin.ofNat 8 (m.tag.toNat / 8192)) true)) ∧
      (d.bit F.TIL_ROUTE.VALID i = false → goes = .answer .miss) ∧
      (d.bit F.TIL_ROUTE.LOCAL i = false → d.enabled q = false ∨ d.portFenced q = true → goes = .answer .miss)) ∧
    (d.isIl p = true → m.mcast = true →
      (m.cls ≠ .rwd → m.cls ≠ .iop → goes = .answer .malformed) ∧
      (m.cls = .rwd ∨ m.cls = .iop →
        (d.bit F.TIL_MCAST.VALID i = false ∨ m.hops = 31 → goes = .answer .miss) ∧
        (d.bit F.TIL_MCAST.VALID i = true → m.hops ≠ 31 →
          (d.bit F.TIL_MCAST.ROOT i = true ∨ p = r → goes = .mcast m.dst) ∧
          (d.bit F.TIL_MCAST.ROOT i = false → p ≠ r →
            (d.enabled r = true → d.portFenced r = false → goes = .port (Fin.ofNat 64 r)) ∧
            (d.enabled r = false ∨ d.portFenced r = true → goes = .answer .miss))))) ∧
    (d.isIl p = false → m.op ≠ .mRdLk → m.pay.length ≤ 512 →
      (d.destOf p .none m).dest = .answer .miss ∧ (m.selIde = true → Decode.bound dec = false → goes = .answer .ur)) ∧
    (d.isIl p = false → 512 < m.pay.length → (∀ o, dec ≠ .bar2 o) → goes = .answer .malformed) ∧
    (x.dest = .port e → x.m.mcast = false → d.place x = { d with sw := { d.sw with
      staged := d.sw.staged ++ [{ x with m := { x.m with hops := x.m.hops + 1 }, want := [], spec := false }] } })

/-- O32 (R171, R173, R174, R175, R186, R192, R213, R214, R215, R216). Each accepted request with a payload its layout
allows: ROUTE_WRITE writes up to 256 entries, one with VALID 0 as 0, and a valid entry that names a disabled port is
INVALID_PARAM; ROUTE_READ, BIND_STATUS and MCAST_GROUP_READ answer the entries; BIND of a free vPPB to a free routed
target starts in the background with the vPPB binding, and of a vPPB that is not unbound is STATE_MISMATCH; UNBIND
with mode 0 or 1 starts with the vPPB unbinding, with mode 2 it is flushed and, as a surprise removal, done at once,
and of an unbound vPPB is STATE_MISMATCH; MCAST_GROUP_SET writes the group; AUX_PARTITION_SET sets the partition of
a tile in Bring-up, and in Quiesce with cells in use is NOT_QUIESCED. A bind completes once its event has a place,
and an unbind once the host has let the slot go, in mode 1 by its power. -/
def Obligations.RoutingCommands : Prop :=
  ∀ (s : State) (r : FoernReq) (p t : Nat) (v e n w m a b c f : Nat) (mode : Fin 3) (power : Bool) (hp : Port) (q : Nat),
    p < 64 → t < 8 → e < 4096 → w < 2048 → a < 256 → b < 256 → c < 256 → f < 256 → m < 2 ^ 64 →
    let pay := r.raw.drop 8
    let d := s.dev.taken r.via
    let sel (op n : Nat) : Prop := (hdrOf op r.raw).sel = BitVec.ofNat 16 n
    let i := vppbNo p v
    let aux : Cmd := { opcode := 0xC206, may := fun p _ _ => fmOnly p, modes := fun m => m = .bringUp || m = .quiesce }
    let ents := wordsOf (pay.drop 4)
    (s.dev.accepts r (fmCmd 0xC200) = true → le pay 0 2 = e → le pay 2 2 = n → 1 ≤ n → n ≤ 256 → e + n ≤ 4096 → pay.length = 4 + 4 * n →
      ((∀ x ∈ ents, x < 256 ∧ (x % 2 = 0 ∨ x / 2 % 2 = 1 ∨ d.enabled (x / 4) = true)) →
        let x := (List.range n).foldl (fun y k => let w := ents.getD k 0; y.putWord .TIL_ROUTE (e + k) (if w % 2 = 0 then 0 else w)) d
        exec (.routeWrite r) s = .next (s.okay r 0xC200 x [] (x.stageNow 0x2000 ((List.range n).map (e + ·))))) ∧
      ((∃ x ∈ ents, x % 4 = 1 ∧ d.enabled (x / 4) = false) →
        exec (.routeWrite r) s = .next (s.declined r 0xC200 .invalidParam))) ∧
    (s.dev.accepts r (fmCmd 0xC204) = true → pay = bytes 2 e ++ bytes 2 n → 1 ≤ n → n ≤ 256 → e + n ≤ 4096 →
      exec (.routeRead r) s = .next (s.okay r 0xC204 d ((List.range n).flatMap fun k => bytes 4 (d.word .TIL_ROUTE (e + k))))) ∧
    (s.dev.accepts r (fmCmd 0xC201) = true → sel 0xC201 p → pay = bytes 1 v ++ bytes 1 b ++ bytes 2 e → 1 ≤ v → v ≤ 31 →
      b / 16 % 8 = 0 → d.isHost p = true → d.bindTarget e = true →
      let ldv := decide (128 ≤ b)
      let w := 1 + e * 4 + b % 16 * 2 ^ 14 + (if ldv then 2 ^ 18 else 0)
      (d.get F.TIL_VPPB.STATE i = 0 → d.ldBound e (b % 16) ldv = false → d.ldWindowed e (b % 16) ldv = false → d.binding p = false →
        d.eventsFull e = false → d.bgRoom r.via = true →
        exec (.bind r) s = .next (s.begun r 0xC201 p (d.putWord .TIL_VPPB i w) [⟨0x2001, i, w + 1⟩])) ∧
      (d.get F.TIL_VPPB.STATE i ≠ 0 → exec (.bind r) s = .next (s.declined r 0xC201 .stateMismatch))) ∧
    (s.dev.accepts r (fmCmd 0xC202) = true → sel 0xC202 p → le r.raw 2 2 = p → pay = bytes 1 v ++ bytes 1 mode.val → 1 ≤ v → v ≤ 31 →
      d.isHost p = true → (∀ u, (d.brg.vppb.get VppbRt.reset (vppbNo p u)).unbind = none) →
      (d.get F.TIL_VPPB.STATE i = 0 → exec (.unbind r) s = .next (s.declined r 0xC202 .stateMismatch)) ∧
      (d.get F.TIL_VPPB.STATE i = 2 → d.binding p = false → d.eventsFull (d.get F.TIL_VPPB.TARGET_EDGE i) = false →
        d.bgRoom r.via = true →
        (mode ≠ 2 → exec (.unbind r) s = .next (s.begun r 0xC202 p (d.unbindStart p v mode) [⟨0x2001, i, 0⟩])) ∧
        (mode ≠ 2 → (d.unbindStart p v mode).get F.TIL_VPPB.STATE i = 3 ∧
          ((d.unbindStart p v mode).brg.vppb.get VppbRt.reset i).unbind = some mode)) ∧
      (d.get F.TIL_VPPB.STATE i = 2 → d.binding p = false → d.eventsFull (d.get F.TIL_VPPB.TARGET_EDGE i) = false → mode = 2 →
        let x := d.unbindStart p v 2
        let h := hdrOf 0xC202 r.raw
        x.bgRoom r.via = true → exec (.unbind r) s = .next (s.after
          ((((x.persisted h [⟨0x2001, i, 0⟩]).begin { via := r.via, hdr := h, item := p }).respond (h.rsp r.via .ok [] true)).surprise p)))) ∧
    ((List.range 32).find? (fun u => s.dev.get F.TIL_VPPB.STATE (vppbNo hp.val u) == 1) = none → s.dev.die = true →
      exec (.bindComplete hp) s = .next (s.after s.dev)) ∧
    ((List.range 32).find? (fun u => s.dev.get F.TIL_VPPB.STATE (vppbNo hp.val u) == 1) = some v → s.dev.die = true →
      let g := s.dev.get F.TIL_VPPB.TARGET_EDGE (vppbNo hp.val v)
      (s.dev.eventsFull g = true → exec (.bindComplete hp) s = .next (s.after s.dev)) ∧
      (s.dev.eventsFull g = false → s.dev.sourcePort g = some q → exec (.bindComplete hp) s = .next (s.after
        (((s.dev.put F.TIL_VPPB.STATE (vppbNo hp.val v) 2).arise q (.hotplug hp (Fin.ofNat 32 v))).bgDone 0xC201 hp.val .ok []))) ∧
      (s.dev.sourcePort g = none → exec (.bindComplete hp) s = .next (s.after
        (((s.dev.put F.TIL_VPPB.STATE (vppbNo hp.val v) 2).deliverEvent hp.val { stamp := 0, what := .hotplug hp (Fin.ofNat 32 v) }).bgDone
          0xC201 hp.val .ok [])))) ∧
    (s.dev.die = true → s.dev.unbinding hp.val = none → exec (.unbindComplete hp power) s = .next (s.after s.dev)) ∧
    (s.dev.die = true → s.dev.unbinding hp.val = some (v, mode) →
      let full := s.dev.eventsFull (s.dev.get F.TIL_VPPB.TARGET_EDGE (vppbNo hp.val v))
      (mode = 0 ∨ power = true → full = false → exec (.unbindComplete hp power) s = .next (s.after (s.dev.unbindDone hp.val v))) ∧
      ((mode ≠ 0 ∧ power = false) ∨ full = true → exec (.unbindComplete hp power) s = .next (s.after s.dev))) ∧
    (s.dev.accepts r (fmCmd 0xC207) = true → sel 0xC207 p → pay = [] →
      (d.isHost p = true → exec (.bindStatus r) s =
        .next (s.okay r 0xC207 d ((List.range 32).flatMap fun u => bytes 4 (d.vppbWord (vppbNo p u))))) ∧
      (d.isHost p = false → exec (.bindStatus r) s = .next (s.declined r 0xC207 .invalidParam))) ∧
    (s.dev.accepts r (fmCmd 0xC203) = true → sel 0xC203 e → pay = bytes 8 m ++ bytes 4 w → w % 4 ≠ 1 ∨ d.isIl (w / 4 % 64) = true →
      exec (.mcastGroupSet r) s = .next (s.okay r 0xC203 (d.putGroup e m w) []
        ((d.putGroup e m w).stageNow 0x2002 [4 * e, 4 * e + 1, 4 * e + 2]))) ∧
    (s.dev.accepts r (fmCmd 0xC205) = true → sel 0xC205 e → pay = [] → exec (.mcastGroupRead r) s = .next (s.okay r 0xC205 d
      (bytes 4 (d.word .TIL_MCAST0 e) ++ bytes 4 (d.word .TIL_MCAST1 e) ++ bytes 4 (d.word .TIL_MCAST2 e) ++
        bytes 4 (d.word .TIL_MCAST3 e)))) ∧
    (s.dev.accepts r aux = true → sel 0xC206 t → pay = [BitVec.ofNat 8 a, BitVec.ofNat 8 b, BitVec.ofNat 8 c, BitVec.ofNat 8 f] →
      (s.dev.mode = .bringUp → a ≤ 128 → b + c + f ≤ a →
        let x := d.putWord .TIL_AUX_CFG t (a + b * 2 ^ 8 + c * 2 ^ 16 + f * 2 ^ 24)
        exec (.auxPartitionSet r) s = .next (s.okay r 0xC206 x [] (x.stageNow 0x2003 [t]))) ∧
      (s.dev.mode = .quiesce → a ≤ 128 → b + c + f ≤ a → d.auxUsed t .straggler + d.auxUsed t .blend + d.auxUsed t .telemetry ≠ 0 →
        exec (.auxPartitionSet r) s = .next (s.declined r 0xC206 .notQuiesced)) ∧
      (128 < a ∨ a < b + c + f → exec (.auxPartitionSet r) s = .next (s.declined r 0xC206 .invalidParam)))

/-- O33 (R406, R407, R408, R410, R411, R412, R413, R414, R415, R421, R422, R425). On a live die: the oldest event of a
port is delivered once DONE reaches its stamp and stays before that, and a port without events does nothing. A free
token goes to the oldest waiting MRdLk, at level 2 for a target port with the request still to forward, at level 1
for a function of the C64, which answers at once, but not in Quiesce, and a held token is not granted again. The
locked request is forwarded once no other source's ION or IOP is queued at the target, else it waits. The holder's
Unlock frees the token and at level 2 is forwarded to the target; an Unlock without the token is ignored from a
former holder and logged as FK_BRG_MALFORMED with cause 3 from another port. A lock time-out ends the sequence with
cause 1, and without a lock nothing happens. A completion time-out of a tracked request drops its tracker, which
awaits a late completion, answers it with Completer Abort and logs FK_BRG_FAR_ERR with cause 1; of no tracked
request it does nothing. Each accepted request with a payload its layout allows: BRIDGE_CFG writes and stages
BRG_CTL, and a time-out of 0 or above 1,000 ms is INVALID_PARAM; LOCK_STATUS answers BRG_LOCK and the time of the
grant; MCAST_APERTURE_SET writes and stages the entry, and a destination that is not 4 KiB aligned is INVALID_PARAM;
LOCK_RELEASE ends the locked sequence with cause 3, and without one is STATE_MISMATCH. -/
def Obligations.BridgeEventsAndCommands : Prop :=
  (∀ (s : State) (p h e : Port) (ev : Ev) (evs : List Ev) (x : Staged) (l : List Staged) (k : Lock) (src : Edge) (tag : BitVec 16)
    (y : CplTrk) (f : BitVec 8), s.dev.die = true →
    let d := s.dev
    let r := d.prt p.val
    (r.events = [] → exec (.eventDeliver p) s = .next (s.after d)) ∧
    (r.events = ev :: evs → r.done < ev.stamp → exec (.eventDeliver p) s = .next (s.after d)) ∧
    (r.events = ev :: evs → ev.stamp ≤ r.done →
      exec (.eventDeliver p) s = .next (s.after ((d.setPrt p.val { r with events := evs }).deliverEvent p.val ev))) ∧
    (d.brg.lock = some k ∨ d.brg.waiters = [] ∨ d.mode = .quiesce → exec .lockGrant s = .next (s.after d)) ∧
    (d.brg.lock = none → d.brg.waiters = x :: l → x.ing = some h → d.mode ≠ .quiesce →
      let g := ({ d with brg := { d.brg with waiters := l, former := d.brg.former.filter (· != h) } } : Dev).count (cTile (h.val / 8) 12)
      (x.dest = .port e → exec .lockGrant s = .next (s.after { g with brg := { g.brg with
        lock := some { level := 2, fn := none, holder := h, target := e, since := d.clk.ftc, toFwd := some x } } })) ∧
      let k : Lock := { level := 1, fn := some f, holder := h, target := 0, since := d.clk.ftc, toFwd := none }
      (x.dest = .own f → exec .lockGrant s = .next (s.after
        ((({ g with brg := { g.brg with lock := some k } } : Dev).ownAnswer h.val x.m).ends x)))) ∧
    (d.brg.lock = none → exec .lockForward s = .next (s.after d) ∧ exec .lockTimeout s = .next (s.after d)) ∧
    (d.brg.lock = some k → k.toFwd = some x →
      (d.othersQueued k.target.val k.holder = true → exec .lockForward s = .next (s.after d)) ∧
      (d.othersQueued k.target.val k.holder = false → exec .lockForward s = .next (s.after
        (({ d with brg := { d.brg with lock := some { k with toFwd := none } } } : Dev).stageOut x)))) ∧
    (d.brg.lock = some k → k.holder = p →
      (k.level = 1 → exec (.unlockReceive p) s = .next (s.after { d with brg := { d.brg with lock := none } })) ∧
      (k.level = 2 → exec (.unlockReceive p) s = .next (s.after (({ d with brg := { d.brg with lock := none } } : Dev).emit (p.val / 8)
        { op := .unlock, dst := d.edgeOf k.target.val, src := d.edgeOf p.val })))) ∧
    (d.brg.lock = none → p ∈ d.brg.former → exec (.unlockReceive p) s = .next (s.after
      { d with brg := { d.brg with former := d.brg.former.filter fun f => f.val != p.val } })) ∧
    (d.brg.lock = none → p ∉ d.brg.former → exec (.unlockReceive p) s = .next (s.after
      ((d.set F.BRG_ERR.MALFORMED).raise .brgMalformed (uTile (p.val / 8) 0x15) p.val (p.val + 0x300)))) ∧
    (d.brg.lock = some k → exec .lockTimeout s = .next (s.after (d.endLock 1)) ∧ (d.endLock 1).brg.lock = none) ∧
    (d.brg.trks = [] → exec (.ioCplTimeout p src tag) s = .next (s.after d)) ∧
    (d.brg.trks = [y] → y.port = p → y.src = src → y.tag = tag → y.got = false → d.outst p.val = [y.m] → y.m.cls = .ion → y.m.src = src →
      y.m.tag = tag → ∃ t, exec (.ioCplTimeout p src tag) s = .next t ∧ t.pending = s.pending ∧ t.dev.brg.trks = [] ∧
        t.dev.brg.late = d.brg.late ++ [y] ∧ t.dev.outst p.val = [] ∧ t.dev.get F.BRG_ERR.FAR_ERR = 1 ∧ t.dev.ports = d.ports ∧
        t.dev.coh = d.coh)) ∧
  (∀ (s : State) (r : FoernReq) (e v g dest cpl lock f : Nat), e < 64 → v < 2 → g < 4096 → dest < 2 ^ 64 → cpl < 1024 → lock < 1024 → f < 32 →
    let pay := r.raw.drop 8
    let d := s.dev.taken r.via
    let w := cpl + lock * 2 ^ 10 + f * 2 ^ 20
    (s.dev.accepts r (fmCmd 0xC700) = true → pay = bytes 4 w →
      (0 < cpl → cpl ≤ 1000 → 0 < lock → lock ≤ 1000 →
        exec (.bridgeCfg r) s = .next (s.okay r 0xC700 (d.putWord .BRG_CTL 0 w) [] ((d.putWord .BRG_CTL 0 w).stageNow 0x7000 [0]))) ∧
      (cpl = 0 ∨ 1000 < cpl ∨ lock = 0 ∨ 1000 < lock → exec (.bridgeCfg r) s = .next (s.declined r 0xC700 .invalidParam))) ∧
    (s.dev.accepts r (fmCmd 0xC701) = true → pay = [] → exec (.lockStatus r) s =
      .next (s.okay r 0xC701 d (bytes 4 d.lockWord ++ bytes 8 ((d.brg.lock.map (·.since.toNat)).getD 0)))) ∧
    (s.dev.accepts r (fmCmd 0xC702) = true → (hdrOf 0xC702 r.raw).sel = BitVec.ofNat 16 e →
      pay = bytes 1 v ++ bytes 1 0 ++ bytes 2 g ++ bytes 8 dest →
      (dest % 4096 = 0 → let x := ((d.put F.MCA.VALID e v).put F.MCA.GROUP e g).put F.MCA.DEST e dest
        exec (.mcastApertureSet r) s = .next (s.okay r 0xC702 x [] (x.stageNow 0x7001 [4 * e, 4 * e + 1, 4 * e + 2]))) ∧
      (dest % 4096 ≠ 0 → exec (.mcastApertureSet r) s = .next (s.declined r 0xC702 .invalidParam))) ∧
    (s.dev.accepts r (fmCmd 0xC703) = true → pay = [] →
      (d.brg.lock ≠ none → exec (.lockRelease r) s = .next (s.okay r 0xC703 (d.endLock 3))) ∧
      (d.brg.lock = none → exec (.lockRelease r) s = .next (s.declined r 0xC703 .stateMismatch))))

/-- O34 (R267). For every 46-bit line: its slice is the exclusive or of its sixteen 3-bit groups, its set is bits 20 to
3 and its tag bits 45 to 21; slice, set and tag lie in their ranges and together give the line back. For every
slice, set and tag the line that they name has that slice, set and tag, and its lowest three bits are the slice
number exclusive-or the fold of the other groups. -/
def Obligations.LinesAndHomes : Prop :=
  (∀ addr : Nat, lineOf addr = addr / 2 ^ 6 % 2 ^ 46) ∧
  (∀ line : Nat, line < 2 ^ 46 →
    homeSlice line = (List.range 16).foldl (fun h k => h ^^^ (line / 2 ^ (3 * k) % 8)) 0 ∧ setOf line = line / 2 ^ 3 % 2 ^ 18 ∧
    tagOf line = line / 2 ^ 21 ∧ homeSlice line < 8 ∧ setOf line < 2 ^ 18 ∧ tagOf line < 2 ^ 25 ∧
    lineFrom (homeSlice line) (setOf line) (tagOf line) = line) ∧
  (∀ t set tag : Nat, t < 8 → set < 2 ^ 18 → tag < 2 ^ 25 →
    let line := lineFrom t set tag
    line < 2 ^ 46 ∧ homeSlice line = t ∧ setOf line = set ∧ tagOf line = tag ∧ line % 8 = t ^^^ homeSlice (line / 8 * 8))

/-- O35 (R258, R271, R275, R276, R288). For every window: two offsets that reach the same target at the same address are
equal. A request to an entry of the same context: RD_S in state S, or F without the extension, disturbs nobody and
reads data; in F with it, it goes to the responder alone; RD_S and RD_I in X send BI_DATA to the holders; RD_A and
INV_A invalidate every holder but the requester, and INV_A needs data only where the requester holds nothing; from
another context RD_S, RD_A and INV_A invalidate every holder first, the requester too; a write invalidates every
holder and needs no data. With the extension off nobody is named; with it on the first host that holds the line and
is active is named, the previous owner first, then the requester; with no holder the state is U. -/
def Obligations.WindowsAndRows : Prop :=
  (∀ (d : Dev) (w a b : Nat), d.interleave w a = d.interleave w b → a = b) ∧
  (∀ (d : Dev) (o : TOp) (e : Entry), e.sharers ≠ 0 →
    let hs := hostsOf e.sharers
    let others := hs.filter (· != o.host)
    let x := d.row o e []
    (o.m.op = .rdS → e.inst = o.m.inst → e.st = .s → x = ⟨[], .biInv, none, true⟩) ∧
    (o.m.op = .rdS → e.inst = o.m.inst → e.st = .f → d.bit F.DIR_CTL.FWD_EN = false → x = ⟨[], .biInv, none, true⟩) ∧
    (o.m.op = .rdS → e.inst = o.m.inst → e.st = .f → d.bit F.DIR_CTL.FWD_EN = true → e.holds e.owner = true → e.poison = false →
      x = ⟨[], .biInv, some e.owner, true⟩) ∧
    (o.m.op = .rdS ∨ o.m.op = .rdA ∨ o.m.op = .invA → e.inst ≠ o.m.inst → x = ⟨hs, .biInv, none, true⟩) ∧
    (o.m.op = .rdS ∨ o.m.op = .rdI → e.inst = o.m.inst → e.st = .x → x = ⟨hs, .biData, none, true⟩) ∧
    (o.m.op = .rdI → e.st = .s ∨ e.st = .f → x = ⟨[], .biInv, none, true⟩) ∧
    (o.m.op = .rdA → e.inst = o.m.inst → x = ⟨others, .biInv, none, true⟩) ∧
    (o.m.op = .invA → e.inst = o.m.inst → x = ⟨others, .biInv, none, !e.holds o.host⟩) ∧
    (o.m.op = .wrI ∨ o.m.op = .wrS ∨ o.m.op = .wrA → x = ⟨hs, .biInv, none, false⟩)) ∧
  (∀ (d : Dev) (prev req : Option Nat) (holders : BitVec 64) (h : Nat),
    (holders = 0 → d.name prev req holders = (.u, 0)) ∧
    (holders ≠ 0 → d.bit F.DIR_CTL.FWD_EN = false → d.name prev req holders = (.s, 0)) ∧
    (d.bit F.DIR_CTL.FWD_EN = true → prev = some h → holders.getLsbD h = true → d.active h = true → d.name prev req holders = (.f, h)) ∧
    (d.bit F.DIR_CTL.FWD_EN = true → prev = none → req = some h → holders.getLsbD h = true → d.active h = true →
      d.name prev req holders = (.f, h)) ∧
    (holders ≠ 0 → (∀ k, holders.getLsbD k = true → d.active k = false) → d.name prev req holders = (.s, 0)))

/-- O36 (R265, R275, R279, R297, R301, R311, R320, R321). On a live die: the tollgate of a fenced tile does nothing, and
one with nothing offered, running or waiting leaves the directory, its slice and the staged messages as they are.
One RD_I on an idle slice for a line without an entry, a mark, a writeback or a prefetched copy is taken: the
pointer moves past its host, and a tracker reads the target while the directory stays. A held answer is released to
lane R once no earlier write for its line is unaccepted, and waits before that. A BIConflict with nothing of its
line running, staged or queued is acknowledged; one that is not pending does nothing. A time-out of an answer that
is owed logs FK_BISNP_TIMEOUT and declares the host dead with cause 3; of one not owed it does nothing. The enable
turns the extension on with good opcodes and sets OPC_ERR with bad ones. -/
def Obligations.TollgateEdges : Prop :=
  ∀ (s : State) (t : Tile) (p : Port) (l : BitVec 46) (o : TOp) (m : Msg) (rel : Nat) (ok : Bool), s.dev.die = true →
    let d := s.dev
    let c := d.slice t.val
    let line := l.toNat
    (d.tileFenced t.val = true → exec (.tollgateEdge t) s = .next (s.after d)) ∧
    (d.tileFenced t.val = false → c.r = [] → c.trks = [] → c.marks = [] → c.w = [] → c.p = [] → c.q = [] →
      ∃ u, exec (.tollgateEdge t) s = .next u ∧ u.pending = s.pending ∧ u.dev.slice t.val = c ∧ u.dev.coh.dir = d.coh.dir ∧
        u.dev.sw = d.sw ∧ u.dev.ports = d.ports ∧ ∀ k, k ≠ t.val → u.dev.slice k = d.slice k) ∧
    (d.tileFenced t.val = false → c = { Slice.empty with q := [o] } → o.tile < 8 → o.host < 64 → o.m.op = .rdI →
      lineOf o.m.addr.toNat = line → homeSlice line = t.val → d.findKey line = none → d.setLost t.val (setOf line) = false →
      ∃ u, exec (.tollgateEdge t) s = .next u ∧ u.pending = s.pending ∧ (u.dev.slice t.val).q = [] ∧
        (u.dev.slice t.val).trks.map (fun k => (k.line, k.reading, k.done)) = [(line, true, false)] ∧
        u.dev.get F.DIR_PTR.PTR t.val = (o.host + 1) % 64 ∧ u.dev.coh.dir = d.coh.dir ∧ u.dev.ports = d.ports) ∧
    (d.coh.held = [] → exec (.biResponseRelease p l) s = .next (s.after d)) ∧
    (d.coh.held = [(p.val, rel, m)] → lineOf m.addr.toNat = line →
      (d.unaccepted p.val rel line = true → exec (.biResponseRelease p l) s = .next (s.after d)) ∧
      (d.unaccepted p.val rel line = false → exec (.biResponseRelease p l) s = .next (s.after
        (({ d with coh := { d.coh with held := [] } } : Dev).toLaneR p.val m)))) ∧
    (d.coh.conflicts = [] → exec (.biConflictAck p l) s = .next (s.after d)) ∧
    (d.coh.conflicts = [(p.val, line)] → (d.slice (homeSlice line)).trks = [] → d.sw.staged = [] → d.sw.queues = [] →
      exec (.biConflictAck p l) s = .next (s.after (({ d with coh := { d.coh with conflicts := [] } } : Dev).emit (homeSlice line)
        { op := .biConflictAck, dst := d.edgeOf p.val, src := d.ownEdge,
          addr := BitVec.ofNat 64 (d.dpaOf p.val none (addrOf line)) }))) ∧
    (d.owes p.val line = false → exec (.biTimeoutExpiry p l) s = .next (s.after d)) ∧
    (d.owes p.val line = true → exec (.biTimeoutExpiry p l) s = .next (s.after
      (((d.set F.DIR_ERR.BISNP_TIMEOUT (homeSlice line)).raise .bisnpTimeout (uTile (homeSlice line) 0x13) p.val
        (addrOf line + p.val)).killHost p.val 3))) ∧
    (d.isHost p.val = false → exec (.fwdDvsecEnable p ok) s = .next (s.after d)) ∧
    (d.isHost p.val = true →
      exec (.fwdDvsecEnable p false) s = .next (s.after ((d.set F.FWDV.ENABLE p.val).set F.FWDV.OPC_ERR p.val)) ∧
      ∃ u, exec (.fwdDvsecEnable p true) s = .next u ∧ u.pending = s.pending ∧ u.dev.get F.FWDV.ENABLE p.val = 1 ∧
        u.dev.get F.FWDV.ACTIVE p.val = 1 ∧ u.dev.get F.FWDV.OPC_ERR p.val = 0 ∧ u.dev.active p.val = true ∧
        (∀ k, k < 64 → k ≠ p.val → d.get F.DIR_FWD.ACTIVE < 2 ^ 64 → u.dev.active k = d.active k) ∧ u.dev.coh = d.coh)

/-- O37 (R322, R323). For every state in which the walk of a dead host waits and its record has been logged, and in
Bring-up the reconciliation has been done: the end of the walk removes the walk, clears the host's DEAD bit and its
hold on its port, and leaves no entry outside state B that records the host as a holder; an entry that the host held
in X is left without holders in state U with its poison mark, there or, in a set that holds MARK_LIM marks, waiting
for a spill; an entry that does not record the host stays as it was. -/
def Obligations.ReclaimIsComplete : Prop :=
  ∀ (s : State) (h : Port) (w : Walk) (seq : BitVec 40) (k : Nat), s.dev.die = true → (s.dev.mode = .bringUp → s.dev.pwr.reconciled = true) →
    (s.dev.coh.walks.find? fun x => decide (x.why = .dead h)) = some w → s.dev.lastSeq .agentDead h.val = some seq →
    Tab.wf Entry.free s.dev.coh.dir = true →
    let d := s.dev
    let e := d.entry k
    ∃ u, exec (.deadAgentWalkEnd h) s = .next u ∧ u.pending = s.pending ∧ u.dev.coh.walks = d.coh.walks.erase w ∧
      u.dev.coh.deadDown = dropHost d.coh.deadDown h.val ∧
      u.dev.get F.DIR_DEAD.DEAD = (d.get F.DIR_DEAD.DEAD - 2 ^ h.val) % 2 ^ 64 ∧
      ((u.dev.entry k).st ≠ .b → (u.dev.entry k).holds h.val = false) ∧
      (e.st = .x → e.holds h.val = true → (u.dev.entry k).sharers = 0 ∧ (u.dev.entry k).st = .u ∧
        ((u.dev.entry k).poison = true ∨ (u.dev.slice (k / 16 / 2 ^ 18)).marks.any (fun y => y.1 == lineAtKey k e.tag) = true)) ∧
      (e.holds h.val = false → u.dev.entry k = e)

/-- O38 (R312, R313, R314, R315, R316, R319, R329, R369). On a live die: a hint is considered only on an idle edge; one
that has no free way is dropped and counted, and one of an untouched line with a free way reads the target under a
tracker. A prefetched line that returns clean goes to the buffer and frees its entry and tracker, one that returns
poisoned leaves a mark in its way, or waiting for a spill; a return that answers no prefetch does nothing. A
buffered line that has lived its time is dropped and counted. With SCRUB_INT 0 the scrub stops; else it reads the
next row, and a look-up reads its row in its place. A codeword that is lost or clean changes nothing, a correctable
one is logged, and the first uncorrectable one of a slice is recorded as lost and its four ways are freed. A target
time-out that names nothing outstanding does nothing; of a demand read it logs FK_TARGET_TIMEOUT, keeps the tracker
number for a late completion, and goes on with poison for a requester that is not added; of a write it frees the
slot. A quota search without its tracker does nothing; else its first victim is counted and flushed. -/
def Obligations.PrefetchScrubAndTimeouts : Prop :=
  ∀ (s : State) (t : Tile) (id : Fin 4096) (data : Line) (l : BitVec 46) (c : Fin 4) (k : Trk) (b : Wb) (j : Nat) (i : Inst) (e : Entry) (look : BitVec 18) (errs : List CwErr) (w : CwErr)
    (vs : List (Nat × Entry)) (hs : List Nat) (poison : Bool), s.dev.die = true →
    let d := s.dev
    let x := d.slice t.val
    let line := l.toNat
    (d.laneIdle t.val = false ∨ x.hints = [] → exec (.prefetchHintAccept t) s = .next (s.after d)) ∧
    (d.laneIdle t.val = true → x.hints = line :: hs → x.w = [] → x.p = [] → x.q = [] → d.freeWay line = none →
      exec (.prefetchHintAccept t) s = .next (s.after ((d.setSlice t.val { x with hints := hs }).count (cTile t.val 49)))) ∧
    (d.laneIdle t.val = true → x.hints = line :: hs → d.freeWay line = some j → d.findKey line = none → x.busy line = false →
      x.wbOf line = none → (∀ y ∈ x.pf, y.1 ≠ line) → x.trks = [] → x.parked = [] → x.p = [] → x.pf.length < 1024 →
      ∃ u, exec (.prefetchHintAccept t) s = .next u ∧ u.pending = s.pending ∧ (u.dev.slice t.val).hints = hs ∧
        (u.dev.slice t.val).trks.map (fun y => (y.line, y.job, y.reading)) = [(line, .prefetch, true)] ∧
        (u.dev.entry j).st = .b ∧ (u.dev.entry j).tag = tagOf line ∧ ∀ n, n ≠ j → u.dev.entry n = d.entry n) ∧
    ((x.trks.find? fun k => k.id == id.val && k.reading) = none →
      exec (.prefetchReadReturn t id data poison) s = .next (s.after d) ∧ exec (.targetTimeout t false id) s = .next (s.after d)) ∧
    ((x.trks.find? fun k => k.id == id.val && k.reading) = some k → k.job = .prefetch → k.key = some j →
      j / 16 / 2 ^ 18 = t.val →
      ∃ u, exec (.prefetchReadReturn t id data poison) s = .next u ∧ u.pending = s.pending ∧
        (u.dev.slice t.val).trks = x.trks.filter (fun y => y.id != id.val) ∧
        (poison = false → (u.dev.slice t.val).pf = x.pf ++ [(k.line, data)] ∧ u.dev.entry j = Entry.free) ∧
        (poison = true → (u.dev.slice t.val).pf = x.pf ∧ (u.dev.entry j).sharers = 0 ∧
          ((u.dev.entry j).poison = true ∨ (u.dev.slice t.val).marks = x.marks ++ [(k.line, [])])) ∧
        (∀ n, n ≠ j → u.dev.entry n = d.entry n) ∧ u.dev.sw = d.sw) ∧
    ((∀ y ∈ x.pf, y.1 ≠ line) → exec (.prefetchLineExpiry t l) s = .next (s.after d)) ∧
    ((∃ y ∈ x.pf, y.1 = line) → exec (.prefetchLineExpiry t l) s = .next (s.after
      ((d.count (cTile t.val 52)).setSlice t.val { x with pf := x.pf.filter fun y => y.1 != line }))) ∧
    (exec (.scrubRowRead t (some look) errs) s = .next (s.after (d.readRow t.val look.toNat errs))) ∧
    (d.get F.DIR_RECOV_CTL.SCRUB_INT = 0 → exec (.scrubRowRead t none errs) s = .next (s.after d)) ∧
    (d.get F.DIR_RECOV_CTL.SCRUB_INT ≠ 0 → exec (.scrubRowRead t none errs) s = .next (s.after
      (((d.count (cTile t.val 60)).setSlice t.val { x with scrub := (x.scrub + 1) % 2 ^ 18 }).readRow t.val x.scrub errs))) ∧
    ((d.lostCws t.val look.toNat).testBit c.val = true → d.readCw t.val look.toNat c.val w = d) ∧
    (d.flt.injCw = [] → (d.lostCws t.val look.toNat).testBit c.val = false →
      (rsRead w = .clean → d.readCw t.val look.toNat c.val w = d) ∧
      (rsRead w = .corr → d.readCw t.val look.toNat c.val w = (d.set F.DIR_ERR.DIR_CORR t.val).raise .dirCorr (uTile t.val 0x13) t.val
        (look.toNat + c.val * 2 ^ 20)) ∧
      (4 < cwBytes w → (∀ n < 16, d.bit F.DIR_LOST.VALID (t.val * 16 + n) = false) → rsRead w = .wrong ∨
        let u := d.readCw t.val look.toNat c.val w
        u.get F.DIR_LOST.VALID (t.val * 16) = 1 ∧ u.get F.DIR_LOST.SET (t.val * 16) = look.toNat ∧
        u.get F.DIR_LOST.CW (t.val * 16) = 2 ^ c.val ∧ u.get F.DIR_ERR.DIR_UNCORR t.val = 1 ∧
        (∀ w < 4, u.entry (dirKey t.val look.toNat (4 * c.val + w)) = Entry.free) ∧ u.sw = d.sw)) ∧
    (x.wbs = [] → exec (.targetTimeout t true id) s = .next (s.after d)) ∧
    (x.wbs = [b] → b.id = id.val → b.fold = none → x.thru = [] → x.trkOn b.line = none →
      ∃ u, exec (.targetTimeout t true id) s = .next u ∧ u.pending = s.pending ∧ (u.dev.slice t.val).wbs = [] ∧
        (u.dev.slice t.val).late = x.late ++ [4096 + id.val] ∧ u.dev.get F.DIR_ERR.TARGET_TIMEOUT t.val = 1 ∧ u.dev.sw = d.sw) ∧
    ((x.trks.find? fun k => k.id == id.val && k.reading) = some k → k.job = .demand →
      let a := (d.set F.DIR_ERR.TARGET_TIMEOUT t.val).raise .targetTimeout (uTile t.val 0x13) (d.targetPort k.line) (addrOf k.line)
      exec (.targetTimeout t false id) s = .next (s.after
        (((a.setSlice t.val { a.slice t.val with late := (a.slice t.val).late ++ [id.val] }).setTrk t.val
          { k with reading := false, noAdd := true, data := some (0, true) }).advance 8 t.val k.id))) ∧
    (x.trk? id.val = none → exec (.dirQuotaVictimFound t id) s = .next (s.after d)) ∧
    (x.trks = [k] → k.id = id.val → k.op.m.inst = some i → k.job = .demand → k.quota = true → x.trkFree = true → d.quotaVictims t.val i = (j, e) :: vs →
      exec (.dirQuotaVictimFound t id) s = .next (s.after
        (((d.count (cDev 22)).setSlice t.val { x with cursor := (j % 2 ^ 22 + 1) % 2 ^ 22 }).flushEntry j e (hostsOf e.sharers))))

/-- O39 (R257, R259, R261, R262, R292, R293, R294, R295, R309). Each accepted request with a payload its layout allows:
WINDOW_CREATE of a window that meets no other, with targets that no vPPB holds, wakes the tiles that are Off and
writes its words, and of a valid window is STATE_MISMATCH; WINDOW_DESTROY of a window that is not valid or is
referenced is STATE_MISMATCH, and of another it starts its walk; PREFETCH_CFG sets the enable and the depth;
WINDOW_GRANT writes a grant that meets no other, else STATE_MISMATCH, and a revocation clears VALID and starts its
walk; COHERENT without LOCAL is INVALID_PARAM; DIR_FLUSH_HOST and AGENT_DECLARE_DEAD start their walks;
WINDOW_STATUS and DIR_SET_READ answer what is held; DIR_DUMP starts once, and DIR_MARK_CLEAR starts. A walk's end
that has no walk does nothing; the end of a flush, of a revocation, of a destruction, of a mark clear and of a dump
finishes its operation. -/
def Obligations.DirectoryCommands : Prop :=
  ∀ (s : State) (r : FoernReq) (w p g v size base dpa home : Nat) (off n : Nat) (host : Option Port) (win : Option (Fin 256)) (last lo hi fl : Nat),
    w < 256 → p < 64 → g < 32 → v < 32 → size < 2 ^ 32 → base < 2 ^ 32 → dpa < 2 ^ 32 → home < 4096 → off < 2 ^ 64 → n < 2 ^ 32 →
    let pay := r.raw.drop 8
    let d := s.dev.taken r.via
    let sel (op k : Nat) : Prop := (hdrOf op r.raw).sel = BitVec.ofNat 16 k
    let k := p * 32 + g
    let grant (fl : Nat) := bytes 1 g ++ bytes 1 fl ++ bytes 2 home ++ bytes 4 dpa ++ bytes 4 size ++ bytes 4 base
    let w0 := le pay 0 4
    let at0 := le pay 4 4
    let ways := 2 ^ (w0 / 2 ^ 12 % 4 + 1)
    let sz := w0 / 2 ^ 8 % 16
    let tg (j : Nat) := le pay (8 + 8 * j) 4
    (s.dev.accepts r (fmCmd 0xC400) = true → sel 0xC400 w → pay.length = 8 + 8 * ways → w0 < 2 ^ 15 → w0 / 2 ^ 7 % 2 = 0 → sz ≤ 14 →
      at0 < 2 ^ 24 → at0 % 2 ^ sz = 0 → (w0 / 4 % 2 = 1 → w0 / 2 % 2 = 1 ∧ w0 / 8 % 16 ≠ 0) →
      (∀ j < ways, tg j < 2 ^ 17 ∧ d.bindTarget (tg j % 4096) = true) →
      (∀ j < 256, j ≠ w → d.bit F.WIN.VALID j = true → d.touchesWin j (at0 * 2 ^ 28) (2 ^ (sz + 28)) = false) →
      (d.bit F.WIN.VALID w = true → exec (.windowCreate r) s = .next (s.declined r 0xC400 .stateMismatch)) ∧
      (d.bit F.WIN.VALID w = false → (∀ j < ways, d.ldBound (tg j % 4096) (tg j / 2 ^ 12 % 16) (decide (2 ^ 16 ≤ tg j)) = false) →
        let x := (List.range 8).foldl (fun d t => if d.get F.TIL_PWR_STATUS.STATE t = 3 then d.demand t else d) d
        let y := (x.putWord .WIN0 w (w0 / 2 * 2 + 1)).putWord .WIN1 w at0
        let z := (List.range 16).foldl (fun d j => (d.putWord .WIN_TGT (w * 16 + j) (if j < ways then tg j else 0)).putWord .WIN_TDPA
          (w * 16 + j) (if j < ways then le pay (12 + 8 * j) 4 else 0)) y
        exec (.windowCreate r) s = .next (s.okay r 0xC400 z []
          (z.stageNow 0x4002 ([w * 64, w * 64 + 1] ++ (List.range 32).map fun k => w * 64 + 4 + k))))) ∧
    (s.dev.accepts r (fmCmd 0xC401) = true → sel 0xC401 w → pay = [] →
      (d.bit F.WIN.VALID w = false ∨ d.winUsed w = true → exec (.windowDestroy r) s = .next (s.declined r 0xC401 .stateMismatch)) ∧
      (d.bit F.WIN.VALID w = true → d.winUsed w = false → w ∉ d.coh.destroying →
        let x := ({ d with coh := { d.coh with destroying := d.coh.destroying ++ [w] } } : Dev)
        (x.walkStart (.destroy (Fin.ofNat 256 w))).bgRoom r.via = true → exec (.windowDestroy r) s =
          .next (s.begun r 0xC401 w (x.walkStart (.destroy (Fin.ofNat 256 w))) [⟨0x4002, w * 64, x.paramNow 0x4002 (w * 64) - 1⟩]))) ∧
    (s.dev.accepts r (fmCmd 0xC404) = true → sel 0xC404 w → pay = bytes 4 v → v ≠ 1 → d.bit F.WIN.VALID w = true →
      d.bit F.WIN.PREFETCHABLE w = true →
      let x := (d.put F.WIN.PF_EN w (v % 2)).put F.WIN.PF_DEPTH w (v / 2)
      let y := if v % 2 = 0 then x.dropPfBy (x.inWin w) else x
      exec (.prefetchCfg r) s = .next (s.okay r 0xC404 y [] (x.stageNow 0x4002 [w * 64]))) ∧
    (s.dev.accepts r (fmCmd 0xC405) = true → sel 0xC405 p → d.isHost p = true →
      (pay = grant fl → fl = 1 ∨ fl = 5 ∨ fl = 7 → 0 < size → size ≤ 16384 → dpa + size ≤ 2 ^ 18 → base + size ≤ 2 ^ 24 →
        (d.dpaClash p (some g) none (dpa * 2 ^ 28) (size * 2 ^ 28) = false →
          let x := (((d.putWord .GRANT0 k (fl + home * 8)).putWord .GRANT1 k dpa).putWord .GRANT2 k size).putWord .GRANT3 k base
          exec (.windowGrant r) s = .next (s.okay r 0xC405 x []
            (x.stageNow 0x4003 ((List.range 4).map fun j => 4 * k + j)))) ∧
        (d.dpaClash p (some g) none (dpa * 2 ^ 28) (size * 2 ^ 28) = true →
          exec (.windowGrant r) s = .next (s.declined r 0xC405 .stateMismatch))) ∧
      (pay = grant 3 ∨ (pay = grant 7 ∧ (size = 0 ∨ 16384 < size)) → exec (.windowGrant r) s = .next (s.declined r 0xC405 .invalidParam)) ∧
      (pay = grant fl → fl < 8 → fl % 2 = 0 →
        let lo := d.get F.GRANT.FBASE k * 2 ^ 22
        let hi := if d.bit F.GRANT.VALID k && d.bit F.GRANT.LOCAL k then lo + d.get F.GRANT.SIZE k * 2 ^ 22 else lo
        let x := (d.put F.GRANT.VALID k 0).walkStart (.revoke (Fin.ofNat 64 p) (Fin.ofNat 32 g) lo hi)
        x.bgRoom r.via = true →
          exec (.windowGrant r) s = .next (s.begun r 0xC405 k x ((d.put F.GRANT.VALID k 0).stageNow 0x4003 [4 * k])))) ∧
    let hn := (host.map (·.val)).getD 0xFFFF
    let wn := (win.map (·.val)).getD 0xFFFF
    (s.dev.accepts r (fmCmd 0xC402) = true → sel 0xC402 hn → pay = bytes 2 wn ++ bytes 2 0 → (∀ h ∈ host, d.isHost h.val = true) →
      (∀ v ∈ win, d.bit F.WIN.VALID v.val = true) →
      let x := d.walkStart (.flush host win)
      x.bgRoom r.via = true → exec (.dirFlushHost r) s = .next (s.begun r 0xC402 (hn * 65536 + wn) x)) ∧
    (s.dev.accepts r (fmCmd 0xC403) = true → sel 0xC403 p → pay = [] →
      (d.isHost p = false → exec (.agentDeclareDead r) s = .next (s.declined r 0xC403 .invalidParam)) ∧
      (d.isHost p = true → (d.killHost p 4).bgRoom r.via = true →
        exec (.agentDeclareDead r) s = .next (s.begun r 0xC403 p (d.killHost p 4)))) ∧
    (s.dev.accepts r (fmCmd 0xC406) = true → sel 0xC406 w → pay = [] →
      let lines := (d.coh.dir.filter fun x => x.2.valid && d.inWin w (lineAtKey x.1 x.2.tag)).length
      exec (.windowStatus r) s = .next (s.okay r 0xC406 d (bytes 4 (d.word .WIN0 w) ++ bytes 4 (d.word .WIN1 w) ++
        bytes 4 (if d.bit F.WIN.VALID w then lines else 0)))) ∧
    (s.dev.accepts r (fmCmd 0xC407) = true → sel 0xC407 g → g < 8 → pay = bytes 4 size → size < 2 ^ 18 →
      exec (.dirSetRead r) s = .next (s.okay r 0xC407 d (d.setRow g size))) ∧
    (s.dev.accepts r { opcode := 0xC408, may := fun p _ _ => fmOnly p, modes := fun m => m = .quiesce } = true → sel 0xC408 lo →
      lo < 8 ∨ lo = 0xFFFF → pay = [] → d.bgRoom r.via = true →
      (d.car.dump = none → exec (.dirDump r) s =
        .next (s.begun r 0xC408 0 { d with car := { d.car with 
          dump := some (if lo = 0xFFFF then (0, 8 * 2 ^ 18 - 1) else (lo * 2 ^ 18, lo * 2 ^ 18 + (2 ^ 18 - 1))) } })) ∧
      (d.car.dump ≠ none → exec (.dirDump r) s = .next (s.declined r 0xC408 .busyBackground))) ∧
    (s.dev.accepts r (fmCmd 0xC409) = true → sel 0xC409 w → pay = bytes 8 off ++ bytes 4 n → off % 64 = 0 → 0 < n → n ≤ 2 ^ 20 →
      (d.bit F.WIN.VALID w = false → exec (.dirMarkClear r) s = .next (s.declined r 0xC409 .stateMismatch)) ∧
      (d.bit F.WIN.VALID w = true → off + 64 * n ≤ d.winSize w → d.bgRoom r.via = true →
        exec (.dirMarkClear r) s = .next (s.begun r 0xC409 w { d with coh := { d.coh with walks := d.coh.walks ++
          [{ why := .clear (Fin.ofNat 256 w) (lineOf (d.winBase w + off)) n, left := [], count := 0 }] } }))) ∧
    (s.dev.die = true → s.dev.coh.walks = [] →
      exec (.windowDestroyComplete (Fin.ofNat 256 w)) s = .next (s.after s.dev) ∧
      exec (.windowGrantRevokeComplete (Fin.ofNat 64 p) (Fin.ofNat 32 g)) s = .next (s.after s.dev) ∧
      exec (.dirFlushWalkEnd host win) s = .next (s.after s.dev) ∧
      exec (.dirMarkClearComplete (Fin.ofNat 256 w)) s = .next (s.after s.dev)) ∧
    (s.dev.die = true → s.dev.coh.walks = [⟨.flush host win, [], n⟩] → s.dev.walkBusy = false →
      exec (.dirFlushWalkEnd host win) s = .next (s.after (({ s.dev with coh := { s.dev.coh with walks := [] } } : Dev).bgDone 0xC402
        ((host.map (·.val)).getD 0xFFFF * 65536 + (win.map (·.val)).getD 0xFFFF) .ok (bytes 4 n)))) ∧
    (s.dev.die = true → s.dev.coh.walks = [⟨.revoke (Fin.ofNat 64 p) (Fin.ofNat 32 g) lo hi, [], n⟩] → s.dev.walkBusy = false →
      let x := ({ s.dev with coh := { s.dev.coh with walks := [] } } : Dev)
      x.revokeLeft p lo hi = false →
      exec (.windowGrantRevokeComplete (Fin.ofNat 64 p) (Fin.ofNat 32 g)) s = .next (s.after (x.bgDone 0xC405 (p * 32 + g) .ok []))) ∧
    (s.dev.die = true → s.dev.coh.walks = [⟨.clear (Fin.ofNat 256 w) size n, [], 0⟩] →
      let x := ({ s.dev with coh := { s.dev.coh with walks := [] } } : Dev).clearMarks fun l => decide (size ≤ l) && decide (l < size + n)
      exec (.dirMarkClearComplete (Fin.ofNat 256 w)) s = .next (s.after (x.1.bgDone 0xC409 w .ok (bytes 4 x.2)))) ∧
    (s.dev.die = true → s.dev.coh.walks = [⟨.destroy (Fin.ofNat 256 w), [], n⟩] → s.dev.walkBusy = false →
      let x := ({ s.dev with coh := { s.dev.coh with walks := [] } } : Dev)
      x.winBusy w = false → exec (.windowDestroyComplete (Fin.ofNat 256 w)) s = .next (s.after
        (let y := ((x.clearMarks (x.inWin w)).1.dropPfBy (x.inWin w)).put F.WIN.VALID w 0
         ({ y with coh := { y.coh with destroying := y.coh.destroying.erase w } } : Dev).bgDone 0xC401 w .ok []))) ∧
    (s.dev.die = true → s.dev.car.dump = none → exec .dirDumpComplete s = .next (s.after s.dev)) ∧
    (s.dev.die = true → s.dev.car.dump = some (n, last) → s.dev.car.cur = none →
      (n ≤ last → exec .dirDumpComplete s = .next (s.after s.dev)) ∧
      (last < n → exec .dirDumpComplete s =
        .next (s.after (({ s.dev with car := { s.dev.car with dump := none } } : Dev).bgDone 0xC408 0 .ok []))))

/-- O40 (R337, R338, R342). For FP32, BF16 and FP16 and all finite elements a and b: unless their sum overflows to
infinity, no finite element lies nearer to the exact sum than the result; the operation is commutative up to the
sign of a zero, and a NaN operand gives the one NaN of the format. Integer sums wrap at the width of the type; least
and greatest compare signed types as signed; the bitwise operators are the bitwise ones. Combining two lines
combines each element with its counterpart and no other. -/
def Obligations.FoldArithmetic : Prop :=
  (∀ (f : FpFmt) (a b y : Nat), f = fp32 ∨ f = bf16 ∨ f = fp16 → a < 2 ^ (f.e + f.m + 1) → b < 2 ^ (f.e + f.m + 1) →
    let z := f.add a b
    let fin (x : Nat) : Prop := f.isNan x = false ∧ f.isInf x = false
    (fin a → fin b → fin z → fin y → y < 2 ^ (f.e + f.m + 1) →
      (f.int z - (f.int a + f.int b)).natAbs ≤ (f.int y - (f.int a + f.int b)).natAbs) ∧
    (fin a → fin b → z = f.add b a) ∧
    (f.isNan a = true ∨ f.isNan b = true → z = f.nan) ∧
    z < 2 ^ (f.e + f.m + 1)) ∧
  (∀ a b : Nat, a < 2 ^ 32 → b < 2 ^ 32 →
    elemOp 3 0 a b = (a + b) % 2 ^ 32 ∧ elemOp 5 0 a b = (a + b) % 2 ^ 64 ∧ elemOp 3 3 a b = a &&& b ∧ elemOp 3 4 a b = a ||| b ∧
    elemOp 3 5 a b = a ^^^ b ∧
    elemOp 3 1 a b = (if (BitVec.ofNat 32 a).toInt ≤ (BitVec.ofNat 32 b).toInt then a else b) ∧
    elemOp 3 2 a b = (if (BitVec.ofNat 32 a).toInt ≤ (BitVec.ofNat 32 b).toInt then b else a) ∧ elemOp 5 1 a b = min a b) ∧
  (∀ (a b : BitVec 512) (k : Nat), k < 16 →
    (combine 3 0 a b).toNat / 2 ^ (k * 32) % 2 ^ 32 = elemOp 3 0 (a.toNat / 2 ^ (k * 32) % 2 ^ 32) (b.toNat / 2 ^ (k * 32) % 2 ^ 32))

/-- O41 (R341, R342, R346, R348, R349, R351, R352, R354). On a live die: the engine of a fenced tile, one with a staged
line that is next, and one with nothing at its input take nothing. A full-line write of a bound rank to an open fold
is answered and combined when its rank is next; when it is not, it is staged where there is room, and held and
counted where there is none. A request that is no full-line write is a type violation, and one to a fold that is not
open a rank violation. Combining a rank that is not the last stores the combined line and makes the following rank
next. A staged line that is next leaves its place and is combined. A fold whose results have all been written is
DONE, with its notice; a DONE fold with AUTO_REARM, which no tile fence has met, reopens with the next epoch; the
time-out abandons an open fold that has a contribution with cause 1. Otherwise these do nothing. -/
def Obligations.FoldEngine : Prop :=
  ∀ (s : State) (t : Tile) (fi : FoldId) (f rk l : Nat) (g : Staged) (unc : Bool) (x : Dev), s.dev.die = true → fi.val = f →
    let d := s.dev
    let r := d.foldRt f
    let m := g.m
    let st := d.get F.FOLD.STATE f
    (d.tileFenced t.val = true ∨ (d.stagedNext t.val).isSome = true ∨ d.bld.inq = [] →
      exec (.foldRequest t unc) s = .next (s.after d)) ∧
    (d.tileFenced t.val = false → d.stagedNext t.val = none → d.bld.inq = [(f, g)] → f / 64 = t.val → r.held = [] →
      l = (m.addr.toNat - d.get F.FOLD.FWIN f * 2 ^ 16) / 64 →
      let e := ({ d with bld := { d.bld with inq := [] } } : Dev)
      (m.op = .wrI → m.be = BitVec.allOnes 64 → st = 1 → d.rankOf f m = some rk → r.written.get false (l * 64 + rk) = false →
        (rk = r.cnt.get 0 l → exec (.foldRequest t unc) s = .next (s.after
          (((((e.foldWritten f rk l).count (cTile t.val 17)).answer t.val m (.cmp .i)).foldCombine f rk l m.line m.poison unc).ends g))) ∧
        (rk ≠ r.cnt.get 0 l → e.foldStage f rk l m.line m.poison = some x → exec (.foldRequest t unc) s =
          .next (s.after ((((x.foldWritten f rk l).count (cTile t.val 17)).answer t.val m (.cmp .i)).ends g))) ∧
        (rk ≠ r.cnt.get 0 l → e.foldStage f rk l m.line m.poison = none → exec (.foldRequest t unc) s =
          .next (s.after ((e.setFoldRt f { r with held := [g] }).count (cTile t.val 25))))) ∧
      (m.op ≠ .wrI ∨ m.be ≠ BitVec.allOnes 64 → exec (.foldRequest t unc) s =
        .next (s.after ((e.foldViol f m .blendType F.BLD_TILE_ERR.TYPE l).ends g))) ∧
      (m.op = .wrI → m.be = BitVec.allOnes 64 → st = 0 ∨ st = 3 ∨ st = 4 → exec (.foldRequest t unc) s =
        .next (s.after ((e.foldViol f m .blendRankViol F.BLD_TILE_ERR.RANK_VIOL l).ends g)))) ∧
    (rk + 1 < d.get F.FOLD.RANKS f →
      let y := (d.foldCombine f rk l m.line m.poison unc).foldRt f
      y.cnt.get 0 l = rk + 1 ∧ (y.acc.get (0, false) l).2 = ((decide (rk ≠ 0) && (r.acc.get (0, false) l).2) || m.poison || (unc && decide (rk ≠ 0))) ∧
      (y.acc.get (0, false) l).1 =
        (if rk = 0 then m.line else combine (d.get F.FOLD.TYPE f) (d.get F.FOLD.OP f) (r.acc.get (0, false) l).1 m.line)) ∧
    (d.tileFenced t.val = true ∨ d.stagedNext t.val = none → exec (.blendStagedDrain t unc) s = .next (s.after d)) ∧
    (d.tileFenced t.val = false → d.stagedNext t.val = some (f, rk, l) →
      let b := (r.staged.get none (l * 64 + rk)).getD (0, false)
      exec (.blendStagedDrain t unc) s =
        .next (s.after (((d.foldUnstage f rk l).count (cTile t.val 19)).foldCombine f rk l b.1 b.2 unc))) ∧
    (st = 2 → r.writing = [] → exec (.foldResultWriteComplete fi) s =
      .next (s.after (((d.put F.FOLD.STATE f 3).count (cTile (f / 64) 21)).notice f 1))) ∧
    (st ≠ 2 ∨ r.writing ≠ [] → exec (.foldResultWriteComplete fi) s = .next (s.after d)) ∧
    (st = 3 → d.bit F.FOLD.AUTO_REARM f = true → r.stays = false → d.tileFenced (f / 64) = false →
      exec (.foldRearm fi) s = .next (s.after (d.rearm f)) ∧ (d.rearm f).get F.FOLD.STATE f = 1 ∧
      (d.rearm f).get F.FOLD.EPOCH f = (d.get F.FOLD.EPOCH f + 1) % 2 ^ F.FOLD.EPOCH.w ∧ (d.rearm f).get F.FOLD.LINES_DONE f = 0) ∧
    (st ≠ 3 ∨ d.bit F.FOLD.AUTO_REARM f = false ∨ r.stays = true ∨ d.tileFenced (f / 64) = true → exec (.foldRearm fi) s = .next (s.after d)) ∧
    (st = 1 → d.get F.FOLD.TIMEOUT f ≠ 0 → r.written ≠ [] → exec (.foldTimeout fi) s = .next (s.after (d.foldAbandon f 1))) ∧
    (st ≠ 1 ∨ d.get F.FOLD.TIMEOUT f = 0 ∨ r.written = [] → exec (.foldTimeout fi) s = .next (s.after d))

/-- O42 (R336, R337, R345, R346, R354, R361, R362, R367). Each accepted request: FOLD_OPEN with parameters that R336 and
R337 forbid is INVALID_PARAM, of a fold that is not free STATE_MISMATCH, and without the cells, or with more ranks
of an instance than its quota, POOL_EXHAUSTED; otherwise it takes the cells, writes the entry and the ranks, and
answers the cells. FOLD_CLOSE of a free fold is STATE_MISMATCH, of an open one needs the abort and then abandons it
with cause 5 and frees it, of a COMPLETE one is BUSY_BACKGROUND, and of a DONE or abandoned one frees it.
FOLD_STATUS answers the words of the entry. -/
def Obligations.FoldCommands : Prop :=
  ∀ (s : State) (r : FoernReq) (f a : Nat), f < 512 → a < 2 →
    let pay := r.raw.drop 8
    let d := s.dev.taken r.via
    let st := d.get F.FOLD.STATE f
    let b0 := le pay 0 1
    let lines := le pay 4 2
    let ranks := le pay 2 1
    let rks := wordsOf (pay.drop 36)
    let cells := if b0 / 64 % 2 = 1 then ranks * ((lines + 3) / 4) else (lines + 3) / 4
    let insOf (w : Nat) := w / 2 ^ 12 % 1024
    let short := ∃ w ∈ rks, w / 2 ^ 22 = 1 ∧
      d.get F.INS.Q_FOLDS (insOf w) < d.foldsUsed (insOf w) + rks.countP fun v => v / 2 ^ 22 == 1 && insOf v == insOf w
    (s.dev.accepts r { opcode := 0xC500, may := fun p _ _ => fmOnly p, modes := foldModes } = true →
      (hdrOf 0xC500 r.raw).sel = BitVec.ofNat 16 f →
      (d.foldBad f pay = true → exec (.foldOpen r) s = .next (s.declined r 0xC500 .invalidParam)) ∧
      (d.foldBad f pay = false → st ≠ 0 → exec (.foldOpen r) s = .next (s.declined r 0xC500 .stateMismatch)) ∧
      (d.foldBad f pay = false → st = 0 → d.auxCan (f / 64) .blend cells = false ∨ short →
        exec (.foldOpen r) s = .next (s.declined r 0xC500 .poolExhausted)) ∧
      (d.foldBad f pay = false → st = 0 → d.auxCan (f / 64) .blend cells = true → ¬short →
        let x := ((d.demand (f / 64)).auxTake (f / 64) .blend cells).setFoldRt f { FoldRt.empty with cells := cells }
        let y := (x.putWord .FOLD0 f (1 + b0 % 64 * 16 + b0 / 64 * 2 ^ 10 + le pay 1 1 * 2 ^ 12 + ranks * 2 ^ 14)).putWord .FOLD1 f
          (lines + le pay 6 2 * 2 ^ 16)
        let z := (((y.put F.FOLD.FWIN f (le pay 12 8 / 2 ^ 16)).put F.FOLD.RES f (le pay 20 8 / 64)).put F.FOLD.NOTIFY_ADDR f
          (le pay 28 8 / 16 * 16)).put F.FOLD.TIMEOUT f (le pay 8 2)
        exec (.foldOpen r) s = .next (s.okay r 0xC500
          ((List.range ranks).foldl (fun d k => d.putWord .FOLD_RANK (f * 64 + k) (rks.getD k 0)) z) (bytes 4 cells)))) ∧
    (s.dev.accepts r { opcode := 0xC501, may := fun p _ _ => fmOnly p, modes := foldModes } = true →
      (hdrOf 0xC501 r.raw).sel = BitVec.ofNat 16 f → pay = bytes 4 a →
      (st = 0 → exec (.foldClose r) s = .next (s.declined r 0xC501 .stateMismatch)) ∧
      (st = 1 → a = 0 → exec (.foldClose r) s = .next (s.declined r 0xC501 .stateMismatch)) ∧
      (st = 1 → a = 1 → exec (.foldClose r) s = .next (s.okay r 0xC501 ((d.foldAbandon f 5).foldFree f))) ∧
      (st = 2 → exec (.foldClose r) s = .next (s.declined r 0xC501 .busyBackground)) ∧
      (2 < st → exec (.foldClose r) s = .next (s.okay r 0xC501 (d.foldFree f)) ∧ (d.foldFree f).get F.FOLD.STATE f = 0)) ∧
    (s.dev.accepts r { opcode := 0xC502, may := fun p _ sel => s.dev.foldSees p sel.toNat, modes := foldModes } = true →
      (hdrOf 0xC502 r.raw).sel = BitVec.ofNat 16 f → pay = [] →
      exec (.foldStatus r) s = .next (s.okay r 0xC502 d (bytes 4 (d.word .FOLD0 f) ++ bytes 4 (d.word .FOLD8 f) ++
        bytes 4 (d.word .FOLD9 f) ++ bytes 4 (d.word .FOLD10 f) ++ bytes 4 (d.word .FOLD11 f) ++ bytes 4 (d.foldCells f) ++
        bytes 4 (d.word .FOLD13 f))))

/-- O43 (R367, R390, R397). For every state with a canonical register file: where the five pools can give the quotas of
a new instance whose entry is free and whose policer entry is no transit one, then once it is entered the reserved
counts of all instances, with the hold depths of the transit policers, lie within the five pool sizes, which have
not changed, and have grown by exactly its quotas. -/
def Obligations.QuotasStayInPools : Prop :=
  ∀ (d : Dev) (i vf gen st : Nat) (x : NewIns) (coh : Bool), d.tablesOk = true → i < 1024 → d.bit F.INS.VALID i = false →
    d.bit F.POL.TRANSIT i = false → x.q.bad coh = false → d.poolsGive x.q = true →
    let e := d.enterIns i x vf gen st
    e.reserved.trk = d.reserved.trk + x.q.trk ∧ e.reserved.hold = d.reserved.hold + x.q.hold ∧
    e.reserved.cells = d.reserved.cells + x.q.cells ∧ e.reserved.folds = d.reserved.folds + x.q.folds ∧
    e.reserved.dir = d.reserved.dir + x.q.dir ∧ e.reserved.trk ≤ e.get F.INS_POOL_TRK.SIZE ∧
    e.reserved.hold ≤ e.get F.INS_POOL_HOLD.SIZE ∧ e.reserved.cells ≤ e.get F.INS_POOL_CELLS.SIZE ∧
    e.reserved.folds ≤ e.get F.INS_POOL_FOLDS.SIZE ∧ e.reserved.dir ≤ e.get F.INS_POOL_DIR.SIZE * 16

/-- O44 (R374, R375, R376, R377, R379, R380, R381, R382). On a live die: a function level reset of a free instance, or
one that would reach a generation still outstanding, does nothing; of an ACTIVE one it answers the held requests and
then, in class S, leaves it RESETTING, and in class W, as one that is frozen in either class, squashes every open
request and raises the generation. The squash time-out squashes the open requests of a RESETTING or FREEZING
instance and counts them. A reset with nothing outstanding raises the generation, returns to ACTIVE, answers its
command and, of a fenced instance, goes on to freeze; a freeze with nothing outstanding starts its walk, and once
the walk has ended with no entry left it is FROZEN and answers the lines flushed. A held request that has wholly
arrived and has waited tFROZEN is squashed as never issued. A save whose hold queue is empty starts and answers; a
blob that has gone out returns the instance to FROZEN. In other states these do nothing. -/
def Obligations.InstanceEvents : Prop :=
  ∀ (s : State) (i : Inst) (x : Staged) (l : List Staged) (n off : Nat) (c : Bool) (v : Transport) (h : Hdr) (sv : Save), s.dev.die = true →
    let d := s.dev
    let k := i.val
    let st := d.get F.INS.STATE k
    (st = 0 ∨ d.genBusy k = true → exec (.vfFlr i) s = .next (s.after d)) ∧
    (st ≠ 0 → d.genBusy k = false → (d.foldIns k).get F.INS.STATE k = 1 →
      let e := (d.foldIns k).answerHeld k false
      (e.bit F.INS.CLASS k = false → exec (.vfFlr i) s = .next (s.after (e.put F.INS.STATE k 2))) ∧
      (e.bit F.INS.CLASS k = true → exec (.vfFlr i) s = .next (s.after ((e.squashAll k).1.raiseGen k)))) ∧
    (st ≠ 0 → d.genBusy k = false → 3 ≤ (d.foldIns k).get F.INS.STATE k →
      exec (.vfFlr i) s = .next (s.after ((((d.foldIns k).answerHeld k false).squashAll k).1.raiseGen k))) ∧
    ((d.raiseGen k).get F.INS.GEN k = (d.get F.INS.GEN k + 1) % 2 ^ 16 ∧ (d.raiseGen k).get F.INS.SQUASH k = d.get F.INS.SQUASH k ∧
      (d.raiseGen k).get F.INS.LATE k = d.get F.INS.LATE k ∧ (d.raiseGen k).get F.INS.STATE k = st) ∧
    (st = 2 ∨ st = 3 → exec (.squashTimeout i) s = .next (s.after
      (let e := d.squashAll k
       { e.1 with ins := { e.1.ins with squashed := e.1.ins.squashed.modify 0 k (· + e.2) } })) ∧
      (d.squashAll k).2 = (d.insOpen k).length) ∧
    (st ≠ 2 → st ≠ 3 → exec (.squashTimeout i) s = .next (s.after d)) ∧
    (st ≠ 2 ∨ d.insOpen k ≠ [] → exec (.instanceResetDrained i) s = .next (s.after d)) ∧
    (st = 2 → d.insOpen k = [] →
      let e := (d.raiseGen k).put F.INS.STATE k 1
      let g := ({ e with ins := { e.ins with squashed := e.ins.squashed.erase k, resets := [] } } : Dev)
      let fin (y : Dev) := if d.flt.fences.contains (.instance_, k) then y.freeze k else y
      (d.ins.resets = [] → exec (.instanceResetDrained i) s = .next (s.after (fin g))) ∧
      (d.ins.resets = [(k, v, h)] → exec (.instanceResetDrained i) s = .next (s.after (fin (g.respond
        (h.rsp v .ok (bytes 2 (g.get F.INS.GEN k) ++ bytes 2 (d.ins.squashed.get 0 k)))))))) ∧
    (st ≠ 3 ∨ d.insOpen k ≠ [] → exec (.instanceFreezeComplete i) s = .next (s.after d)) ∧
    (st = 3 → d.insOpen k = [] → d.coh.walks = [] → exec (.instanceFreezeComplete i) s = .next (s.after (d.walkStart (.freeze i)))) ∧
    (st = 3 → d.insOpen k = [] → d.coh.walks = [⟨.freeze i, [], n⟩] → d.walkBusy = false → d.ins.destroy = [] →
      (∀ y ∈ d.coh.dir, y.2.inst = some i → y.2.valid = true → y.2.st = .u) → exec (.instanceFreezeComplete i) s = .next (s.after
        (let e := ({ d with coh := { d.coh with walks := [] }, ins := { d.ins with flushed := d.ins.flushed.modify 0 k (· + n) } } : Dev)
         ((e.put F.INS.STATE k 4).count (cDev 26)).bgDone 0xC602 k .ok (bytes 4 (e.ins.flushed.get 0 k))))) ∧
    ((d.pol k).hold = [] ∨ st < 3 ∨ 5 < st ∨ ((d.pol k).hold = x :: l ∧ x.spec = true) → exec (.frozenWaitTimeout i) s = .next (s.after d)) ∧
    ((d.pol k).hold = x :: l → 3 ≤ st → st ≤ 5 → x.spec = false → exec (.frozenWaitTimeout i) s = .next (s.after
      (((({ d with ins := { d.ins with waiting := d.ins.waiting.filter (· != k) } } : Dev).setPol k
        { d.pol k with hold := l, metered := false }).squash k x.m true true).ends x))) ∧
    (st ≠ 4 ∨ d.ins.saves.get none k = none → exec (.instanceSaveStart i) s = .next (s.after d)) ∧
    (st = 4 → d.ins.saves.get none k = some ⟨c, [], 0, some (v, h, off)⟩ →
      ((d.pol k).hold ≠ [] → exec (.instanceSaveStart i) s = .next (s.after d)) ∧
      ((d.pol k).hold = [] → exec (.instanceSaveStart i) s =
        .next (s.after ((d.saveStart k c off).1.respond (h.rsp v .ok (d.saveStart k c off).2))))) ∧
    (st ≠ 5 ∨ d.ins.saves.get none k = none → exec (.instanceBlobSent i) s = .next (s.after d)) ∧
    (st = 5 → d.ins.saves.get none k = some sv →
      (sv.caravan = false → sv.got < sv.blob.length → exec (.instanceBlobSent i) s = .next (s.after d)) ∧
      ((sv.caravan = false ∧ sv.blob.length ≤ sv.got) ∨ (sv.caravan = true ∧ d.car.blobs = [] ∧ d.car.cur = none) → exec (.instanceBlobSent i) s = .next (s.after
        ((({ d with ins := { d.ins with saves := d.ins.saves.erase k } } : Dev).put F.INS.STATE k 4).count (cDev 27)))))

/-- O45 (R364, R365, R367, R370, R372, R374, R380, R382, R384, R385, R386, R396). Each accepted request: INSTANCE_CREATE
with parameters that R364, R365 or R367 forbid is INVALID_PARAM, of an instance that exists STATE_MISMATCH, with an
empty pool POOL_EXHAUSTED, and else enters it ACTIVE and answers its VF and class; INSTANCE_RESET of a class W
instance answers the new generation, and of a class S one answers later; FREEZE and DESTROY of an ACTIVE instance
start in the background, DESTROY of a FROZEN one frees it; SAVE of a FROZEN one with nothing held starts and with
something held waits, and of a SAVING one answers the next chunk, THAW returns it to ACTIVE; states that forbid a
command answer as R387 says; RESTORE keeps a partial blob, takes one that Caravan holds, logs FK_INST_BLOB for a bad
one and enters a good one; STATUS answers the entry; XLATE_SET of a FROZEN instance writes the table; POOL_SET below
what is reserved is INVALID_PARAM. -/
def Obligations.InstanceCommands : Prop :=
  ∀ (s : State) (r : FoernReq) (sv : Save) (blob : List (BitVec 8)) (i tr off v0 v1 v2 v3 v4 vf : Nat) (out : List (BitVec 8)) (y : Dev) (st' : List Stg), i < 1024 →
    let pay := r.raw.drop 8
    let d := s.dev.taken r.via
    let sel (op : Nat) : Prop := (hdrOf op r.raw).sel = BitVec.ofNat 16 i
    let st := d.get F.INS.STATE i
    let x : NewIns := ⟨le pay 0 1, le pay 1 1, le pay 2 1, le pay 4 8, ⟨le pay 12 2, le pay 14 2, le pay 16 4, le pay 20 2, le pay 24 4⟩,
      le pay 28 4, xents (pay.drop 32) (le pay 3 1)⟩
    let n := le pay 3 1
    let clash := d.dpaClash x.port none (some i) x.apBase (2 ^ (x.apSize + 28))
    (s.dev.accepts r (insCmd 0xC600) = true → sel 0xC600 → 0 < n → n ≤ 64 → pay.length = 32 + 16 * n → le pay 22 2 = 0 →
      (d.newBad x = true → exec (.instanceCreate r) s = .next (s.declined r 0xC600 .invalidParam)) ∧
      (d.newBad x = false → d.bit F.INS.VALID i = true ∨ clash = true ∨ d.bit F.POL.TRANSIT i = true →
        exec (.instanceCreate r) s = .next (s.declined r 0xC600 .stateMismatch)) ∧
      (d.newBad x = false → d.bit F.INS.VALID i = false → clash = false → d.bit F.POL.TRANSIT i = false →
        (d.freeVf x.port = none ∨ d.poolsGive x.q = false → exec (.instanceCreate r) s = .next (s.declined r 0xC600 .poolExhausted)) ∧
        (d.freeVf x.port = some vf → d.poolsGive x.q = true →
          let e := (d.put F.POL.EN i 0).enterIns i x vf 0 1
          exec (.instanceCreate r) s = .next (s.okay r 0xC600
            { e with ins := { e.ins with evlog := e.ins.evlog ++ [⟨x.port, i, vf + 1, x.apBase, 2 ^ (x.apSize + 28)⟩] } }
            (bytes 2 (vf + 1) ++ bytes 2 (e.get F.INS.CLASS i)))))) ∧
    (s.dev.accepts r { opcode := 0xC601, may := fun p _ sel => s.dev.insMay p sel.toNat false, modes := liveModes } = true →
      sel 0xC601 → pay = [] →
      (st = 0 → exec (.instanceReset r) s = .next (s.declined r 0xC601 .stateMismatch)) ∧
      (st = 2 ∨ st = 3 ∨ st = 5 → exec (.instanceReset r) s = .next (s.declined r 0xC601 .busyBackground)) ∧
      (st = 1 ∨ st = 4 → d.genBusy i = false → let e := d.insReset i
        (e.2.2 = true → exec (.instanceReset r) s =
          .next (s.okay r 0xC601 e.1 (bytes 2 (e.1.get F.INS.GEN i) ++ bytes 2 e.2.1))) ∧
        (e.2.2 = false → exec (.instanceReset r) s = .next (s.after
          { e.1 with ins := { e.1.ins with resets := e.1.ins.resets ++ [(i, r.via, hdrOf 0xC601 r.raw)] } })))) ∧
    (s.dev.accepts r (insCmd 0xC602) = true → sel 0xC602 → pay = [] →
      (st ≠ 1 → exec (.instanceFreeze r) s = .next (s.declined r 0xC602 (stateDetail st))) ∧
      (st = 1 → (d.freeze i).bgRoom r.via = true → exec (.instanceFreeze r) s = .next (s.begun r 0xC602 i (d.freeze i)))) ∧
    (s.dev.accepts r (insCmd 0xC606) = true → sel 0xC606 → le r.raw 2 2 = i → pay = [] → i ∉ s.dev.ins.destroy →
      let go := ({ d with ins := { d.ins with destroy := d.ins.destroy ++ [i] } } : Dev)
      let h := hdrOf 0xC606 r.raw
      (st ≠ 1 → st ≠ 4 → exec (.instanceDestroy r) s = .next (s.declined r 0xC606 (stateDetail st))) ∧
      (st = 1 → (go.freeze i).bgRoom r.via = true → (go.freeze i).get F.INS.STATE i = 3 →
        exec (.instanceDestroy r) s = .next (s.begun r 0xC606 i (go.freeze i))) ∧
      (st = 4 → d.bgRoom r.via = true → exec (.instanceDestroy r) s = .next (s.after
        (((((go.persisted h []).begin { via := r.via, hdr := h, item := i }).respond (h.rsp r.via .ok [] true)).dropSave i).insFree i)))) ∧
    (s.dev.accepts r (insCmd 0xC603) = true → sel 0xC603 → pay = bytes 1 tr ++ bytes 3 0 ++ bytes 4 off → tr < 2 → off < 2 ^ 32 → (tr = 0 → off = 0) →
      (tr = 1 → off < 368 + 16 * d.get F.INS.XCOUNT i) →
      let car := decide (tr = 0)
      (st = 4 → d.ins.saves.get none i = none → (d.pol i).hold = [] →
        exec (.instanceSave r) s = .next (s.okay r 0xC603 (d.saveStart i car off).1 (d.saveStart i car off).2)) ∧
      (st = 5 → d.ins.saves.get none i = some sv → tr = 1 → sv.caravan = false → exec (.instanceSave r) s = .next (s.okay r 0xC603
        { d with ins := { d.ins with saves := d.ins.saves.put none i (some { sv with got := max sv.got (off + 1024) }) } }
        (bytes 4 sv.blob.length ++ (sv.blob.drop off).take 1024))) ∧
      (st = 4 → d.ins.saves.get none i = none → (d.pol i).hold ≠ [] → exec (.instanceSave r) s = .next (s.after
        { d with ins := { d.ins with saves := d.ins.saves.put none i (some ⟨car, [], 0, some (r.via, hdrOf 0xC603 r.raw, off)⟩) } })) ∧
      (st < 4 → exec (.instanceSave r) s = .next (s.declined r 0xC603 (stateDetail st)))) ∧
    (s.dev.accepts r (insCmd 0xC605) = true → sel 0xC605 → pay = [] →
      (st ≠ 4 → exec (.instanceThaw r) s = .next (s.declined r 0xC605 (stateDetail st))) ∧
      (st = 4 → exec (.instanceThaw r) s = .next (s.okay r 0xC605 ((d.dropSave i).put F.INS.STATE i 1)))) ∧
    (s.dev.accepts r (insCmd 0xC604) = true → sel 0xC604 → 24 ≤ pay.length → le pay 2 1 < 4 → le pay 14 2 = 0 → le pay 12 2 ≤ 4095 →
      (st ≠ 0 → pay.length ≤ 1048 → exec (.instanceRestore r) s = .next (s.declined r 0xC604 (stateDetail st))) ∧
      (st = 0 → 2 ≤ le pay 2 1 → pay.length = 24 → 0x90 ≤ le pay 3 1 → le pay 3 1 ≤ 0x9F →
        let n := le pay 3 1 - 0x90
        let g := ({ d with car := { d.car with held := d.car.held.erase n } } : Dev)
        (d.car.held.get none n = none → exec (.instanceRestore r) s = .next (s.declined r 0xC604 .stateMismatch)) ∧
        (d.car.held.get none n = some blob → g.restoreBlob i pay blob = .ok out y st' →
          exec (.instanceRestore r) s = .next (s.okay r 0xC604 y out st'))) ∧
      let got := if le pay 16 4 = 0 then [] else ((d.ins.restores.get none i).map (·.bytes)).getD []
      (st = 0 → le pay 2 1 < 2 → le pay 16 4 = got.length → 24 < pay.length → pay.length ≤ 1048 → le pay 20 4 ≤ 1392 →
        let b := got ++ pay.drop 24
        let g := ({ d with ins := { d.ins with restores := d.ins.restores.erase i } } : Dev)
        (b.length < le pay 20 4 → exec (.instanceRestore r) s = .next (s.okay r 0xC604
          { d with ins := { d.ins with restores := d.ins.restores.put none i (some ⟨pay.take 24, b⟩) } })) ∧
        (b.length = le pay 20 4 → blobOk b = false → exec (.instanceRestore r) s = .next (s.after
          ((g.raise .instBlob (uDev 0x03) 0 i).respond ((hdrOf 0xC604 r.raw).rsp r.via .invalidParam [])))) ∧
        (b.length = le pay 20 4 → g.restoreBlob i (pay.take 24) b = .ok out y st' →
          exec (.instanceRestore r) s = .next (s.okay r 0xC604 y out st')))) ∧
    (s.dev.accepts r { opcode := 0xC607, may := fun p _ sel => s.dev.insMay p sel.toNat true, modes := liveModes } = true →
      sel 0xC607 → pay = [] → exec (.instanceStatus r) s =
        .next (s.okay r 0xC607 d ((List.range 14).flatMap fun w => bytes 4 (d.insWord i w)))) ∧
    (s.dev.accepts r (insCmd 0xC608) = true → sel 0xC608 → 0 < le pay 0 1 → le pay 0 1 ≤ 64 → pay.length = 4 + 16 * le pay 0 1 →
      le pay 1 3 = 0 →
      let es := xents (pay.drop 4) (le pay 0 1)
      d.xlateBad (2 ^ (d.get F.INS.AP_SIZE i + 7)) es = false → ((∃ e ∈ es, XEnt.valid e = true ∧ XEnt.coh e = true) → 16 ≤ d.get F.INS.Q_DIR i) →
      (st ≠ 4 → exec (.instanceXlateSet r) s = .next (s.declined r 0xC608 .stateMismatch)) ∧
      (st = 4 → exec (.instanceXlateSet r) s =
        .next (s.okay r 0xC608 (d.putXlate i es) (bytes 4 ((d.putXlate i es).get F.INS.CLASS i))))) ∧
    (s.dev.accepts r (insCmd 0xC609) = true → v0 < 2 ^ 32 → v1 < 2 ^ 32 → v2 < 2 ^ 32 → v3 < 2 ^ 32 → v4 < 2 ^ 32 →
      pay = bytes 4 v0 ++ bytes 4 v1 ++ bytes 4 v2 ++ bytes 4 v3 ++ bytes 4 v4 →
      let u := d.reserved
      (v0 < u.trk ∨ v1 < u.hold ∨ v2 < u.cells ∨ v3 < u.dir ∨ v4 < u.folds →
        exec (.instancePoolSet r) s = .next (s.declined r 0xC609 .invalidParam)) ∧
      (u.trk ≤ v0 → v0 ≤ 32768 → u.hold ≤ v1 → v1 ≤ 65536 → u.cells ≤ v2 → v2 ≤ 524288 → u.dir ≤ v3 → v3 ≤ 4194304 → v3 % 16 = 0 →
        u.folds ≤ v4 → v4 ≤ 512 → exec (.instancePoolSet r) s = .next (s.okay r 0xC609
          (((((d.put F.INS_POOL_TRK.SIZE 0 v0).put F.INS_POOL_HOLD.SIZE 0 v1).put F.INS_POOL_CELLS.SIZE 0 v2).put
            F.INS_POOL_DIR.SIZE 0 (v3 / 16)).put F.INS_POOL_FOLDS.SIZE 0 v4)
          (bytes 4 u.trk ++ bytes 4 u.hold ++ bytes 4 u.cells ++ bytes 4 u.dir ++ bytes 4 u.folds))))

/-- O46 (R40, R429, R430, R431, R434, R435, R463). With the fabric die on. While the ROM starts a slot in Bring-up, the
firmware of an image that is verified and not below the OTP minimum gets ready: STATE reads 2, SLOT the slot, and
the watchdog is armed; an image that may not start never does. In Quiesce the same ends an activation, which makes
the slot ACTIVE_SLOT, clears NEXT_SLOT, and raises the OTP minimum as far as increments remain. A slot that does not
start is logged with FALLBACK set and its NEXT_SLOT cleared; the other is tried once, then ROM recovery follows,
with FK_MODE_TRANSITION_FAIL. The cause is 1 for an invalid header, 3 for a failed digest, 2 for a security version
below the minimum, 4 for a timeout. An activation that times out starts the previous slot. The expiry of an armed
watchdog, with the collector idle, enters Bring-up with cause 0x7. -/
def Obligations.FirmwareBoot : Prop :=
  ∀ (s : State) (bad : Bool), s.dev.die = true →
    let d := s.dev
    let slot := d.mgt.from_
    let st := d.get F.MGT_FW_STATUS.STATE
    (d.mode = .bringUp → st ≤ 1 → d.mgt.mayStart slot.val = true → d.bit F.GLB_CLK_STATUS.MGMT_LOCK = true →
      ∃ t, exec .fwBootReady s = .next t ∧ t.pending = s.pending ∧ t.dev.get F.MGT_FW_STATUS.STATE = 2 ∧
        t.dev.get F.MGT_FW_STATUS.SLOT = slot.val ∧ t.dev.bit F.MGT_FW_STATUS.WDT_ARMED = true) ∧
    (d.mgt.mayStart slot.val = false → exec .fwBootReady s = .next (s.after d)) ∧
    (d.mode = .quiesce → d.mgt.mayStart slot.val = true → d.bit F.GLB_CLK_STATUS.MGMT_LOCK = true →
      (st = 1 → exec .fwBootReady s = .next (s.after (d.ready slot))) ∧
      (st = 3 → ∃ t, exec .fwBootReady s = .next t ∧ t.pending = s.pending ∧ t.dev.get F.MGT_FW_STATUS.STATE = 2 ∧
        t.dev.get F.MGT_FW_STATUS.SLOT = slot.val ∧ t.dev.mgt.boot.active = slot ∧ t.dev.mgt.boot.next = none ∧
        t.dev.mgt.svnMin + t.dev.mgt.fuses = d.mgt.svnMin + d.mgt.fuses ∧
        (d.mgt.svnMin ≤ (d.mgt.img slot.val).svn → (d.mgt.img slot.val).svn ≤ d.mgt.svnMin + d.mgt.fuses →
          t.dev.mgt.svnMin = (d.mgt.img slot.val).svn))) ∧
    (d.mode = .bringUp ∨ d.mode = .quiesce → st ≤ 1 → d.mgt.boot.next ≠ some slot →
      let e := (d.fwImage slot.val (d.startCause slot.val bad)).set F.MGT_FW_STATUS.FALLBACK
      (d.mgt.fell = false → exec (.fwBootTimeout bad) s =
        .next (s.after { e with mgt := { d.mgt with from_ := otherSlot slot, fell := true } })) ∧
      (d.mgt.fell = true → exec (.fwBootTimeout bad) s = .next (s.after (e.put F.MGT_FW_STATUS.STATE 0 4).modeFail))) ∧
    (d.mode = .bringUp ∨ d.mode = .quiesce → st ≤ 1 → d.mgt.boot.next = some slot →
      ∃ t, exec (.fwBootTimeout bad) s = .next t ∧ t.pending = s.pending ∧ t.dev.mgt.boot.next = none ∧
        t.dev.bit F.MGT_FW_STATUS.FALLBACK = true) ∧
    (1 < st → exec (.fwBootTimeout bad) s = .next (s.after d)) ∧
    (((d.mgt.img slot.val).valid = false → d.startCause slot.val bad = if bad then 1 else 3) ∧
      ((d.mgt.img slot.val).valid = true →
        d.startCause slot.val bad = if (d.mgt.img slot.val).svn < d.mgt.svnMin then 2 else 4)) ∧
    (st = 3 → exec .fwActivateTimeout s = .next (s.after
      { (d.fwImage slot.val 4).put F.MGT_FW_STATUS.STATE 0 1 with
        mgt := { d.mgt with from_ := otherSlot slot, fell := true } })) ∧
    (st ≠ 3 → exec .fwActivateTimeout s = .next (s.after d)) ∧
    (d.bit F.MGT_FW_STATUS.WDT_ARMED = false → exec .fwWatchdogExpiry s = .next (s.after d)) ∧
    (d.bit F.MGT_FW_STATUS.WDT_ARMED = true → d.get F.PWR_STATUS.STATE = 3 → d.flt.running = true → d.quiet = true →
      d.flt.inq = [] → d.flt.stalled = [] → d.flt.lostSince = 0 → d.policyLevel .fwWatchdog = 3 →
      ∃ t, exec .fwWatchdogExpiry s = .next t ∧ t.pending = s.pending ∧ t.dev.mode = .bringUp ∧
        t.dev.get F.GLB_RESET_CAUSE.CAUSE = 7)

/-- O47 (R433, R434, R435, R439, R447, R463, R487). FW_TRANSFER and Transfer FW: an accepted start of at most 7 MiB for
a slot that does not run, with no other sender's transfer open and room in the background, marks the slot invalid,
clears a NEXT_SLOT that names it and starts the erase; data in order after the erase is counted; an end with every
byte there starts the verification; a cancel drops the transfer. The end of the erase lets data come and completes
the start; the end of the verification makes the slot valid with its version, or logs FK_FW_IMAGE with cause 1, 2 or
3 and completes INVALID_PARAM. A transfer idle too long is dropped, as is one for stream 0x81 whose HEAD never
comes. ACTIVATE_FIRMWARE and Activate FW: mode 0 names the next slot, mode 1 in Quiesce restarts the firmware from
it. What a standard command carries is log entry 59's. -/
def Obligations.FirmwareImages : Prop :=
  (∀ (s : State) (r : FoernReq) (slot : Fin 2) (n : Nat),
    let pay := r.raw.drop 8
    let d := s.dev.taken r.via
    let o := d.origin r.via
    (s.dev.accepts r { opcode := 0xC004, may := fun p _ _ => fmOnly p, modes := fwModes, rom := true } = true → le pay 2 2 = 0 →
      (pay.length = 12 → le pay 0 1 = 1 → le pay 1 1 = 128 + slot.val ∨ (le pay 1 1 = 0 ∧ d.xferSlot none = some slot) →
        le pay 8 4 ≤ 7 * 2 ^ 20 → d.runSlot ≠ some slot.val → (∀ x, d.mgt.xfer = some x → x.origin = o) → d.bgRoom r.via = true →
        exec (.fwTransfer r) s = .next (s.begun r 0xC004 0 (d.xferOpen o slot (le pay 8 4) false))) ∧
      (∀ x, d.mgt.xfer = some x → x.origin = o → x.erased = true → x.verifying = false → le pay 1 1 = 0 →
        (le pay 0 1 = 2 → pay.length = 12 + n → n ≤ 3968 → le pay 4 4 = x.got → x.got + n ≤ x.total →
          exec (.fwTransfer r) s =
            .next (s.okay r 0xC004 { d with mgt := { d.mgt with xfer := some { x with got := x.got + n } } })) ∧
        (pay.length = 12 → le pay 0 1 = 3 → x.got = x.total → d.bgRoom r.via = true →
          exec (.fwTransfer r) s =
            .next (s.begun r 0xC004 0 { d with mgt := { d.mgt with xfer := some { x with verifying := true } } })) ∧
        (pay.length = 12 → le pay 0 1 = 4 → exec (.fwTransfer r) s = .next (s.okay r 0xC004 d.xferDrop)))) ∧
    (s.dev.accepts r { opcode := 0xC003, may := fun p _ _ => fmOnly p, modes := dieModes, rom := true } = true →
      pay.length = 4 → le pay 0 1 = slot.val → le pay 2 2 = 0 → (d.mgt.img slot.val).valid = true →
      d.get F.MGT_FW_STATUS.STATE ≠ 4 →
      (le pay 1 1 = 0 → exec (.activateFirmware r) s = .next (s.okay r 0xC003 { d with mgt := { d.mgt with
        boot := { d.mgt.boot with copies := true, next := if d.runSlot = some slot.val then none else some slot,
                                  gen := d.mgt.boot.gen + 1 } } })) ∧
      (le pay 1 1 = 1 → d.mode = .quiesce → d.runSlot ≠ some slot.val → d.mgt.running = [] → d.mgt.xfer = none →
        exec (.activateFirmware r) s = .next (s.okay r 0xC003
          { (d.put F.MGT_FW_STATUS.STATE 0 3).put F.MGT_FW_STATUS.WDT_ARMED 0 0 with
            mgt := { d.mgt with from_ := slot, fell := false, asm := [], inbox := [] } }))) ∧
    (let c : StdCmd := { n := 12, acts := 0xC004, modes := fwModes }
     let yes (e : Dev) := s.after (e.stdRespond (c.rsp r.via .ok []))
     s.dev.acceptsStd r c = true →
      (n ≤ 7 * 2 ^ 20 → d.runSlot ≠ some slot.val → d.mgt.xfer = none →
        exec (.transferFw r (.start (some slot) n)) s = .next (s.after (d.concludeStd r.via c (.bg 0 (d.xferOpen o slot n false) [])))) ∧
      (∀ x, d.mgt.xfer = some x → x.origin = o → x.erased = true → x.verifying = false →
        (x.got + n ≤ x.total → exec (.transferFw r (.data x.got n)) s =
          .next (yes { d with mgt := { d.mgt with xfer := some { x with got := x.got + n } } })) ∧
        exec (.transferFw r .cancel) s = .next (yes d.xferDrop))) ∧
    (let c : StdCmd := { n := 13, acts := 0xC003 }
     s.dev.acceptsStd r c = true → (d.mgt.img slot.val).valid = true → d.runSlot ≠ some slot.val →
      d.mgt.running = [] → d.mgt.xfer = none →
      exec (.activateFw r slot false) s = .next (s.after ((d.activateNext slot).stdRespond (c.rsp r.via .ok []))) ∧
      (d.mode = .quiesce →
        exec (.activateFw r slot true) s = .next (s.after ((d.activateNow slot).stdRespond (c.rsp r.via .ok [])))))) ∧
  (∀ (d : Dev) (o : BitVec 16) (slot : Fin 2) (n : Nat) (b : Bool),
    ((d.xferOpen o slot n b).mgt.img slot.val).valid = false ∧ (d.xferOpen o slot n b).mgt.boot.next ≠ some slot ∧
    (d.xferOpen o slot n b).mgt.xfer =
      some { origin := o, slot := slot, total := n, got := 0, erased := false, verifying := false, stream := b } ∧
    d.xferDrop.mgt.xfer = none ∧ d.xferDrop.mgt.imgA = d.mgt.imgA ∧ d.xferDrop.mgt.imgB = d.mgt.imgB) ∧
  (∀ (s : State) (x : Xfer) (ver : BitVec 32) (svn : Fin 256), s.dev.die = true →
    let d := s.dev
    let op := if x.stream then 0xCB02 else 0xC004
    let e : Dev := { d with mgt := { d.mgt with xfer := none }, car := { d.car with armed := false } }
    (d.mgt.xfer = none → exec .fwEraseComplete s = .next (s.after d) ∧ exec (.fwVerifyComplete ver svn 0) s = .next (s.after d) ∧
      exec .fwTransferIdleTimeout s = .next (s.after d) ∧ exec .fwReceiveTimeout s = .next (s.after d)) ∧
    (d.mgt.xfer = some x → x.erased = false → x.stream = false →
      exec .fwEraseComplete s = .next (s.after
        (({ d with mgt := { d.mgt with xfer := some { x with erased := true } } } : Dev).bgDone 0xC004 0 .ok []))) ∧
    (d.mgt.xfer = some x → x.erased = true → x.verifying = true →
      (d.mgt.svnMin ≤ svn.val → exec (.fwVerifyComplete ver svn 0) s = .next (s.after
        (({ e with mgt := e.mgt.setImg x.slot.val { valid := true, version := ver, svn := svn.val } } : Dev).bgDone op 0 .ok [])) ∧
        exec (.fwVerifyComplete ver svn 2) s = .next (s.after ((e.fwImage x.slot.val 3).bgDone op 0 .invalidParam []))) ∧
      exec (.fwVerifyComplete ver svn 1) s = .next (s.after ((e.fwImage x.slot.val 1).bgDone op 0 .invalidParam [])) ∧
      (svn.val < d.mgt.svnMin → exec (.fwVerifyComplete ver svn 0) s =
        .next (s.after ((e.fwImage x.slot.val 2).bgDone op 0 .invalidParam [])))) ∧
    (d.mgt.xfer = some x → x.erased = true → x.verifying = false → x.stream = false →
      exec .fwTransferIdleTimeout s = .next (s.after d.xferDrop)) ∧
    (d.mgt.xfer = some x → x.verifying = false → d.car.armed = true → d.car.rx = none →
      exec .fwReceiveTimeout s = .next (s.after d.xferDrop)))

/-- O48 (R447, R449, R453, R454, R461). Each accepted request with a payload its layout allows. PARAM_READ answers the
length of a committed or staged value and its bytes from the offset. PARAM_WRITE takes the first or the next chunk
of a value; the last one stages it; with bit 0 of byte 2 it stages the deletion. PARAM_COMMIT copies what is staged
over the committed records and starts; its end writes the other bank, and completes with the generation. In that
bank, with a canonical table of staged words, a staged word has its staged value, a word of a deleted parameter is
gone, and any other word is as committed. PARAM_LIST answers ID, kind and size. BG_STATUS answers a running
operation, or gives the sender its kept result and drops it. The expiry drops the oldest kept result. The layout of
the values is log entry 12's. -/
def Obligations.ParameterCommands : Prop :=
  (∀ (s : State) (r : FoernReq) (id n k : Nat),
    let pay := r.raw.drop 8
    let d := s.dev.taken r.via
    (s.dev.accepts r (parCmd 0xC006) = true → pay.length = 8 → le pay 0 2 = id → le pay 2 1 = k → k ≤ 1 → le pay 3 1 = 0 →
      (paramSize id).isSome = true → le pay 4 4 = n →
      (n ≤ (d.mgt.paramValue (k = 1) id).length →
        exec (.paramRead r) s = .next (s.okay r 0xC006 d (bytes 4 (d.mgt.paramValue (k = 1) id).length ++
          ((d.mgt.paramValue (k = 1) id).drop n).take 3968))) ∧
      ((d.mgt.paramValue (k = 1) id).length < n → exec (.paramRead r) s = .next (s.declined r 0xC006 .invalidParam))) ∧
    (s.dev.accepts r (parCmd 0xC007) = true → 12 ≤ pay.length → pay.length ≤ 3980 → le pay 0 2 = id → le pay 3 1 = 0 →
      (le pay 2 1 = 1 → pay.length = 12 → le pay 4 4 = 0 → le pay 8 4 = 0 → (paramSize id).isSome = true →
        exec (.paramWrite r) s = .next (s.okay r 0xC007 ({ d with mgt := { d.mgt with
          shadow := dropRecord d.mgt.shadow id, deleted := id :: d.mgt.deleted.filter (· != id) } }.set F.MGT_PARAM.STAGED))) ∧
      (le pay 2 1 = 0 → le pay 8 4 = n → (paramSize id).isSome = true → le pay 4 4 = 0 → pay.length - 12 < n →
        exec (.paramWrite r) s = .next (s.okay r 0xC007 { d with mgt := { d.mgt with
          paramWr := some { id := id, total := n, bytes := pay.drop 12 } } })) ∧
      (le pay 2 1 = 0 → le pay 8 4 = n → paramSize id = some n → le pay 4 4 = 0 → pay.length - 12 = n →
        exec (.paramWrite r) s = .next (s.okay r 0xC007 (d.stageBytes id (pay.drop 12)))) ∧
      (∀ w, d.mgt.paramWr = some w → w.id = id → w.total = n → w.bytes ≠ [] → le pay 2 1 = 0 → le pay 8 4 = n →
        paramSize id = some n → le pay 4 4 = w.bytes.length →
        (w.bytes.length + (pay.length - 12) = n →
          exec (.paramWrite r) s = .next (s.okay r 0xC007 (d.stageBytes id (w.bytes ++ pay.drop 12)))) ∧
        (w.bytes.length + (pay.length - 12) < n →
          exec (.paramWrite r) s = .next (s.okay r 0xC007 { d with mgt := { d.mgt with
            paramWr := some { w with bytes := w.bytes ++ pay.drop 12 } } })))) ∧
    (s.dev.accepts r (parCmd 0xC008) = true → pay = [] →
      (d.mgt.commit = none → d.bgRoom r.via = true →
        exec (.paramCommit r) s = .next (s.begun r 0xC008 0
          ({ d with mgt := { d.mgt with commit := some d.mgt.nextBank, shadow := [], deleted := [] } }.put F.MGT_PARAM.STAGED 0 0))) ∧
      (d.mgt.commit ≠ none → exec (.paramCommit r) s = .next (s.declined r 0xC008 .busyBackground))) ∧
    (s.dev.accepts r (parCmd 0xC009) = true → pay.length = 4 → le pay 0 2 = k → le pay 2 2 = n → 0 < n → n ≤ 256 →
      k + n ≤ paramIds.length →
      exec (.paramList r) s = .next (s.okay r 0xC009 d (((paramIds.drop k).take n).flatMap fun id =>
        bytes 2 id ++ bytes 2 (if paramArray id then 1 else 0) ++ bytes 4 ((paramSize id).getD 0)))) ∧
    (s.dev.accepts r { opcode := 0xC005, may := anyOne, modes := dieModes } = true → pay.length = 8 → le pay 0 2 = 0 →
      le pay 2 2 = 0 →
      let mine (o : BgOp) : Bool := decide (d.origin o.via = d.origin r.via) && decide (o.hdr.seq = BitVec.ofNat 32 (le pay 4 4))
      (∀ o, d.mgt.running.find? mine = some o →
        exec (.bgStatus r) s =
          .next (s.okay r 0xC005 { d with freeCtr := d.freeCtr + 1 } (bgRunning o d.freeCtr))) ∧
      (∀ x, d.mgt.running.find? mine = none → d.mgt.results.reverse.find? (fun x => mine x.op) = some x → x.aborted = false →
        exec (.bgStatus r) s = .next (s.okay r 0xC005 { d with mgt := { d.mgt with results := d.mgt.results.erase x } }
          (bgKept x d.freeCtr))) ∧
      (d.mgt.running.find? mine = none → d.mgt.results.reverse.find? (fun x => mine x.op) = none →
        exec (.bgStatus r) s = .next (s.declined r 0xC005 .stateMismatch)))) ∧
  (∀ s : State, s.dev.die = true →
    exec .bgResultExpiry s = .next (s.after { s.dev with mgt := { s.dev.mgt with results := s.dev.mgt.results.tail } }) ∧
    (s.dev.mgt.commit = none → exec .paramCommitComplete s = .next (s.after s.dev)) ∧
    (∀ b, s.dev.mgt.commit = some b → exec .paramCommitComplete s = .next (s.after
      ((({ s.dev with mgt := { s.dev.mgt with banks := s.dev.mgt.banks.set s.dev.mgt.otherBank (some b), commit := none } } : Dev).put
        F.MGT_PARAM.GEN 0 b.gen.toNat).bgDone 0xC008 0 .ok (bytes 4 b.gen.toNat))))) ∧
  (∀ (m : MgtSt) (k : Nat), Tab.wf none m.shadow = true →
    m.nextBank.recs.get none k =
      if m.shadow.get none k ≠ none then m.shadow.get none k
      else if m.deleted.contains (k / 2 ^ 20) then none
      else m.committed.get none k)

/-- O49 (R40, R442, R452, R453, R460, R513). GET_IDENTITY and GET_MODE with no payload answer the bytes of their layouts
and change nothing. FACTORY_TOKEN with TEST_EN high and a token that is signed for this device enters Factory Test
for its origin; otherwise it is declined. CERT_WRITE stores its chunk. FACTORY_INJECT with the collector idle
accepts a record FK_TEST_INJECTED, answers its sequence, and then: mode 1 sets the error bit that the fault has and
offers the record it names, marked injected; mode 2 keeps the flip for the next write of its codeword; mode 3 counts
the samples of a pair still forced; mode 4 the flits of a port still spoiled. The vendor, serial and grade are
constants that the spec leaves open. -/
def Obligations.IdentityAndFactory : Prop :=
  (∀ (s : State) (r : FoernReq) (signed : Bool) (n : Nat),
    let pay := r.raw.drop 8
    let d := s.dev.taken r.via
    (s.dev.accepts r { opcode := 0xC000, may := anyOne, modes := dieModes, rom := true } = true → pay = [] →
      let img := d.runSlot.map d.mgt.img
      (d.get F.MGT_FW_STATUS.STATE = 2 → d.runSlot = some (d.get F.MGT_FW_STATUS.SLOT)) ∧
      exec (.getIdentity r) s = .next (s.okay r 0xC000 d (
        bytes 2 Config.vendorId.toNat ++ bytes 2 0xC064 ++ bytes 1 (d.get F.GLB_ID.STEPPING) ++ bytes 1 1 ++
        bytes 2 (d.get F.GLB_NODE.NODE_ID) ++ bytes 8 Config.serial.toNat ++
        bytes 4 ((img.map (·.version.toNat)).getD 0) ++ bytes 1 (d.get F.MGT_FW_STATUS.SLOT) ++
        bytes 1 (d.get F.MGT_FW_STATUS.FALLBACK + if d.get F.MGT_FW_STATUS.STATE = 4 then 2 else 0) ++ bytes 2 0 ++ bytes 4 d.mgt.imgA.version.toNat ++
        bytes 4 d.mgt.imgB.version.toNat ++ bytes 4 ((img.map (·.svn)).getD 0) ++
        bytes 1 Config.grade.toNat ++ bytes 3 0 ++ bytes 8 (((List.range 64).filter d.enabled).foldl (fun a p => a + 2 ^ p) 0)))) ∧
    (s.dev.accepts r { opcode := 0xC001, may := fun p _ _ => fmMonHost p, modes := dieModes } = true → pay = [] →
      exec (.getMode r) s = .next (s.okay r 0xC001 d (
        bytes 1 d.mode.code ++ bytes 1 (if d.pwr.trans.isSome then 1 else 0) ++ bytes 1 ((d.pwr.trans.map (·.target)).getD 0xFF) ++ bytes 1 (d.get F.FLT_FENCE_TILE.TILES) ++
        bytes 2 d.flt.fences.length ++ bytes 2 0 ++ bytes 8 d.pwr.modeFtc.toNat))) ∧
    (s.dev.accepts r { opcode := 0xCF00, may := isFm, modes := fun m => m = .bringUp } = true → pay.length = 4 + n →
      le pay 0 2 = n → n ≤ 1024 → le pay 2 2 = 0 →
      (d.pwr.testEn = true → exec (.factoryToken r true) s = .next (s.okay r 0xCF00
        (({ d with mgt := { d.mgt with factory := some r.via } } : Dev).setMode .factory 0))) ∧
      (d.pwr.testEn = true → exec (.factoryToken r false) s = .next (s.declined r 0xCF00 .invalidParam)) ∧
      (d.pwr.testEn = false → exec (.factoryToken r signed) s = .next (s.declined r 0xCF00 .wrongMode))) ∧
    (s.dev.accepts r { opcode := 0xCF02, factory := true, may := fun _ _ _ => true, modes := fun m => m = .factory } = true →
      8 ≤ pay.length → pay.length ≤ 3976 → le pay 4 4 ≤ 16384 → le pay 0 4 + (pay.length - 8) ≤ le pay 4 4 →
      exec (.certWrite r) s = .next (s.okay r 0xCF02 { d with mgt := { d.mgt with
        certs := d.mgt.certs.put [] 0 (writeAt (d.mgt.certs.get [] 0) (pay.drop 8) (le pay 0 4) (le pay 4 4)) } })) ∧
    (s.dev.accepts r { opcode := 0xCF01, factory := true, may := fun _ _ _ => true, modes := fun m => m = .factory } = true →
      d.flt.inq = [] → (d.injBad pay = true → exec (.factoryInject r) s = .next (s.declined r 0xCF01 .invalidParam)) ∧
      (d.injBad pay = false → exec (.factoryInject r) s = .next (s.okay r 0xCF01
        ((d.acceptRec { unit := uDev 0x03, what := .fault .testInjected, dom := .device, idx := 0,
                        addr := BitVec.ofNat 64 (le pay 1 1 + le pay 0 1 * 256) }).inject pay) (bytes 8 d.flt.seq.toNat))))) ∧
  (∀ (d : Dev) (pay : List (BitVec 8)) (k : Kind),
    (le pay 0 1 = 1 → Kind.ofCode (le pay 1 1) = some k →
      d.inject pay = (d.errBit k (le pay 4 2) (injDom k (le pay 4 2) (le pay 8 8)).2).offer
        { unit := le pay 4 2, what := .fault k, level := some (le pay 2 1),
          dom := (injDom k (le pay 4 2) (le pay 8 8)).1, idx := (injDom k (le pay 4 2) (le pay 8 8)).2,
          addr := BitVec.ofNat 64 (le pay 8 8), injected := true }) ∧
    (le pay 0 1 = 2 → d.inject pay = { d with flt := { d.flt with
      injCw := d.flt.injCw ++ [(le pay 4 2, le pay 8 8, le pay 7 1, BitVec.ofNat 64 (le pay 16 8))] } }) ∧
    (le pay 0 1 = 3 → d.inject pay = { d with flt := { d.flt with
      injWire := d.flt.injWire.put 0 ((pairOf (le pay 4 2)).getD 0) (le pay 24 4) } }) ∧
    (le pay 0 1 = 4 → d.inject pay = { d with flt := { d.flt with injLink := d.flt.injLink.put 0 (le pay 6 1) (le pay 24 4) } }))

/-- O50 (R370, R436, R439, R442, R445, R462). A standard request that its transport carries and serves, in its modes,
from an origin that is no monitor. The commands that only read answer OK with at most 4,080 bytes whose values are
free (log entry 59), and change nothing but the count of free values. Get and Set Response Message Limit and Event
Interrupt Policy read and write their settings; Clear Event Records drops the oldest of its log; Get Timestamp
answers the FTC; Physical Port Control acts as PRT_CTL; Bind and Unbind vPPB act as BIND and UNBIND. A served
request of any other opcode, or of one that its transport does not carry, is answered Unsupported and changes
nothing; a monitor origin is declined with PRIVILEGE. -/
def Obligations.StandardCommands : Prop :=
  ∀ (s : State) (r : FoernReq) (lim : Fin 256) (n e : Nat) (pol : BitVec 32) (p : Port) (v : Fin 32) (edge : BitVec 12) (ld : Option (BitVec 4)),
    let d := s.dev.taken r.via
    let yes (k acts : Nat) (x : Dev) (out : List (BitVec 8)) (t : Host.Outcome State Fault Refusal) : Prop :=
      t = .next (s.after (x.stdRespond (({ n := k, acts := acts } : StdCmd).rsp r.via .ok out)))
    let reads (k : Nat) (host : Bool) (t : Host.Outcome State Fault Refusal) : Prop :=
      s.dev.acceptsStd r { n := k, host := host } = true →
        ∃ out, out.length ≤ 4080 ∧ t = .next (s.after
          (({ d with freeCtr := d.freeCtr + 1 } : Dev).stdRespond (({ n := k } : StdCmd).rsp r.via .ok out)))
    reads 1 false (exec (.identify r) s) ∧ reads 2 false (exec (.backgroundOperationStatus r) s) ∧ reads 5 true (exec (.getSupportedLogs r) s) ∧
    reads 6 true (exec (.getLog r) s) ∧ reads 7 true (exec (.getEventRecords r) s) ∧ reads 11 false (exec (.getFwInfo r) s) ∧
    reads 15 false (exec (.identifySwitchDevice r) s) ∧ reads 16 false (exec (.getPhysicalPortState r) s) ∧
    reads 18 false (exec (.sendPpbCxlioConfigRequest r) s) ∧ reads 19 false (exec (.getVirtualCxlSwitchInfo r) s) ∧
    reads 22 false (exec (.tunnelManagementCommand r) s) ∧ reads 23 false (exec (.getLdInfo r) s) ∧ reads 24 false (exec (.getLdAllocations r) s) ∧
    (s.dev.acceptsStd r { n := 25, fm := false, host := true } = true →
      ∃ out, out.length ≤ 4080 ∧ yes 25 0 { d with freeCtr := d.freeCtr + 1 } out (exec (.identifyMemoryDevice r) s)) ∧
    (s.dev.acceptsStd r { n := 3 } = true → yes 3 0 d (bytes 1 d.mgt.rspLimit) (exec (.getResponseMessageLimit r) s)) ∧
    (s.dev.acceptsStd r { n := 4 } = true →
      yes 4 0 { d with mgt := { d.mgt with rspLimit := lim.val } } (bytes 1 lim.val) (exec (.setResponseMessageLimit r lim) s)) ∧
    (s.dev.acceptsStd r { n := 8, host := true } = true →
      (∀ h, r.via = .hostMbox h →
        yes 8 0 { d with ins := { d.ins with evlog := dropEvents h.val n d.ins.evlog } } [] (exec (.clearEventRecords r n) s)) ∧
      ((∀ h, r.via ≠ .hostMbox h) →
        yes 8 0 { d with mgt := { d.mgt with cleared := d.mgt.cleared + n } } [] (exec (.clearEventRecords r n) s))) ∧
    (s.dev.acceptsStd r { n := 9 } = true → yes 9 0 d (bytes 4 d.mgt.evtPolicy.toNat) (exec (.getEventInterruptPolicy r) s)) ∧
    (s.dev.acceptsStd r { n := 10 } = true →
      yes 10 0 { d with mgt := { d.mgt with evtPolicy := pol } } [] (exec (.setEventInterruptPolicy r pol) s)) ∧
    (s.dev.acceptsStd r { n := 14 } = true → yes 14 0 d (bytes 8 d.clk.ftc.toNat) (exec (.getTimestamp r) s)) ∧
    (s.dev.acceptsStd r { n := 17 } = true → yes 17 0 (d.ctlRetrain p.val) [] (exec (.physicalPortControl r p .retrain) s) ∧
      yes 17 0 (d.ctlHotReset p.val) [] (exec (.physicalPortControl r p .hotReset) s) ∧
      (∀ on, yes 17 0 (d.ctlDisable p.val on) [] (exec (.physicalPortControl r p (.disable on)) s))) ∧
    (let c : StdCmd := { n := 20, acts := 0xC201, modes := liveModes }
     let i := vppbNo p.val v.val
     s.dev.acceptsStd r c = true → d.isHost p.val = true → v ≠ 0 → edge.toNat = e → d.bindTarget e = true →
      let b : Nat := ((ld.map fun x => 128 + x.toNat).getD 0)
      let ldv := decide (128 ≤ b)
      d.get F.TIL_VPPB.STATE i = 0 → d.ldBound e (b % 16) ldv = false → d.ldWindowed e (b % 16) ldv = false → d.binding p.val = false →
      d.eventsFull e = false → d.bgRoom r.via = true →
      exec (.bindVppb r p v edge ld) s = .next (s.after
        (((d.putWord .TIL_VPPB i (1 + e * 4 + b % 16 * 2 ^ 14 + (if ldv then 2 ^ 18 else 0))).begin
        { via := r.via, hdr := { opcode := 0xC201, persist := false, sel := 0, seq := 0 }, item := p.val }).stdRespond
          (c.rsp r.via .ok [] true)))) ∧
    (∀ mode : Fin 3, let c : StdCmd := { n := 21, acts := 0xC202, modes := liveModes }
     let i := vppbNo p.val v.val
     s.dev.acceptsStd r c = true → d.isHost p.val = true → v ≠ 0 → d.get F.TIL_VPPB.STATE i = 2 → d.binding p.val = false →
      d.eventsFull (d.get F.TIL_VPPB.TARGET_EDGE i) = false → (d.unbindStart p.val v.val mode).bgRoom r.via = true →
      exec (.unbindVppb r p v mode) s = .next (s.after ((((d.unbindStart p.val v.val mode).begin
        { via := r.via, hdr := { opcode := 0xC202, persist := false, sel := 0, seq := 0 }, item := p.val }).stdRespond
          (c.rsp r.via .ok [] true)).surprise p.val))) ∧
    (s.dev.die = true → s.dev.answers r.via = true → s.dev.served r.via = true → r.raw.length ≤ r.via.largest →
      exec (.unsupportedStandardOpcode r) s =
        .next (s.after (d.unsupported { n := 26, fm := false } r.via)) ∧
      ((∀ h, r.via ≠ .hostMbox h) → exec (.identifyMemoryDevice r) s =
        .next (s.after (d.unsupported { n := 25, fm := false, host := true } r.via))) ∧
      (∀ h, r.via = .hostMbox h → exec (.getFwInfo r) s = .next (s.after (d.unsupported { n := 11 } r.via))) ∧
      (s.dev.principal r.via = .monitor → exec (.getFwInfo r) s =
        .next (s.after (d.stdRespond (({ n := 11 } : StdCmd).rsp r.via .privilege [])))))

/-- O51 (R71, R489, R492, R493, R494, R510). Records raised on one edge take their places in the input queue in the
order of their source units, none lost while there is room; in a full queue an event is dropped and counted, and a
record of a fixed kind waits with its source. On each acceptance the collector takes the oldest record of the queue,
and a waiting record moves up; while it does not run nothing is accepted. Its start puts Butre's pending records
first. Accepting a record with no action due (L0, or with its window open) stores it at the next slot of the log
with the next device sequence, the FTC, the mode and its level. While fewer than 2,048 records are unacknowledged at
L1 or above, the slot chosen holds none of those. -/
def Obligations.FaultQueueAndLog : Prop :=
  (∀ d old : Dev, d.flt.stalled = [] → d.flt.inq.length + d.flt.arr.length ≤ 64 → (∀ c ∈ d.flt.arr, old.muted c = false) →
    ∃ l, l.Perm d.flt.arr ∧ l.Pairwise (fun a b => a.unit ≤ b.unit) ∧
      d.settle old = { d with flt := { d.flt with arr := [], inq := d.flt.inq ++ l } }) ∧
  (∀ (d old : Dev) (c : Coded), d.flt.stalled = [] → d.flt.inq.length = 64 → d.flt.arr = [c] → old.muted c = false →
    (∀ e, c.what = .event e → d.settle old =
      ({ d with flt := { d.flt with arr := [], lostSince := d.flt.lostSince + 1 } } : Dev).lose) ∧
    (∀ k, c.what = .fault k → k.fixed = true →
      d.settle old = ({ d with flt := { d.flt with arr := [], stalled := [c] } } : Dev).count (cDev 7))) ∧
  (∀ (s : State) (c x : Coded) (l m : List Coded),
    (s.dev.flt.running = false ∨ s.dev.die = false → exec .faultRecordAccept s = .next (s.after s.dev)) ∧
    (s.dev.flt.running = true → s.dev.die = true → s.dev.flt.inq = c :: l →
      (s.dev.flt.stalled = [] → s.dev.flt.lostSince = 0 →
        exec .faultRecordAccept s =
          .next (s.after (({ s.dev with flt := { s.dev.flt with inq := l } } : Dev).acceptRec c))) ∧
      (s.dev.flt.stalled = x :: m → exec .faultRecordAccept s =
        .next (s.after (({ s.dev with flt := { s.dev.flt with stalled := m, inq := l ++ [x] } } : Dev).acceptRec c)))) ∧
    (s.dev.die = true → s.dev.flt.running = true → exec .collectorStart s = .next (s.after s.dev)) ∧
    (s.dev.die = true → s.dev.flt.running = false → s.dev.flt.butreLost = 0 →
      ∃ t, exec .collectorStart s = .next t ∧ t.pending = s.pending ∧ t.dev.flt.running = true ∧ t.dev.flt.butre = [] ∧
        t.dev.flt.seq = s.dev.flt.seq ∧ t.dev.flt.log = s.dev.flt.log ∧
        (s.dev.flt.arr = [] → t.dev.flt.inq = s.dev.flt.butre ++ s.dev.flt.inq))) ∧
  (∀ (d : Dev) (c : Coded), d.checkOn = false → c.recl = none →
    (∀ k, c.what = .fault k → d.bit F.FLT_POLICY.DEAD_HOST k.code = false) →
    let lv := (d.applied c).1
    let win := d.bit F.FLT_CTL.REACTION && decide (1 ≤ lv) && !c.what.fixed && !decide (256 ≤ d.openRecs.length) &&
      decide ((d.logged.filter (·.window)).length < 32)
    lv = 0 ∨ win = true →
    let t := d.acceptRec c
    t.flt.seq = d.flt.seq + 1 ∧ t.mode = d.mode ∧ t.clk = d.clk ∧
    (∀ j, j ≠ d.logSlot → t.flt.log.get none j = d.flt.log.get none j) ∧
    ∃ r, t.flt.log.get none d.logSlot = some r ∧ r.seq = d.flt.seq ∧ r.c = { c with dual := false } ∧ r.level = lv ∧
      r.reported = d.reported c ∧ r.escalated = (d.applied c).2 ∧ r.mode = d.mode.code ∧ r.ftc = d.clk.ftc ∧ r.window = win ∧
      r.compat = win ∧ r.acked = decide (lv = 0)) ∧
  (∀ d : Dev, Tab.wf none d.flt.log = true → (∀ k r, d.flt.log.get none k = some r → k < d.flt.log.length) →
    d.openRecs.length < 2048 → ∀ r, d.flt.log.get none d.logSlot = some r → r.open_ = false)

/-- O52 (R40, R499, R500, R501, R503, R509, R510, R641, R496, R497, R502). The level before escalation is the higher of
the named one and the policy's; an event has 0. A record at L1 or above escalates by one exactly when an
unacknowledged one of its class is held for its escalation domain, its kind is not fixed, and the ceiling of its
domain type allows it; a tile fence that would leave no tile is applied at L3. The action of L1 on a cell or slice
ways notes the fence and enters Degraded; the action of L2 fences the tile, unless it is the last, which enters
Bring-up; L3 enters Bring-up with cause 0x6, or 0x7 for the watchdog. A fenced tile reads as fenced. The end of a
record's window without acknowledgement closes it, counts it and starts its action; with no such window nothing
happens. The wire checker takes samples in Bring-up and Factory Test only, and not of a fenced tile. The first of
two samples with equal levels is noted, the second logs FK_WIRE with cause 0x1 once, unequal levels end the run; a
sample that leaves the rest of a pair signals (the model's choice, log entry 30): it waits for its record or meets
one. tWIRE logs cause 0x2 for a signal without a record, and 0x3 for a record without a signal. FK_WIRE is at L2 for
a tile's pair and at L3 for a device unit's. The end of TILE_REINIT ends the tile's fence where the self-test
passes, and logs FK_TILE_SELFTEST where it fails. -/
def Obligations.FaultLevelsAndEdges : Prop :=
  (∀ (d : Dev) (c : Coded) (r : Rec) (t : Nat),
    (∀ e, c.what = .event e → d.applied c = (0, false)) ∧
    (∀ k, c.what = .fault k →
      let l := max (c.level.getD 0) (d.policyLevel k)
      d.reported c = l ∧
      ((d.applied c).2 = true ↔ 1 ≤ l ∧ k.fixed = false ∧ l < c.dom.top ∧
        ∃ x ∈ d.logged, x.acked = false ∧ 1 ≤ x.level ∧ x.c.what.cls = k.cls ∧ x.c.escDom = c.escDom) ∧
      (d.applied c).1 =
        (let m := if (d.applied c).2 then l + 1 else l
         if m = 2 ∧ ∃ u, c.tile = some u ∧ d.lastTile c.what u = true then 3 else m)) ∧
    (r.dead = false →
      (r.level = 0 → d.action r = d) ∧
      (r.level = 1 → r.c.dom = .cell ∨ r.c.dom = .sliceWays → d.flt.fences.contains (r.c.dom, r.c.idx) = false →
        d.action r = (({ d.count (cDev 10) with
          flt := { d.flt with fences := d.flt.fences ++ [(r.c.dom, r.c.idx)] } } : Dev)).degrade) ∧
      (r.level = 2 → r.c.tile = some t → d.lastTile r.c.what t = false → d.action r = (d.count (cDev 10)).tileFence t) ∧
      (r.level = 2 → r.c.tile = some t → d.lastTile r.c.what t = true → r.c.what ≠ .fault .fwWatchdog →
        d.action r = (d.count (cDev 10)).enterBringUp 6 (some r.seq)) ∧
      (r.level = 3 → r.c.what ≠ .fault .fwWatchdog → d.action r = (d.count (cDev 10)).enterBringUp 6 (some r.seq)) ∧
      (r.level = 3 → r.c.what = .fault .fwWatchdog → d.action r = (d.count (cDev 10)).enterBringUp 7)) ∧
    (t < 8 → (d.tileFence t).tileFenced t = true ∧ (d.tileFenced t = true → d.tileFence t = d)) ∧
    (d.degrade.mode = if d.mode = .service then .degraded else d.mode)) ∧
  (∀ (s : State) (q : BitVec 40) (pr : Fin 135) (a b : Bool) (t : Tile) (o : BgOp),
    let d := s.dev
    let p := pr.val
    let on := d.checkOn && !d.pairMuted p
    (d.die = true →
      (d.logged.find? (fun r => decide (r.seq = q) && r.window) = none → exec (.compatWindowExpiry q) s = .next (s.after d)) ∧
      (∀ r, d.logged.find? (fun r => decide (r.seq = q) && r.window) = some r → exec (.compatWindowExpiry q) s =
        .next (s.after (((d.mapRec q fun x => { x with window := false }).count (cDev 9)).action { r with window := false })))) ∧
    (d.checkOn = true → d.mode = .bringUp ∨ d.mode = .factory) ∧
    (on = false → exec (.wirePairSample pr a b) s = .next (s.after d) ∧ exec (.wireTimeout pr) s = .next (s.after d)) ∧
    (on = true → d.flt.injWire = [] →
      (d.flt.wireEq.filter (· == p) = [] → exec (.wirePairSample pr a a) s =
        .next (s.after { d with flt := { d.flt with wireEq := p :: d.flt.wireEq } })) ∧
      (d.flt.wireEq.filter (· == p) = [p] → exec (.wirePairSample pr a a) s =
        .next (s.after (({ d with flt := { d.flt with wireEq := p :: d.flt.wireEq } } : Dev).wireFault p 1))) ∧
      (d.flt.wireEq.filter (· == p) = [p, p] → exec (.wirePairSample pr a a) s = .next (s.after d)) ∧
      exec (.wirePairSample pr false true) s =
        .next (s.after { d with flt := { d.flt with
          wireEq := d.flt.wireEq.filter (· != p), wireHigh := d.flt.wireHigh.filter (· != p) } }) ∧
      (d.flt.wireHigh.contains p = true → exec (.wirePairSample pr true false) s =
        .next (s.after { d with flt := { d.flt with wireEq := d.flt.wireEq.filter (· != p) } })) ∧
      (d.flt.wireHigh.contains p = false → d.flt.wireRec.contains p = true →
        exec (.wirePairSample pr true false) s = .next (s.after { d with flt := { d.flt with
          wireEq := d.flt.wireEq.filter (· != p), wireHigh := p :: d.flt.wireHigh, wireRec := d.flt.wireRec.erase p } })) ∧
      (d.flt.wireHigh.contains p = false → d.flt.wireRec.contains p = false → d.flt.wireSig.contains p = false →
        exec (.wirePairSample pr true false) s = .next (s.after { d with flt := { d.flt with
          wireEq := d.flt.wireEq.filter (· != p), wireHigh := p :: d.flt.wireHigh, wireSig := d.flt.wireSig ++ [p] } }))) ∧
    (on = true →
      (d.flt.wireSig.contains p = true → exec (.wireTimeout pr) s =
        .next (s.after (({ d with flt := { d.flt with wireSig := d.flt.wireSig.erase p } } : Dev).wireFault p 2))) ∧
      (d.flt.wireSig.contains p = false → d.flt.wireRec.contains p = true → exec (.wireTimeout pr) s =
        .next (s.after (({ d with flt := { d.flt with wireRec := d.flt.wireRec.erase p } } : Dev).wireFault p 3))) ∧
      (d.flt.wireSig.contains p = false → d.flt.wireRec.contains p = false → exec (.wireTimeout pr) s = .next (s.after d))) ∧
    (d.flt.running = true → ∃ c, d.wireFault p 1 = { d with flt := { d.flt with arr := d.flt.arr ++ [c] } } ∧
      c.what = .fault .wire ∧ c.addr.toNat = p + 256 ∧ c.unit = 0xF11 ∧
      (p < 128 → c.level = some 2 ∧ c.dom = .tile ∧ c.idx = p / 16) ∧ (128 ≤ p → c.level = some 3 ∧ c.dom = .device)) ∧
    (d.die = true →
      (d.bgFind 0xC805 t.val = none → ∀ ok, exec (.tileReinitComplete t ok) s = .next (s.after d)) ∧
      (d.bgFind 0xC805 t.val = some o → exec (.tileReinitComplete t false) s = .next (s.after
        ((d.raise .tileSelftest (uTile t.val 0x17) t.val t.val).bgDone 0xC805 t.val .stateMismatch []))) ∧
      (d.bgFind 0xC805 t.val = some o → ∃ u, exec (.tileReinitComplete t true) s = .next u ∧ u.pending = s.pending ∧
        u.dev.tileFenced t.val = false ∧ u.dev.flt.reinit.getLsbD t.val = true ∧ u.dev.mode = d.mode)))

/-- O53 (R499, R502, R504, R505, R516, R518, R519). Each accepted request with a payload its layout allows. FAULT_READ
answers up to n logged records from a sequence on, or of these the unacknowledged ones at L1 or above, in increasing
sequence, with the oldest and the next sequence. FAULT_ACK of one record acknowledges it and closes its window, with
APPLY starting its action; of none it is STATE_MISMATCH. FAULT_POLICY_SET writes the entry of a kind that is not
fixed, at a level its domain allows, and stages it. REACTION_MODE_SET writes FLT_CTL. FENCE_RELEASE releases a fence
that no open record holds; otherwise it is STATE_MISMATCH. TILE_REINIT in Quiesce of a fenced tile whose records are
acknowledged starts. FAULT_STATUS answers the registers. -/
def Obligations.FaultCommands : Prop :=
  (∀ (s : State) (r : FoernReq) (n v : Nat) (x : Rec) (l : List Rec),
    let pay := r.raw.drop 8
    let d := s.dev.taken r.via
    let sel (op n : Nat) : Prop := (hdrOf op r.raw).sel = BitVec.ofNat 16 n
    (s.dev.accepts r (fltReadCmd 0xC800) = true → pay.length = 12 → le pay 8 2 = n → 1 ≤ n → n ≤ 120 → le pay 10 1 = v → v ≤ 1 →
      le pay 11 1 = 0 → d.bySeq = x :: l →
      exec (.faultRead r) s = .next (s.okay r 0xC800 d
        (let got := ((d.bySeq.filter fun y => decide (le pay 0 8 ≤ y.seq.toNat)).filter fun y => v == 0 || y.open_).take n
         bytes 2 got.length ++ bytes 2 0 ++ bytes 8 x.seq.toNat ++ bytes 8 d.flt.seq.toNat ++ got.flatMap Rec.bytes))) ∧
    (s.dev.accepts r (fltCmd 0xC801) = true → pay.length = 12 → le pay 8 1 = v → v ≤ 1 → le pay 9 3 = 0 →
      let named := d.bySeq.filter fun y => y.open_ && y.seq.toNat == le pay 0 8
      (named = [] → exec (.faultAck r) s = .next (s.declined r 0xC801 .stateMismatch)) ∧
      (named = [x] → exec (.faultAck r) s = .next (s.okay r 0xC801 (d.ackRec x (v == 1)) (bytes 4 1)))) ∧
    (s.dev.accepts r (fltCmd 0xC801) = true → pay.length = 12 → le pay 8 1 = 2 → le pay 9 3 = 0 →
      let named := d.bySeq.filter fun y => y.open_ && decide (y.seq.toNat ≤ le pay 0 8)
      exec (.faultAck r) s = .next (s.okay r 0xC801 (named.foldl (fun e y => e.ackRec y false) d) (bytes 4 named.length))) ∧
    (∀ k : Kind, s.dev.accepts r (fltCmd 0xC802) = true → sel 0xC802 n → Kind.ofCode n = some k → n < 256 → pay.length = 4 →
      le pay 0 4 = v → v < 16 →
      (k.fixed = false → k.dom.levels.contains (v % 4) = true → v.testBit 2 = false ∨ k.dom = .port →
        exec (.faultPolicySet r) s = .next (s.okay r 0xC802 (d.putWord .FLT_POLICY k.code v) []
          ((d.putWord .FLT_POLICY k.code v).stageNow (0x8000 + k.code) [0]))) ∧
      (k.fixed = true ∨ k.dom.levels.contains (v % 4) = false ∨ (v.testBit 2 = true ∧ k.dom ≠ .port) →
        exec (.faultPolicySet r) s = .next (s.declined r 0xC802 .invalidParam))) ∧
    (s.dev.accepts r (fltCmd 0xC803) = true → pay.length = 4 → le pay 0 1 = v → v ≤ 1 → le pay 1 1 = 0 → le pay 2 2 = n →
      1 ≤ n → n ≤ 10000 →
      let e := (d.put F.FLT_CTL.REACTION 0 v).put F.FLT_CTL.WINDOW 0 n
      exec (.reactionModeSet r) s = .next (s.okay r 0xC803 e [] (e.stageNow 0x20 [0]))) ∧
    (∀ t : DomType, s.dev.accepts r (fltCmd 0xC804) = true → sel 0xC804 n → n < 65536 → pay.length = 4 → le pay 1 3 = 0 →
      (t = .port ∧ n < 64 ∧ le pay 0 1 = 1) ∨ (t = .instance_ ∧ n < 1024 ∧ le pay 0 1 = 5) ∨ (t = .bay ∧ n < 32 ∧ le pay 0 1 = 7) →
      (d.flt.fences.contains (t, n) = true → d.heldFor t n = false → t ≠ .instance_ ∨ d.get F.INS.STATE n ≠ 3 →
        exec (.fenceRelease r) s = .next (s.okay r 0xC804 (d.releaseFence t n))) ∧
      (d.flt.fences.contains (t, n) = false ∨ d.heldFor t n = true →
        exec (.fenceRelease r) s = .next (s.declined r 0xC804 .stateMismatch))) ∧
    (s.dev.accepts r { fltCmd 0xC805 with modes := fun m => m = .quiesce } = true → sel 0xC805 n → n < 8 → pay = [] →
      (d.tileFenced n = true → (∀ y ∈ d.openRecs, y.level < 2 ∨ y.c.tile ≠ some n) → d.bgFind 0xC805 n = none →
        d.bgRoom r.via = true → exec (.tileReinit r) s = .next (s.begun r 0xC805 n d)) ∧
      (d.tileFenced n = false → exec (.tileReinit r) s = .next (s.declined r 0xC805 .stateMismatch))) ∧
    (s.dev.accepts r (fltReadCmd 0xC806) = true → pay = [] →
      exec (.faultStatus r) s = .next (s.okay r 0xC806 d (bytes 4 d.fltStatus ++ bytes 4 (d.get F.FLT_FENCE_TILE.TILES) ++
        bytes 4 d.fltWire ++ bytes 4 (d.get F.FLT_LOST.LOST) ++ bytes 8 (d.fenceMask .port) ++ bytes 4 (d.fenceMask .bay) ++
        bytes 2 (d.flt.fences.filter fun x => x.1 == .instance_).length ++ bytes 2 0)))) ∧
  (∀ (d : Dev) (x : Rec),
    d.bySeq.Perm d.logged ∧ d.bySeq.Pairwise (fun a b => a.seq.toNat ≤ b.seq.toNat) ∧
    (x.window = true → d.flt.holdL3 ≠ some x.seq → x.c.dom = .port ∨ x.c.dom = .tile ∨ x.c.dom = .device →
      d.ackRec x false = (d.mapRec x.seq fun y => { y with acked := true, window := false }).count (cDev 8)) ∧
    (∀ y ∈ (d.mapRec x.seq fun y => { y with acked := true, window := false }).logged,
      y.seq = x.seq → y.acked = true ∧ y.window = false))

/-- O54 (R468, R470, R471, R472, R473, R474, R475, R476, R477). With the fabric die on. With TX_EN clear a block time
does nothing. Due ALIGN blocks go first, and the last one sets TX_READY; with no burst ready an idle block goes;
without credit an idle block, counted. With credit a due HEAD goes, and one that continues a burst after a pause,
else the next 60 bytes of the open burst, its last block closing it; each takes a credit and is counted. With no
burst open the first ready stream of 2, 3, 5, 4, 1 starts one. A burst of stream 2 or 3 takes at most 126 or 168
records of 32 or 24 bytes, with the next sequence of its stream. A transition returns a credit while TX_READY; the
flush timer closes a stream's burst; an abandoned burst's records return to their queues; starved of credit for
tCAR_RESYNC, or by RESYNC, the output aligns anew. -/
def Obligations.CaravanOutput : Prop :=
  (∀ (s : State) (paused : Bool) (b : OutBurst) (n k : Nat) (f : Fin 3), s.dev.die = true →
    let d := s.dev
    let cr := d.get F.CAR_STATUS.TX_CREDIT
    let sent (x : Dev) (blk : CarBlk) : Dev :=
      let e := (x.put F.CAR_STATUS.TX_CREDIT 0 (cr - 1)).count (cDev 11)
      { e with car := { e.car with tx := CarBlk.bytes blk } }
    (d.bit F.CAR_CFG.TX_EN = false → exec (.caravanBlockSend paused) s = .next (s.after d)) ∧
    (d.bit F.CAR_CFG.TX_EN = true → d.car.align = n + 2 →
      exec (.caravanBlockSend paused) s = .next (s.after { d with car := { d.car with align := n + 1, tx := CarBlk.bytes .align } })) ∧
    (d.bit F.CAR_CFG.TX_EN = true → d.car.align = 1 → exec (.caravanBlockSend paused) s =
      .next (s.after { d.set F.CAR_STATUS.TX_READY with car := { d.car with align := 0, tx := CarBlk.bytes .align } })) ∧
    (d.bit F.CAR_CFG.TX_EN = true → d.car.align = 0 →
      (d.car.cur = none → d.carNext = none →
        exec (.caravanBlockSend paused) s = .next (s.after { d with car := { d.car with tx := CarBlk.bytes .idle } })) ∧
      (d.car.cur ≠ none ∨ d.carNext ≠ none → cr = 0 → exec (.caravanBlockSend paused) s =
        .next (s.after (({ d with car := { d.car with tx := CarBlk.bytes .idle } } : Dev).count (cDev 17)))) ∧
      (cr ≠ 0 → d.car.cur = some b → b.headDue = true ∨ (paused = true ∧ b.head.cont = true) →
        exec (.caravanBlockSend paused) s = .next (s.after (sent
        { d with car := { d.car with cur := some { b with head := { b.head with cont := true }, headDue := false } } }
        (.head { b.head with off := BitVec.ofNat 32 b.sent })))) ∧
      (cr ≠ 0 → d.car.cur = some b → b.headDue = false → paused = false ∨ b.head.cont = false → b.sent + 60 < b.bytes.length →
        exec (.caravanBlockSend paused) s = .next (s.after (sent
          { d with car := { d.car with cur := some { b with sent := b.sent + 60 } } } (.data ((b.bytes.drop b.sent).take 60))))) ∧
      (cr ≠ 0 → d.car.cur = some b → b.headDue = false → paused = false ∨ b.head.cont = false → b.sent ≤ b.bytes.length →
        b.bytes.length ≤ b.sent + 60 → exec (.caravanBlockSend paused) s = .next (s.after (sent
          (({ d with car := { d.car with cur := none } } : Dev).telFree b.tels) (.data (b.bytes.drop b.sent))))) ∧
      (cr ≠ 0 → d.car.cur = none → d.carNext = some k →
        exec (.caravanBlockSend paused) s = .next (s.after ((d.carStart k).carSend false)))) ∧
    (d.bit F.CAR_STATUS.TX_READY = true → cr < 2 ^ F.CAR_STATUS.TX_CREDIT.w - 1 →
      exec .caravanCreditTransition s = .next (s.after (d.put F.CAR_STATUS.TX_CREDIT 0 (cr + 1)))) ∧
    (d.bit F.CAR_STATUS.TX_READY = false → exec .caravanCreditTransition s = .next (s.after d)) ∧
    (f.val = 1 → d.flt.faultQ ≠ [] → d.car.flush.contains 2 = false →
      exec (.caravanFlushTimeout f) s = .next (s.after { d with car := { d.car with flush := 2 :: d.car.flush } })) ∧
    (f.val = 1 → d.flt.faultQ = [] → exec (.caravanFlushTimeout f) s = .next (s.after d)) ∧
    (d.car.cur = none → exec .caravanOutputAbandon s = .next (s.after d)) ∧
    (d.car.cur = some b → b.head.stream.toNat ≠ 4 → ∃ t, exec .caravanOutputAbandon s = .next t ∧ t.pending = s.pending ∧
      t.dev.car.cur = none ∧ t.dev.flt.faultQ = b.faults ++ d.flt.faultQ ∧ t.dev.flt.reclQ = b.recls ++ d.flt.reclQ ∧
      t.dev.bit F.CAR_ERR.ABANDON = true ∧ t.dev.car.seqs = d.car.seqs) ∧
    (d.bit F.CAR_STATUS.TX_READY = true → cr = 0 → d.car.cur ≠ none ∨ d.carNext ≠ none →
      exec .caravanResyncTimeout s = .next (s.after (d.carAlign.set F.CAR_ERR.TX_RESYNC))) ∧
    (d.bit F.CAR_STATUS.TX_READY = false ∨ cr ≠ 0 → exec .caravanResyncTimeout s = .next (s.after d)) ∧
    (d.bit F.CAR_CFG.TX_EN = true → exec .carCtlResync s = .next (s.after d.carAlign)) ∧
    (d.bit F.CAR_CFG.TX_EN = false → exec .carCtlResync s = .next (s.after d))) ∧
  (∀ d : Dev, d.carAlign.car.align = 64 ∧ d.carAlign.get F.CAR_STATUS.TX_CREDIT = 0 ∧ d.carAlign.bit F.CAR_STATUS.TX_READY = false ∧
    (∀ k, d.carNext = some k → d.carReady k = true ∧ (d.carReady 2 = true → k = 2) ∧
      (d.carReady 3 = true → k = 2 ∨ k = 3) ∧ (k = 1 → ∀ j ∈ [2, 3, 4, 5], d.carReady j = false)) ∧
    (∃ b, (d.carStart 2).car.cur = some b ∧ b.faults = d.flt.faultQ.take 126 ∧ b.bytes.length = 32 * (d.flt.faultQ.take 126).length ∧
      b.head.total.toNat = b.bytes.length ∧ b.head.stream = 2 ∧ b.head.seq = BitVec.ofNat 32 (d.car.seqs.get 0 2) ∧
      b.headDue = true ∧ b.sent = 0 ∧ b.head.ftc = d.clk.ftc ∧ b.head.crc = crc32 b.bytes) ∧
    (d.carStart 2).flt.faultQ = d.flt.faultQ.drop 126 ∧
    (d.carStart 2).car.seqs.get 0 2 = (d.car.seqs.get 0 2 + 1) % 2 ^ 32 ∧
    (∃ b, (d.carStart 3).car.cur = some b ∧ b.recls = d.flt.reclQ.take 168 ∧ b.bytes.length = 24 * (d.flt.reclQ.take 168).length ∧
      b.head.seq = BitVec.ofNat 32 (d.car.seqs.get 0 3)) ∧
    (d.carStart 3).flt.reclQ = d.flt.reclQ.drop 168)

/-- O55 (R469, R471, R478, R479, R480, R481, R483, R487). With RX_EN or RX_LOCK clear, HEAD, DATA and bad blocks do
nothing. With no free block a block is dropped, logged with cause 1, and the open burst is broken. A HEAD that opens
a burst of an input stream opens it in place of an open one, which is abandoned with cause 2; one that continues the
open burst ends its stall; any other is logged with cause 4 and the DATA after it is dropped. DATA is appended to an
open burst that is neither stalled nor broken; at its length the CRC-32 is checked: a good blob is held by its
stream, a good image goes to its verification, a bad one is logged with cause 3. A bad block is logged with cause 1,
and the fourth in a row drops the lock with cause 2. The lock, the end of ALIGN, tSTALL and tABANDON act as stated. -/
def Obligations.CaravanInput : Prop :=
  ∀ (s : State) (hb : BitVec 256) (x : List (BitVec 8)) (free : Fin 129) (lost : Bool) (b : InBurst) (k n : Nat) (y : Xfer),
    s.dev.die = true → 0 < x.length → x.length ≤ 60 →
    let d := s.dev
    let h := headOf hb
    let on := d.bit F.CAR_CFG.RX_EN && d.bit F.CAR_STATUS.RX_LOCK
    let e := d.put F.CAR_STATUS.RX_FREE 0 (free.val - 1)
    let opened : InBurst := { head := h, bytes := [], stalled := false, broken := false }
    let more : InBurst := { b with bytes := b.bytes ++ x }
    let id := ((d.car.rx.map fun b => (b.head.stream.toNat, b.head.seq.toNat))).getD (0, 0)
    (on = false → exec (.caravanHeadReceive hb free) s = .next (s.after d) ∧
      exec (.caravanDataReceive x free) s = .next (s.after d) ∧ exec (.caravanBadBlock lost) s = .next (s.after d) ∧
      exec .caravanAlignEnd s = .next (s.after d)) ∧
    (on = true → free.val = 0 →
      let z := ((d.put F.CAR_STATUS.RX_FREE 0 0).carFault .carOverrun F.CAR_ERR.OVERRUN id.1 1 id.2).rxBreak
      exec (.caravanHeadReceive hb free) s = .next (s.after z) ∧ exec (.caravanDataReceive x free) s = .next (s.after z)) ∧
    (on = true → free.val ≠ 0 →
      (d.carOpens h = true → d.car.rx = none → exec (.caravanHeadReceive hb free) s = .next (s.after
        (({ e with car := { e.car with rx := some opened, skip := false } } : Dev).count (cDev 12)))) ∧
      (d.carOpens h = true → d.car.rx = some b → b.head.stream ≠ 0x81 →
        ∃ t, exec (.caravanHeadReceive hb free) s = .next t ∧ t.pending = s.pending ∧ t.dev.car.rx = some opened ∧
          t.dev.bit F.CAR_ERR.ABANDON = true ∧ t.dev.car.held = d.car.held) ∧
      (h.cont = true → d.car.rx = some b → carContinues b h = true → exec (.caravanHeadReceive hb free) s = .next (s.after
        ((({ e with car := { e.car with rx := some { b with stalled := false, broken := false }, skip := false } } : Dev).count
          (cDev 12)).count (cDev 16)))) ∧
      ((h.cont = false ∧ d.carOpens h = false) ∨ (h.cont = true ∧ d.car.rx = none) →
        exec (.caravanHeadReceive hb free) s = .next (s.after (({ e with car := { e.car with skip := true } } : Dev).carFault .carFrame
          F.CAR_ERR.FRAME h.stream.toNat 4 h.seq.toNat))) ∧
      (d.car.rx = none ∨ (d.car.rx = some b ∧ (b.stalled || b.broken || d.car.skip) = true) →
        exec (.caravanDataReceive x free) s = .next (s.after (e.count (cDev 14)))) ∧
      (d.car.rx = some b → (b.stalled || b.broken || d.car.skip) = false →
        let c := ({ e with car := { e.car with rx := some more } } : Dev).count (cDev 12)
        (more.bytes.length < b.head.total.toNat → exec (.caravanDataReceive x free) s = .next (s.after c)) ∧
        (b.head.total.toNat ≤ more.bytes.length → crc32 more.bytes ≠ b.head.crc → exec (.caravanDataReceive x free) s =
          .next (s.after (({ c with car := { c.car with rx := none } } : Dev).carFault .carFrame F.CAR_ERR.FRAME
            b.head.stream.toNat 3 b.head.seq.toNat))) ∧
        (b.head.total.toNat ≤ more.bytes.length → crc32 more.bytes = b.head.crc →
          (b.head.stream.toNat = 0x90 + k → d.car.held.get none k = none → exec (.caravanDataReceive x free) s =
            .next (s.after { c with car := { c.car with rx := none, held := c.car.held.put none k (some more.bytes) } })) ∧
          (b.head.stream = 0x81 → d.mgt.xfer = some y → exec (.caravanDataReceive x free) s = .next (s.after
            { c with
              car := { c.car with rx := none, armed := false }
              mgt := { c.mgt with xfer := some { y with total := more.bytes.length, got := more.bytes.length,
                                                        verifying := true } } }))))) ∧
    (on = true →
      let z := (d.count (cDev 13)).carFault .carFrame F.CAR_ERR.FRAME id.1 1 id.2
      exec (.caravanBadBlock false) s = .next (s.after z) ∧
      exec (.caravanBadBlock true) s =
        .next (s.after ((z.put F.CAR_STATUS.RX_LOCK 0 0).carFault .carFrame F.CAR_ERR.FRAME id.1 2 id.2).rxBreak) ∧
      exec .caravanAlignEnd s = .next (s.after (d.put F.CAR_STATUS.RX_FREE 0 128))) ∧
    (exec .caravanRxLock s = .next (s.after (if d.bit F.CAR_CFG.RX_EN then d.set F.CAR_STATUS.RX_LOCK else d))) ∧
    (d.car.rx = none → exec .caravanStallTimeout s = .next (s.after d) ∧ exec .caravanAbandonTimeout s = .next (s.after d)) ∧
    (d.car.rx = some b → b.stalled = false → exec .caravanStallTimeout s = .next (s.after
      (({ d with car := { d.car with rx := some { b with stalled := true } } } : Dev).count (cDev 15)))) ∧
    (d.car.rx = some b →
      let z := ({ d with car := { d.car with rx := none } } : Dev).carFault .carAbandon F.CAR_ERR.ABANDON b.head.stream.toNat 1
        b.head.seq.toNat
      exec .caravanAbandonTimeout s = .next (s.after (if b.head.stream = 0x81 then z.xferDrop else z))) ∧
    (h.cont = false → h.version = 1 → h.stream.toNat = 0x90 + n → n < 16 →
      (d.carOpens h = true ↔ 368 ≤ h.total.toNat ∧ h.total.toNat ≤ 1392))

/-- O56 (R471, R476, R481, R482, R486, R487). Each accepted request with a payload its layout allows. CARAVAN_CONFIG
with times of which tABANDON is greater than tSTALL writes CAR_CFG and stages it; clearing TX_EN abandons the open
burst and takes the credits, clearing RX_EN abandons the open input burst and drops the lock; setting TX_EN starts
an ALIGN sequence. CARAVAN_STATUS answers the registers and the blobs held, and clears the error bits named.
CARAVAN_FW_RECEIVE with no transfer open arms stream 0x81 and starts the erase of the slot that does not run; with
one open it is BUSY_BACKGROUND. -/
def Obligations.CaravanCommands : Prop :=
  (∀ (s : State) (r : FoernReq) (v : Nat) (slot : Fin 2),
    let pay := r.raw.drop 8
    let d := s.dev.taken r.via
    (s.dev.accepts r (fmCmd 0xCB00) = true → pay.length = 8 → le pay 0 4 = v → v < 2 ^ 27 → le pay 5 3 = 0 →
      (carTimesOk v = true → le pay 4 1 = 0 → exec (.caravanConfig r) s = .next (s.okay r 0xCB00 (d.carConfig v) [] [⟨0x80, 0, v⟩])) ∧
      (carTimesOk v = true → le pay 4 1 = 1 →
        exec (.caravanConfig r) s = .next (s.okay r 0xCB00 (d.carConfig v).carResync [] [⟨0x80, 0, v⟩])) ∧
      (carTimesOk v = false → exec (.caravanConfig r) s = .next (s.declined r 0xCB00 .invalidParam))) ∧
    (s.dev.accepts r { opcode := 0xCB01, may := fun p pay _ => fmOnly p || (p = .monitor && le pay 0 4 = 0), modes := liveModes } = true →
      pay.length = 4 → le pay 0 4 = v → v < 32 →
      exec (.caravanStatus r) s = .next (s.okay r 0xCB01 (d.putWord .CAR_ERR 0 (clearMask (d.word .CAR_ERR) v))
        (bytes 4 (d.view .CAR_CFG) ++ bytes 4 (d.view .CAR_STATUS) ++ bytes 4 (d.word .CAR_ERR) ++ bytes 4 (d.view .CAR_RX_BURST) ++
          bytes 4 (d.view .CAR_RX_SEQ) ++ bytes 4 (d.view .CAR_RX_OFF) ++ bytes 4 (d.view .CAR_OUTQ) ++
          bytes 2 ((List.range 16).foldl (fun a k => if (d.car.held.get none k).isSome then a + 2 ^ k else a) 0) ++ bytes 2 0))) ∧
    (s.dev.accepts r (fmCmd 0xCB02) = true → pay = [] →
      (d.mgt.xfer ≠ none → exec (.caravanFwReceive r) s = .next (s.declined r 0xCB02 .busyBackground)) ∧
      (d.mgt.xfer = none → d.get F.MGT_FW_STATUS.STATE ≠ 4 → d.get F.MGT_FW_STATUS.SLOT = 1 - slot.val → d.bgRoom r.via = true →
        let e := d.xferOpen (d.origin r.via) slot 0 true
        exec (.caravanFwReceive r) s = .next (s.begun r 0xCB02 0 { e with car := { e.car with armed := true } })))) ∧
  (∀ (d : Dev) (v : Nat),
    (d.bit F.CAR_CFG.TX_EN = true → v.testBit 0 = false → (d.carConfig v).car.cur = none ∧
      (d.carConfig v).get F.CAR_STATUS.TX_CREDIT = 0 ∧ (d.carConfig v).car.align = 0) ∧
    (d.bit F.CAR_CFG.TX_EN = false → v.testBit 0 = true → (d.carConfig v).car.align = 64) ∧
    (d.bit F.CAR_CFG.RX_EN = true → v.testBit 1 = false → (d.carConfig v).car.rx = none ∧
      (d.carConfig v).bit F.CAR_STATUS.RX_LOCK = false))

/-- O57 (R550, R551, R552, R553, R554, R562, R563, R564, R569). Presence confirmed on a bay without it, not enabled,
sets its bits, and is an event, counted and a wake; on an enabled OFF bay with AUTO_ON the bay comes to WAIT.
Presence lost turns an unfenced bay OFF, drops its port's link, and is an event. A change of ALERT# is an event, and
a fall is counted and wakes. The lowest waiting bay whose feed is good and has a free slot enters PRECHARGE. The
precharge done leads to RAMP, the gate full on to QUALIFY, with tPGQ running unless the limit is exceeded; tPGQ
unbroken to ON with PG. PERST# is released while PG holds and no pulse runs. The precharge and the ramp that take
too long trip. Out of its state none of these does anything. -/
def Obligations.BayPowerOn : Prop :=
  ∀ (s : State) (b : Bay) (low : Bool) (isns vout : Fin 1024) (k : Nat) (f : Bool),
    let d := s.dev
    let n := b.val
    let st := d.baySt n
    let rt := d.bayRt n
    let here := (d.set F.BAY_STATUS.PRSNT n).put F.BAY_PRSNT_ALL.PRSNT 0 (d.get F.BAY_PRSNT_ALL.PRSNT ||| 2 ^ n)
    let gone := (d.put F.BAY_STATUS.PRSNT n 0).put F.BAY_PRSNT_ALL.PRSNT 0 (d.get F.BAY_PRSNT_ALL.PRSNT - 2 ^ n)
    let left := ((gone.bayEvent n .bayPresence 1).count (cBay n 7))
    let low0 := (d.put F.BAY_STATUS.ALERT n 1).put F.BAY_ALERT_ALL.ALERT 0 (d.get F.BAY_ALERT_ALL.ALERT ||| 2 ^ n)
    let high0 := (d.put F.BAY_STATUS.ALERT n 0).put F.BAY_ALERT_ALL.ALERT 0 (d.get F.BAY_ALERT_ALL.ALERT - 2 ^ n)
    (d.bit F.BAY_STATUS.PRSNT n = true → exec (.presenceConfirm b) s = .next (s.after d)) ∧
    (d.bit F.BAY_STATUS.PRSNT n = false → d.bit F.BAY_CFG.EN n = false → exec (.presenceConfirm b) s =
      .next (s.after (((here.bayEvent n .bayPresence 0).count (cBay n 7)).wakeBay F.PWR_WAKE_EN.BAY_PRSNT n))) ∧
    (d.bit F.BAY_STATUS.PRSNT n = false → d.bit F.BAY_CFG.EN n = true → d.bit F.BAY_CFG.AUTO_ON n = true → st = 0 →
      ∃ t, exec (.presenceConfirm b) s = .next t ∧ t.pending = s.pending ∧ t.dev.baySt n = 1 ∧
        t.dev.bit F.BAY_CTL.ON_REQ n = true ∧ t.dev.bit F.BAY_STATUS.PRSNT n = true) ∧
    (d.bit F.BAY_STATUS.PRSNT n = false → exec (.presenceLoss b) s = .next (s.after d)) ∧
    (d.bit F.BAY_STATUS.PRSNT n = true → st ≠ 9 → left.bayPort n = none ∨ left.die = false → exec (.presenceLoss b) s =
      .next (s.after (((left.bayOff n false).put F.BAY_CTL.ON_REQ n 0).wakeBay F.PWR_WAKE_EN.BAY_PRSNT n))) ∧
    (d.bit F.BAY_STATUS.PRSNT n = true → st ≠ 9 → left.bayPort n = some k → left.die = true → exec (.presenceLoss b) s =
      .next (s.after ((((left.bayOff n false).put F.BAY_CTL.ON_REQ n 0).linkDown k 4).wakeBay F.PWR_WAKE_EN.BAY_PRSNT n))) ∧
    (d.bit F.BAY_STATUS.PRSNT n = true → st = 9 → left.bayPort n = none ∨ left.die = false → exec (.presenceLoss b) s =
      .next (s.after (left.wakeBay F.PWR_WAKE_EN.BAY_PRSNT n))) ∧
    (d.bit F.BAY_STATUS.PRSNT n = true → st = 9 → left.bayPort n = some k → left.die = true → exec (.presenceLoss b) s =
      .next (s.after ((left.linkDown k 4).wakeBay F.PWR_WAKE_EN.BAY_PRSNT n))) ∧
    ((left.bayOff n false).baySt n = 0 ∧ (left.bayOff n false).bit F.BAY_STATUS.PG n = false ∧
      (left.bayOff n false).bit F.BAY_STATUS.PERST n = true ∧ (left.bayOff n false).bayRt n = BayRt.reset) ∧
    (d.bit F.BAY_STATUS.ALERT n = low → exec (.alertChange b low) s = .next (s.after d)) ∧
    (d.bit F.BAY_STATUS.ALERT n = false → exec (.alertChange b true) s =
      .next (s.after (((low0.bayEvent n .bayAlert 0).count (cBay n 8)).wakeBay F.PWR_WAKE_EN.BAY_ALERT n))) ∧
    (d.bit F.BAY_STATUS.ALERT n = true →
      exec (.alertChange b false) s = .next (s.after (high0.bayEvent n .bayAlert 1))) ∧
    (k < 32 → d.baySt k = 1 → d.pickFeed k = some f → d.slotFree f = true →
      (∀ j < k, d.baySt j = 1 → ∀ g, d.pickFeed j = some g → d.slotFree g = false) →
      exec .prechargeSlotGrant s = .next (s.after (d.precharge k f (d.bayRt k).retry))) ∧
    ((∀ j < 32, d.baySt j = 1 → ∀ g, d.pickFeed j = some g → d.slotFree g = false) →
      exec .prechargeSlotGrant s = .next (s.after d)) ∧
    (exec (.prechargeDone b) s = .next (s.after (if st = 2 then d.setBaySt n 3 else d))) ∧
    (exec (.prechargeTimeout b isns vout) s = .next (s.after
      (if st = 2 then d.bayTrip n .bayPrechargeFail F.BAY_ERR.PRECHARGE_FAIL (some 3) isns.val vout.val else d))) ∧
    (st = 3 ∨ (st = 6 ∧ rt.direct = true) → exec (.gateRampTimeout b isns vout) s =
      .next (s.after (d.bayTrip n .bayGateStuck F.BAY_ERR.GATE_STUCK none isns.val vout.val))) ∧
    (st ≠ 3 → st ≠ 6 ∨ rt.direct = false → exec (.gateRampTimeout b isns vout) s = .next (s.after d) ∧
      exec (.gateFullOn b) s = .next (s.after d)) ∧
    (st = 3 → exec (.gateFullOn b) s =
      .next (s.after ((d.setBaySt n 4).setBayRt n { rt with qual := !d.bit F.BAY_STATUS.FLT_RUN n }))) ∧
    (st = 6 → rt.direct = true → exec (.gateFullOn b) s = .next (s.after
      ((((d.setBaySt n 5).setBayRt n { BayRt.reset with pulse := rt.pulse }).count (cBay n 6)).bayFeedCheck n))) ∧
    (st = 4 → rt.qual = true → d.bit F.BAY_STATUS.FLT_RUN n = false → exec (.pgqComplete b) s = .next (s.after
      (((((d.set F.BAY_STATUS.PG n).setBaySt n 5).setBayRt n BayRt.reset).count (cBay n 0)).bayFeedCheck n))) ∧
    (st ≠ 4 ∨ rt.qual = false ∨ d.bit F.BAY_STATUS.FLT_RUN n = true → exec (.pgqComplete b) s = .next (s.after d)) ∧
    (d.bit F.BAY_STATUS.PG n = true → st = 5 ∨ st = 6 → rt.pulse = false →
      exec (.perstRelease b) s = .next (s.after (d.put F.BAY_STATUS.PERST n 0))) ∧
    (d.bit F.BAY_STATUS.PG n = false ∨ rt.pulse = true → exec (.perstRelease b) s = .next (s.after d))

/-- O58 (R555, R556, R557, R558, R559, R560, R561, R567, R571, R573, R580). While its gate is driven, a bay's crossing
of the limit starts or stops the fault timer, and its expiry, a fast trip and an undervoltage trip the bay with
their kind, error bit and count: its gates are off, PG is 0 and PERST# asserted, and it is in TRIP, or in LOCKOUT
once its retries are used up. The retry restarts it, not while a window is open for it. tSTABLE in ON clears the
retries. A feed is good when fitted, and lost by its bays, which switch or wait, with one record. The break ends on
a good feed at RAMP, driven directly, or anew with PRECHARGE. A managed power-off turns the gates off and ends OFF;
a power cycle restarts; a pulse's end releases PERST#. Out of their states these do nothing. -/
def Obligations.BayTripsAndFeeds : Prop :=
  (∀ (s : State) (b : Bay) (up : Bool) (isns vout v : Fin 1024) (f g : Bool),
    let d := s.dev
    let n := b.val
    let st := d.baySt n
    let rt := d.bayRt n
    let on := d.armed n
    let feed := d.putFeedV f v.val
    (on = true ↔ st = 3 ∨ st = 4 ∨ st = 5 ∨ (st = 6 ∧ rt.direct = true)) ∧
    (on = true → st ≠ 4 →
      exec (.senseLimitCross b up) s = .next (s.after (d.put F.BAY_STATUS.FLT_RUN n (if up then 1 else 0)))) ∧
    (st = 4 → exec (.senseLimitCross b up) s = .next (s.after
      ((d.put F.BAY_STATUS.FLT_RUN n (if up then 1 else 0)).setBayRt n { rt with qual := !up }))) ∧
    (on = true → d.bit F.BAY_STATUS.FLT_RUN n = true → exec (.faultTimerExpiry b isns vout) s =
      .next (s.after (d.bayTrip n .bayOvercurrent F.BAY_ERR.OVERCURRENT (some 1) isns.val vout.val))) ∧
    (on = false ∨ d.bit F.BAY_STATUS.FLT_RUN n = false → exec (.faultTimerExpiry b isns vout) s = .next (s.after d)) ∧
    (on = true → exec (.fastTrip b isns vout) s =
      .next (s.after (d.bayTrip n .bayShort F.BAY_ERR.SHORT (some 2) isns.val vout.val))) ∧
    (on = false → exec (.fastTrip b isns vout) s = .next (s.after d) ∧ exec (.senseLimitCross b up) s = .next (s.after d)) ∧
    (st = 4 ∨ st = 5 → d.feedGood (d.bayFeed n) = true → d.bit F.BAY_STATUS.FLT_RUN n = false →
      exec (.bayUndervoltage b isns vout) s =
        .next (s.after (d.bayTrip n .bayUv F.BAY_ERR.UV (some 4) isns.val vout.val))) ∧
    (st ≠ 4 ∧ st ≠ 5 ∨ d.bit F.BAY_STATUS.FLT_RUN n = true → exec (.bayUndervoltage b isns vout) s = .next (s.after d)) ∧
    (st = 7 → d.bayWindow n = false → exec (.retryTimerExpiry b) s = .next (s.after
      (((d.addSat F.BAY_STATUS.RETRIES n 1).count (cBay n 5)).bayStart n true))) ∧
    (st ≠ 7 ∨ d.bayWindow n = true → exec (.retryTimerExpiry b) s = .next (s.after d)) ∧
    (exec (.onStableReset b) s = .next (s.after (if st = 5 then d.put F.BAY_STATUS.RETRIES n 0 else d))) ∧
    (feed.feedFitted f = false ∨ feed.feedGood f = true → exec (.feedGood f v) s = .next (s.after feed)) ∧
    (feed.feedFitted f = true → feed.feedGood f = false → exec (.feedGood f v) s = .next (s.after
      ((List.range 32).foldl Dev.bayFeedCheck
        (feed.set (if f then F.BAY_FEED_STATUS.B_GOOD else F.BAY_FEED_STATUS.A_GOOD))))) ∧
    (feed.feedGood f = false → exec (.feedLoss f v) s = .next (s.after feed)) ∧
    (feed.feedGood f = true → exec (.feedLoss f v) s = .next (s.after (feed.feedLost f true))) ∧
    (st = 6 → rt.direct = false → rt.toFeed = some g → d.feedGood g = true →
      let x := d.put F.BAY_STATUS.FEED_ACT n (if g then 1 else 0)
      (rt.ramp = false → exec (.bbmComplete b true) s = .next (s.after (x.setBayRt n { rt with toFeed := some g, direct := true }))) ∧
      (rt.ramp = true → exec (.bbmComplete b true) s = .next (s.after
        (((x.setBaySt n 3).setBayRt n { BayRt.reset with retry := rt.retry }).count (cBay n 6)))) ∧
      (((x.dropPg n).count (cBay n 6)).slotFree g = true → exec (.bbmComplete b false) s =
        .next (s.after (((x.dropPg n).count (cBay n 6)).precharge n g rt.retry))) ∧
      (((x.dropPg n).count (cBay n 6)).slotFree g = false → exec (.bbmComplete b false) s = .next (s.after
        ((((x.dropPg n).count (cBay n 6)).setBaySt n 1).setBayRt n { BayRt.reset with retry := rt.retry })))) ∧
    (st = 6 → rt.direct = false → d.feedGood false = false → d.feedGood true = false → exec (.bbmComplete b up) s =
      .next (s.after (((d.gatesOff n).setBaySt n 1).setBayRt n BayRt.reset))) ∧
    (st ≠ 6 ∨ rt.direct = true → exec (.bbmComplete b up) s = .next (s.after d)) ∧
    (exec (.powerOffGates b) s = .next (s.after
      (if st = 0xA then (d.gatesOff n).setBayRt n { rt with gatesOff := true } else d))) ∧
    (st = 0xA → rt.gatesOff = true →
      exec (.powerOffDone b) s = .next (s.after ((d.bayOff n rt.cycle).bayWait n))) ∧
    (st ≠ 0xA ∨ rt.gatesOff = false → exec (.powerOffDone b) s = .next (s.after d)) ∧
    (rt.cycle = true → st = 0 ∨ st = 8 → exec (.bayCycleRestart b) s = .next (s.after
      (let x := d.setBayRt n { rt with cycle := false }
       if d.bit F.BAY_CFG.EN n && d.bit F.BAY_STATUS.PRSNT n then x.bayOn n else x))) ∧
    (rt.cycle = false → exec (.bayCycleRestart b) s = .next (s.after d)) ∧
    (rt.pulse = true → d.bit F.BAY_STATUS.PG n = true → st = 5 ∨ st = 6 → exec (.perstPulseEnd b) s =
      .next (s.after ((d.setBayRt n { rt with pulse := false }).put F.BAY_STATUS.PERST n 0))) ∧
    (rt.pulse = false → exec (.perstPulseEnd b) s = .next (s.after d))) ∧
  (∀ (d : Dev) (b : Bay) (k : Kind) (bit : Fld) (c : Option Nat) (i v : Nat),
    bit ∈ [F.BAY_ERR.OVERCURRENT, F.BAY_ERR.SHORT, F.BAY_ERR.PRECHARGE_FAIL, F.BAY_ERR.GATE_STUCK, F.BAY_ERR.UV] →
    let t := d.bayTrip b.val k bit c i v
    t.baySt b.val = (if d.bayExhausted b.val then 8 else 7) ∧ t.bit F.BAY_STATUS.PG b.val = false ∧
      t.bit F.BAY_STATUS.PERST b.val = true ∧ t.get F.BAY_STATUS.FLT_RUN b.val = 0 ∧ t.bit bit b.val = true ∧
      t.bayRt b.val = BayRt.reset ∧ t.get F.BAY_MEAS.ISNS b.val = i % 1024)

/-- O59 (R445, R449, R569, R572, R579, R580). Each accepted request with a payload its layout allows. BAY_CONFIG writes
the images that its mask names and stages them. BAY_POWER on starts a bay that is enabled and present, and otherwise
is STATE_MISMATCH; off and cycle start a managed power-off; a PERST# pulse needs ON; it may set PWRDIS and the LED;
the answer is BAY_STATUS. BAY_STATUS answers six registers and clears the error bits named. BAY_FEED_SET writes the
feeds and the bus configuration. BAY_BUS_XFER to a present, powered bay answers what the device drives, 0xFF where
it drives nothing, NACK is STATE_MISMATCH, and a held clock is answered by the timeout, which frees the bus. Which
bytes a device drives is an operand (log entry 7). -/
def Obligations.BayCommands : Prop :=
  (∀ (s : State) (r : FoernReq) (n c l : Nat) (out : List (BitVec 8)), n < 32 →
    let pay := r.raw.drop 8
    let d := s.dev.taken r.via
    let sel (op : Nat) : Prop := (hdrOf op r.raw).sel = BitVec.ofNat 16 n
    let cfg (e : Dev) : Dev := if (le pay 0 4).testBit 0 then ((e.putWord .BAY_CFG n c).bayFeedCheck n).bayWait n else e
    let lim (e : Dev) : Dev := if (le pay 0 4).testBit 1 then e.putWord .BAY_LIM n l else e
    let pins (e : Dev) : Dev :=
      let e := if (le pay 1 1).testBit 0 then e.put F.BAY_CTL.PWRDIS n (le pay 1 1 / 2 % 2) else e
      if (le pay 1 1).testBit 2 then e.put F.BAY_CTL.LED n (le pay 2 1) else e
    let lose (g : Bool) (e : Dev) : Dev := if !e.feedFitted g && e.feedGood g then e.feedLost g false else e
    let feeds (e : Dev) : Dev :=
      if (le pay 0 4).testBit 0 then lose true (lose false (e.putWord .BAY_FEED_CFG 0 l)) else e
    let busCfg (e : Dev) : Dev := if (le pay 0 4).testBit 1 then e.putWord .BAY_BUS_CFG 0 c else e
    let powered (e : Dev) : Prop := exec (.bayPower r) s = .next (s.okay r 0xC981 e (bytes 4 (e.word .BAY_STATUS n)))
    (s.dev.accepts r (bayCmd 0xC980) = true → sel 0xC980 → pay.length = 12 → le pay 4 4 = c → le pay 8 4 = l →
      (le pay 0 4 < 4 → ((le pay 0 4).testBit 0 = true → bayCfgBad d c = false ∧
          (c.testBit 0 = true ∨ d.bit F.BAY_CFG.EN n = false ∨ d.baySt n = 0)) →
        ((le pay 0 4).testBit 1 = true → bayLimBad l = false) →
        exec (.bayConfig r) s = .next (s.okay r 0xC980 (lim (cfg d)) []
          ((if (le pay 0 4).testBit 0 then (lim (cfg d)).stageNow (0x9100 + 2 * n) [0] else []) ++
            (if (le pay 0 4).testBit 1 then (lim (cfg d)).stageNow (0x9101 + 2 * n) [0] else [])))) ∧
      (le pay 0 4 = 1 → bayCfgBad d c = false → c.testBit 0 = false → d.bit F.BAY_CFG.EN n = true → d.baySt n ≠ 0 →
        exec (.bayConfig r) s = .next (s.declined r 0xC980 .stateMismatch))) ∧
    (s.dev.accepts r (bayCmd 0xC981) = true → sel 0xC981 → pay.length = 4 → le pay 1 1 < 8 → le pay 3 1 = 0 →
      ((le pay 1 1).testBit 2 = true → le pay 2 1 ≤ 4) →
      (le pay 0 1 = 0 → powered (pins d)) ∧
      (le pay 0 1 = 1 → d.bayMayOn n = true → powered (pins (d.bayOn n))) ∧
      (le pay 0 1 = 1 → d.bayMayOn n = false → exec (.bayPower r) s = .next (s.declined r 0xC981 .stateMismatch)) ∧
      (le pay 0 1 = 2 → powered (pins (d.bayDown n false))) ∧
      (le pay 0 1 = 3 → powered (pins (d.bayDown n true))) ∧
      (le pay 0 1 = 4 → d.baySt n = 5 →
        powered (pins ((d.put F.BAY_STATUS.PERST n 1).setBayRt n { d.bayRt n with pulse := true }))) ∧
      (le pay 0 1 = 4 → d.baySt n ≠ 5 → exec (.bayPower r) s = .next (s.declined r 0xC981 .stateMismatch))) ∧
    (s.dev.accepts r { opcode := 0xC982, modes := dieModes, may := fun p pay _ => match p with
        | .fm | .factory => true
        | .monitor => le pay 0 4 == 0
        | _ => false } = true → sel 0xC982 → pay.length = 4 → le pay 0 4 = c → c < 128 →
      exec (.bayStatus r) s = .next (s.okay r 0xC982 (d.putWord .BAY_ERR n (d.word .BAY_ERR n &&& (127 - c)))
        ([Reg.BAY_CFG, .BAY_LIM, .BAY_CTL, .BAY_STATUS, .BAY_MEAS, .BAY_ERR].flatMap fun x => bytes 4 (d.word x n)))) ∧
    (s.dev.accepts r (bayCmd 0xC983) = true → pay.length = 12 → le pay 0 4 < 4 → le pay 4 4 = l → le pay 8 4 = c →
      ((le pay 0 4).testBit 0 = true → l < 64 ∧ 1 ≤ l % 16 ∧ l % 16 ≤ 8) →
      ((le pay 0 4).testBit 1 = true → c < 2 ^ 11 ∧ c % 4 ≠ 3) →
      let e := busCfg (feeds d)
      exec (.bayFeedSet r) s = .next (s.okay r 0xC983 e
        ([Reg.BAY_FEED_STATUS, .BAY_PRSNT_ALL, .BAY_ALERT_ALL].flatMap fun x => bytes 4 (e.word x))
        ((if (le pay 0 4).testBit 0 then e.stageNow 0x9140 [0] else []) ++
          (if (le pay 0 4).testBit 1 then e.stageNow 0x9141 [0] else [])))) ∧
    (s.dev.accepts r (bayCmd 0xC984) = true → sel 0xC984 → s.dev.bus.hung.get none (n / 8) = none →
      le pay 0 1 < 128 → le pay 1 1 < 2 → le pay 2 1 = l → le pay 3 1 = c → pay.length = 4 + l → 0 < l + c →
      (d.bit F.BAY_STATUS.PRSNT n = true → d.bit F.BAY_STATUS.PG n = true →
        exec (.bayBusXfer r (.data out)) s =
          .next (s.okay r 0xC984 (d.busSwitch (n / 8) 0) ((out ++ List.replicate c 0xFF).take c)) ∧
        exec (.bayBusXfer r .nack) s = .next (s.after
          ((d.busSwitch (n / 8) 0).respond ((hdrOf 0xC984 r.raw).rsp r.via .stateMismatch []))) ∧
        exec (.bayBusXfer r .hang) s = .next (s.after
          (let e := d.busSwitch (n / 8) (2 ^ (n % 8))
           { e with bus := { e.bus with hung := e.bus.hung.put none (n / 8) (some (Fin.ofNat 32 n, r.via, hdrOf 0xC984 r.raw)) } }))) ∧
      (d.bit F.BAY_STATUS.PRSNT n = false ∨ d.bit F.BAY_STATUS.PG n = false → ∀ x, exec (.bayBusXfer r x) s =
        .next (s.declined r 0xC984 .stateMismatch)))) ∧
  (∀ (s : State) (m : Fin 4) (b : Fin 32) (v : Transport) (h : Hdr), s.dev.die = true →
    (s.dev.bus.hung.get none m.val = none → exec (.bayBusTimeout m) s = .next (s.after s.dev)) ∧
    (s.dev.bus.hung.get none m.val = some (b, v, h) →
      let e := (s.dev.busSwitch m.val 0).respond (h.rsp v .timeout [])
      exec (.bayBusTimeout m) s = .next (s.after { e with bus := { e.bus with hung := e.bus.hung.put none m.val none } }))) ∧
  (∀ (d : Dev) (n : Nat), n < 32 → d.baySt n = 3 ∨ d.baySt n = 4 ∨ d.baySt n = 5 →
    (d.bayDown n false).baySt n = 0xA ∧ (d.bayDown n false).bit F.BAY_STATUS.PERST n = true ∧
      (d.bayDown n false).bit F.BAY_CTL.ON_REQ n = false ∧ (d.bayDown n true).bayRt n = { BayRt.reset with cycle := true })
end

