-- ==== Sys2Proof/Laws/Bytes.lean ====
section
/-!
SUPPORT. Laws of little-endian bytes (R7): a number written in bytes is read back, and reading passes over a prefix.
-/

namespace Sys2Proof.Machine

@[simp] theorem bytes_length (n v : Nat) : (bytes n v).length = n := by
  induction n generalizing v with
  | zero => rfl
  | succ n ih => simp [bytes, ih]

/-- Reading past a prefix reads the rest. -/
theorem le_append_right (p l : List (BitVec 8)) (off n : Nat) : le (p ++ l) (p.length + off) n = le l off n := by
  have : p.drop (p.length + off) = [] := List.drop_eq_nil_of_le (by omega)
  simp [le, List.drop_append, this]

/-- A number written in `n` bytes is read back, cut to them. -/
@[simp] theorem le_bytes (n v : Nat) (l : List (BitVec 8)) : le (bytes n v ++ l) 0 n = v % 256 ^ n := by
  induction n generalizing v with
  | zero => simp [le, bytes, Nat.mod_one]
  | succ n ih =>
    have := ih (v / 256)
    simp only [le, List.drop_zero] at this
    simp only [le, bytes, List.drop_zero, List.cons_append, List.take_succ_cons, List.foldr_cons, this, BitVec.toNat_ofNat]
    have e : v % 256 ^ (n + 1) = v % 256 + 256 * (v / 256 % 256 ^ n) := by rw [Nat.pow_succ, Nat.mul_comm, Nat.mod_mul]
    exact e.symm

@[simp] theorem le_bytes_all (n v : Nat) : le (bytes n v) 0 n = v % 256 ^ n := by
  simpa using le_bytes n v []

/-- `n` bytes read less than 256 to the `n`. -/
theorem le_lt (l : List (BitVec 8)) (off n : Nat) : le l off n < 256 ^ n := by
  unfold le
  generalize l.drop off = m
  induction n generalizing m with
  | zero => simp
  | succ n ih =>
    cases m with
    | nil =>
      have : 0 < 256 ^ (n + 1) := Nat.pow_pos (by decide)
      simpa using this
    | cons b m =>
      have := ih m
      have hb := b.isLt
      simp only [List.take_succ_cons, List.foldr_cons, Nat.pow_succ]
      omega

end Sys2Proof.Machine
end

