-- ==== Sys2Proof/Laws/Tab.lean ====
section
/-!
SUPPORT. Laws of the sparse tables: a read after a write, and that every operation keeps the canonical form.
-/

namespace Sys2Proof.Machine

variable {α : Type} (d : α)

@[simp] theorem Tab.get_nil (k : Nat) : Tab.get d [] k = d := rfl

/-- A key that no entry has reads the unlisted value. -/
theorem Tab.get_absent (t : Tab α) (k : Nat) (h : ∀ x ∈ t, x.1 ≠ k) : t.get d k = d := by
  induction t with
  | nil => rfl
  | cons x t ih =>
    obtain ⟨j, v⟩ := x
    have hj : k ≠ j := fun e => h (j, v) (by simp) e.symm
    simp only [Tab.get, hj, if_false]
    exact ih fun y hy => h y (by simp [hy])

@[simp] theorem Tab.get_erase_same (t : Tab α) (k : Nat) : (t.erase k).get d k = d := by
  induction t with
  | nil => rfl
  | cons e t ih =>
    obtain ⟨j, v⟩ := e
    unfold Tab.erase
    split <;> simp_all [Tab.get]

theorem Tab.get_erase_other (t : Tab α) {k j : Nat} (h : j ≠ k) : (t.erase k).get d j = t.get d j := by
  induction t with
  | nil => rfl
  | cons e t ih =>
    obtain ⟨i, v⟩ := e
    unfold Tab.erase
    split <;> simp_all [Tab.get]

@[simp] theorem Tab.get_insert_same (t : Tab α) (k : Nat) (v : α) : (t.insert k v).get d k = v := by
  induction t with
  | nil => simp [Tab.insert, Tab.get]
  | cons e t ih =>
    obtain ⟨i, u⟩ := e
    unfold Tab.insert
    split
    · simp [Tab.get]
    · split <;> simp_all [Tab.get]

theorem Tab.get_insert_other (t : Tab α) {k j : Nat} (v : α) (h : j ≠ k) : (t.insert k v).get d j = t.get d j := by
  induction t with
  | nil => simp [Tab.insert, Tab.get, h]
  | cons e t ih =>
    obtain ⟨i, u⟩ := e
    unfold Tab.insert
    split
    · simp_all [Tab.get]
    · split <;> simp_all [Tab.get]

variable [DecidableEq α]

/-- A read after a write to the same key gives the value written. -/
@[simp] theorem Tab.get_put_same (t : Tab α) (k : Nat) (v : α) : (t.put d k v).get d k = v := by
  unfold Tab.put
  split <;> simp_all

/-- A write leaves every other key alone. -/
theorem Tab.get_put_other (t : Tab α) {k j : Nat} (v : α) (h : j ≠ k) : (t.put d k v).get d j = t.get d j := by
  unfold Tab.put
  split
  · exact Tab.get_erase_other d t h
  · exact Tab.get_insert_other d t v h

@[simp] theorem Tab.get_modify_same (t : Tab α) (k : Nat) (f : α → α) : (t.modify d k f).get d k = f (t.get d k) := by
  simp [Tab.modify]

theorem Tab.get_modify_other (t : Tab α) {k j : Nat} (f : α → α) (h : j ≠ k) : (t.modify d k f).get d j = t.get d j :=
  Tab.get_put_other d t _ h

/-! ### The canonical form -/

omit [DecidableEq α] in
theorem Tab.risesFrom_mono {lo hi : Nat} (t : Tab α) (h : lo ≤ hi) (r : t.risesFrom hi) : t.risesFrom lo := by
  cases t with
  | nil => rfl
  | cons e t =>
    obtain ⟨k, v⟩ := e
    simp [Tab.risesFrom] at r ⊢
    exact ⟨by omega, r.2⟩

omit [DecidableEq α] in
theorem Tab.risesFrom_erase (t : Tab α) (lo k : Nat) (r : t.risesFrom lo) : (t.erase k).risesFrom lo := by
  induction t generalizing lo with
  | nil => rfl
  | cons e t ih =>
    obtain ⟨j, v⟩ := e
    simp [Tab.risesFrom] at r
    unfold Tab.erase
    split
    · exact Tab.risesFrom_mono _ (by omega) (ih (j + 1) r.2)
    · simp [Tab.risesFrom, r.1, ih (j + 1) r.2]

omit [DecidableEq α] in
theorem Tab.risesFrom_insert (t : Tab α) (lo k : Nat) (v : α) (h : lo ≤ k) (r : t.risesFrom lo) :
    (t.insert k v).risesFrom lo := by
  induction t generalizing lo with
  | nil => simp [Tab.insert, Tab.risesFrom, h]
  | cons e t ih =>
    obtain ⟨j, u⟩ := e
    simp [Tab.risesFrom] at r
    unfold Tab.insert
    split
    · subst_vars; simp [Tab.risesFrom, h, r.2]
    · split
      · have hk : k + 1 ≤ j := by omega
        simp [Tab.risesFrom, h, r.2, hk]
      · have hj : j + 1 ≤ k := by omega
        simp [Tab.risesFrom, r.1, ih (j + 1) hj r.2]

omit [DecidableEq α] in
theorem Tab.mem_erase {t : Tab α} {k : Nat} {e : Nat × α} (h : e ∈ t.erase k) : e ∈ t := by
  induction t with
  | nil => exact h
  | cons x t ih =>
    obtain ⟨j, v⟩ := x
    unfold Tab.erase at h
    split at h
    · exact List.mem_cons_of_mem _ (ih h)
    · rcases List.mem_cons.mp h with h | h
      · exact h ▸ List.mem_cons_self
      · exact List.mem_cons_of_mem _ (ih h)

omit [DecidableEq α] in
theorem Tab.mem_insert {t : Tab α} {k : Nat} {v : α} {e : Nat × α} (h : e ∈ t.insert k v) : e = (k, v) ∨ e ∈ t := by
  induction t with
  | nil => simpa [Tab.insert] using h
  | cons x t ih =>
    obtain ⟨j, u⟩ := x
    unfold Tab.insert at h
    split at h
    · rcases List.mem_cons.mp h with h | h
      · exact Or.inl h
      · exact Or.inr (List.mem_cons_of_mem _ h)
    · split at h
      · rcases List.mem_cons.mp h with h | h
        · exact Or.inl h
        · exact Or.inr h
      · rcases List.mem_cons.mp h with h | h
        · exact Or.inr (h ▸ List.mem_cons_self)
        · exact (ih h).imp id (List.mem_cons_of_mem _)

/-- Writing keeps the canonical form. -/
theorem Tab.wf_put (t : Tab α) (k : Nat) (v : α) (h : t.wf d) : (t.put d k v).wf d := by
  simp only [Tab.wf, Bool.and_eq_true, List.all_eq_true, decide_eq_true_eq] at h ⊢
  unfold Tab.put
  split
  · exact ⟨Tab.risesFrom_erase _ _ _ h.1, fun e he => h.2 e (Tab.mem_erase he)⟩
  · refine ⟨Tab.risesFrom_insert _ _ _ _ (Nat.zero_le _) h.1, fun e he => ?_⟩
    rcases Tab.mem_insert he with rfl | he
    · assumption
    · exact h.2 e he

theorem Tab.wf_modify (t : Tab α) (k : Nat) (f : α → α) (h : t.wf d) : (t.modify d k f).wf d := Tab.wf_put d t k _ h

theorem Tab.wf_erase (t : Tab α) (k : Nat) (h : t.wf d) : (t.erase k).wf d := by
  simp only [Tab.wf, Bool.and_eq_true, List.all_eq_true, decide_eq_true_eq] at h ⊢
  exact ⟨Tab.risesFrom_erase _ _ _ h.1, fun e he => h.2 e (Tab.mem_erase he)⟩

omit [DecidableEq α] in
theorem Tab.risesFrom_filter (t : Tab α) (lo : Nat) (p : Nat × α → Bool) (r : t.risesFrom lo) :
    Tab.risesFrom lo (t.filter p) := by
  induction t generalizing lo with
  | nil => rfl
  | cons e t ih =>
    obtain ⟨j, v⟩ := e
    simp [Tab.risesFrom] at r
    rw [List.filter_cons]
    split
    · simp [Tab.risesFrom, r.1, ih (j + 1) r.2]
    · exact Tab.risesFrom_mono _ (by omega) (ih (j + 1) r.2)

/-- A reset that drops cells keeps the canonical form. -/
theorem Tab.wf_filter (t : Tab α) (p : Nat × α → Bool) (h : t.wf d) : Tab.wf d (t.filter p) := by
  simp only [Tab.wf, Bool.and_eq_true, List.all_eq_true, decide_eq_true_eq] at h ⊢
  exact ⟨Tab.risesFrom_filter _ _ _ h.1, fun e he => h.2 e (List.mem_filter.mp he).1⟩

end Sys2Proof.Machine
end

