-- ==== Sys2Proof/Laws/Regs.lean ====
section
/-!
SUPPORT. Laws of the register file: a field reads what was written to it, cut to its width, and other fields are left alone.
-/

namespace Sys2Proof.Machine

theorem xor_xor_same (a b : Nat) : (a ^^^ b) ^^^ b = a := by
  rw [Nat.xor_assoc, Nat.xor_self, Nat.xor_zero]

/-- A field reads what was written, cut to its width (R9). -/
@[simp] theorem Dev.get_put_same (d : Dev) (f : Fld) (i v : Nat) : (d.put f i v).get f i = v % 2 ^ f.w := by
  simp [Dev.get, Dev.put, fldGet, fldPut, xor_xor_same]

/-- A field of another cell keeps its value. -/
theorem Dev.get_put_other (d : Dev) {f g : Fld} {i j : Nat} (v : Nat) (h : g.key j ≠ f.key i) :
    (d.put f i v).get g j = d.get g j := by
  simp [Dev.get, Dev.put, fldGet, fldPut, Tab.get_put_other, h]

/-- One field has one cell for each index. -/
theorem Fld.key_inj (f : Fld) {i j : Nat} : f.key i = f.key j ↔ i = j := by
  unfold Fld.key; omega

@[simp] theorem Dev.get_put_index (d : Dev) (f : Fld) {i j : Nat} (v : Nat) (h : j ≠ i) :
    (d.put f i v).get f j = d.get f j :=
  Dev.get_put_other d v (by rw [ne_eq, Fld.key_inj]; exact h)

/-- Fields whose cells stand at other places have other cells, for indices below 65,536. -/
theorem Fld.key_ne {f g : Fld} (h : f.key 0 / 65536 ≠ g.key 0 / 65536) {i j : Nat} (hi : i < 65536) (hj : j < 65536) :
    f.key i ≠ g.key j := by
  unfold Fld.key at *; omega

/-- Another field keeps its value, for indices below 65,536. -/
theorem Dev.get_put_field (d : Dev) {f g : Fld} {i j : Nat} (v : Nat) (h : g.key 0 / 65536 ≠ f.key 0 / 65536)
    (hi : i < 65536) (hj : j < 65536) : (d.put f i v).get g j = d.get g j :=
  Dev.get_put_other d v (Fld.key_ne h hj hi)

/-- A field without listed entries reads its reset value. -/
theorem Dev.get_unlisted (d : Dev) (f : Fld) {i : Nat} (hi : i < 65536) (h : d.listed f = []) : d.get f i = f.rst := by
  have : d.regs.get 0 (f.key i) = 0 := Tab.get_absent _ _ _ fun x hx e => by
    have hk : x.1 / 65536 = f.key 0 / 65536 := by rw [e]; unfold Fld.key; omega
    have : keyIdx x.1 ∈ d.listed f := List.mem_filterMap.mpr ⟨x, hx, by simp [hk]⟩
    rw [h] at this; simp at this
  simp [Dev.get, fldGet, this]

/-- The register file after a write, cell by cell. -/
theorem Dev.cell_put_other (d : Dev) (f : Fld) (i v k : Nat) (h : k ≠ f.key i) : (d.put f i v).regs.get 0 k = d.regs.get 0 k := by
  simp [Dev.put, fldPut, Tab.get_put_other, h]

/-- A write keeps the register file canonical. -/
theorem Dev.wf_put (d : Dev) (f : Fld) (i v : Nat) (h : Tab.wf 0 d.regs) : Tab.wf 0 (d.put f i v).regs :=
  Tab.wf_put 0 _ _ _ h

/-- Counting keeps the counters canonical. -/
theorem Dev.wf_count (d : Dev) (k n : Nat) (h : Tab.wf 0 d.cnt) : Tab.wf 0 (d.count k n).cnt :=
  Tab.wf_modify 0 d.cnt k (cntAdd · n) h

/-- A counter reads its value after the events counted (R587). -/
@[simp] theorem Dev.cnt_count_same (d : Dev) (k n : Nat) : (d.count k n).cnt.get 0 k = cntAdd (d.cnt.get 0 k) n :=
  Tab.get_modify_same 0 d.cnt k (cntAdd · n)

theorem Dev.cnt_count_other (d : Dev) {k j : Nat} (n : Nat) (h : j ≠ k) : (d.count k n).cnt.get 0 j = d.cnt.get 0 j :=
  Tab.get_modify_other 0 d.cnt (cntAdd · n) h

@[simp] theorem Dev.prt_setPrt_same (d : Dev) (p : Nat) (r : PortRt) : (d.setPrt p r).prt p = r := Tab.get_put_same _ _ _ _

theorem Dev.prt_setPrt_other (d : Dev) {p q : Nat} (r : PortRt) (h : q ≠ p) : (d.setPrt p r).prt q = d.prt q :=
  Tab.get_put_other _ _ _ h

@[simp] theorem Dev.ilRt_setIl_same (d : Dev) (p : Nat) (r : IlRt) : (d.setIl p r).ilRt p = r := Tab.get_put_same _ _ _ _

theorem Dev.ilRt_setIl_other (d : Dev) {p q : Nat} (r : IlRt) (h : q ≠ p) : (d.setIl p r).ilRt q = d.ilRt q :=
  Tab.get_put_other _ _ _ h

end Sys2Proof.Machine
end

