-- ==== Sys2Proof/Laws/State.lean ====
section
/-!
SUPPORT. One lemma for each field of the device and each elementary update that leaves it alone, so that no later proof
unfolds a record update; and the same of the reports to the collector.
-/

namespace Sys2Proof.Machine

/-! ### put -/

@[simp] theorem Dev.cnt_put (d : Dev) (f : Fld) (i v : Nat) : (d.put f i v).cnt = d.cnt := rfl
@[simp] theorem Dev.shadow_put (d : Dev) (f : Fld) (i v : Nat) : (d.put f i v).shadow = d.shadow := rfl
@[simp] theorem Dev.clk_put (d : Dev) (f : Fld) (i v : Nat) : (d.put f i v).clk = d.clk := rfl
@[simp] theorem Dev.mode_put (d : Dev) (f : Fld) (i v : Nat) : (d.put f i v).mode = d.mode := rfl
@[simp] theorem Dev.flt_put (d : Dev) (f : Fld) (i v : Nat) : (d.put f i v).flt = d.flt := rfl
@[simp] theorem Dev.coh_put (d : Dev) (f : Fld) (i v : Nat) : (d.put f i v).coh = d.coh := rfl
@[simp] theorem Dev.bld_put (d : Dev) (f : Fld) (i v : Nat) : (d.put f i v).bld = d.bld := rfl
@[simp] theorem Dev.sw_put (d : Dev) (f : Fld) (i v : Nat) : (d.put f i v).sw = d.sw := rfl
@[simp] theorem Dev.ports_put (d : Dev) (f : Fld) (i v : Nat) : (d.put f i v).ports = d.ports := rfl
@[simp] theorem Dev.il_put (d : Dev) (f : Fld) (i v : Nat) : (d.put f i v).il = d.il := rfl
@[simp] theorem Dev.ins_put (d : Dev) (f : Fld) (i v : Nat) : (d.put f i v).ins = d.ins := rfl
@[simp] theorem Dev.brg_put (d : Dev) (f : Fld) (i v : Nat) : (d.put f i v).brg = d.brg := rfl
@[simp] theorem Dev.mgt_put (d : Dev) (f : Fld) (i v : Nat) : (d.put f i v).mgt = d.mgt := rfl
@[simp] theorem Dev.car_put (d : Dev) (f : Fld) (i v : Nat) : (d.put f i v).car = d.car := rfl
@[simp] theorem Dev.bay_put (d : Dev) (f : Fld) (i v : Nat) : (d.put f i v).bay = d.bay := rfl
@[simp] theorem Dev.bus_put (d : Dev) (f : Fld) (i v : Nat) : (d.put f i v).bus = d.bus := rfl
@[simp] theorem Dev.pwr_put (d : Dev) (f : Fld) (i v : Nat) : (d.put f i v).pwr = d.pwr := rfl
@[simp] theorem Dev.wire_put (d : Dev) (f : Fld) (i v : Nat) : (d.put f i v).wire = d.wire := rfl
@[simp] theorem Dev.out_put (d : Dev) (f : Fld) (i v : Nat) : (d.put f i v).out = d.out := rfl
@[simp] theorem Dev.rdata_put (d : Dev) (f : Fld) (i v : Nat) : (d.put f i v).rdata = d.rdata := rfl
@[simp] theorem Dev.freeCtr_put (d : Dev) (f : Fld) (i v : Nat) : (d.put f i v).freeCtr = d.freeCtr := rfl

/-! ### set -/

@[simp] theorem Dev.cnt_set (d : Dev) (f : Fld) (i : Nat) : (d.set f i).cnt = d.cnt := rfl
@[simp] theorem Dev.shadow_set (d : Dev) (f : Fld) (i : Nat) : (d.set f i).shadow = d.shadow := rfl
@[simp] theorem Dev.clk_set (d : Dev) (f : Fld) (i : Nat) : (d.set f i).clk = d.clk := rfl
@[simp] theorem Dev.mode_set (d : Dev) (f : Fld) (i : Nat) : (d.set f i).mode = d.mode := rfl
@[simp] theorem Dev.flt_set (d : Dev) (f : Fld) (i : Nat) : (d.set f i).flt = d.flt := rfl
@[simp] theorem Dev.coh_set (d : Dev) (f : Fld) (i : Nat) : (d.set f i).coh = d.coh := rfl
@[simp] theorem Dev.bld_set (d : Dev) (f : Fld) (i : Nat) : (d.set f i).bld = d.bld := rfl
@[simp] theorem Dev.sw_set (d : Dev) (f : Fld) (i : Nat) : (d.set f i).sw = d.sw := rfl
@[simp] theorem Dev.ports_set (d : Dev) (f : Fld) (i : Nat) : (d.set f i).ports = d.ports := rfl
@[simp] theorem Dev.il_set (d : Dev) (f : Fld) (i : Nat) : (d.set f i).il = d.il := rfl
@[simp] theorem Dev.ins_set (d : Dev) (f : Fld) (i : Nat) : (d.set f i).ins = d.ins := rfl
@[simp] theorem Dev.brg_set (d : Dev) (f : Fld) (i : Nat) : (d.set f i).brg = d.brg := rfl
@[simp] theorem Dev.mgt_set (d : Dev) (f : Fld) (i : Nat) : (d.set f i).mgt = d.mgt := rfl
@[simp] theorem Dev.car_set (d : Dev) (f : Fld) (i : Nat) : (d.set f i).car = d.car := rfl
@[simp] theorem Dev.bay_set (d : Dev) (f : Fld) (i : Nat) : (d.set f i).bay = d.bay := rfl
@[simp] theorem Dev.bus_set (d : Dev) (f : Fld) (i : Nat) : (d.set f i).bus = d.bus := rfl
@[simp] theorem Dev.pwr_set (d : Dev) (f : Fld) (i : Nat) : (d.set f i).pwr = d.pwr := rfl
@[simp] theorem Dev.wire_set (d : Dev) (f : Fld) (i : Nat) : (d.set f i).wire = d.wire := rfl
@[simp] theorem Dev.out_set (d : Dev) (f : Fld) (i : Nat) : (d.set f i).out = d.out := rfl
@[simp] theorem Dev.rdata_set (d : Dev) (f : Fld) (i : Nat) : (d.set f i).rdata = d.rdata := rfl
@[simp] theorem Dev.freeCtr_set (d : Dev) (f : Fld) (i : Nat) : (d.set f i).freeCtr = d.freeCtr := rfl

/-! ### addSat -/

@[simp] theorem Dev.cnt_addSat (d : Dev) (f : Fld) (i n : Nat) : (d.addSat f i n).cnt = d.cnt := rfl
@[simp] theorem Dev.shadow_addSat (d : Dev) (f : Fld) (i n : Nat) : (d.addSat f i n).shadow = d.shadow := rfl
@[simp] theorem Dev.clk_addSat (d : Dev) (f : Fld) (i n : Nat) : (d.addSat f i n).clk = d.clk := rfl
@[simp] theorem Dev.mode_addSat (d : Dev) (f : Fld) (i n : Nat) : (d.addSat f i n).mode = d.mode := rfl
@[simp] theorem Dev.flt_addSat (d : Dev) (f : Fld) (i n : Nat) : (d.addSat f i n).flt = d.flt := rfl
@[simp] theorem Dev.coh_addSat (d : Dev) (f : Fld) (i n : Nat) : (d.addSat f i n).coh = d.coh := rfl
@[simp] theorem Dev.bld_addSat (d : Dev) (f : Fld) (i n : Nat) : (d.addSat f i n).bld = d.bld := rfl
@[simp] theorem Dev.sw_addSat (d : Dev) (f : Fld) (i n : Nat) : (d.addSat f i n).sw = d.sw := rfl
@[simp] theorem Dev.ports_addSat (d : Dev) (f : Fld) (i n : Nat) : (d.addSat f i n).ports = d.ports := rfl
@[simp] theorem Dev.il_addSat (d : Dev) (f : Fld) (i n : Nat) : (d.addSat f i n).il = d.il := rfl
@[simp] theorem Dev.ins_addSat (d : Dev) (f : Fld) (i n : Nat) : (d.addSat f i n).ins = d.ins := rfl
@[simp] theorem Dev.brg_addSat (d : Dev) (f : Fld) (i n : Nat) : (d.addSat f i n).brg = d.brg := rfl
@[simp] theorem Dev.mgt_addSat (d : Dev) (f : Fld) (i n : Nat) : (d.addSat f i n).mgt = d.mgt := rfl
@[simp] theorem Dev.car_addSat (d : Dev) (f : Fld) (i n : Nat) : (d.addSat f i n).car = d.car := rfl
@[simp] theorem Dev.bay_addSat (d : Dev) (f : Fld) (i n : Nat) : (d.addSat f i n).bay = d.bay := rfl
@[simp] theorem Dev.bus_addSat (d : Dev) (f : Fld) (i n : Nat) : (d.addSat f i n).bus = d.bus := rfl
@[simp] theorem Dev.pwr_addSat (d : Dev) (f : Fld) (i n : Nat) : (d.addSat f i n).pwr = d.pwr := rfl
@[simp] theorem Dev.wire_addSat (d : Dev) (f : Fld) (i n : Nat) : (d.addSat f i n).wire = d.wire := rfl
@[simp] theorem Dev.out_addSat (d : Dev) (f : Fld) (i n : Nat) : (d.addSat f i n).out = d.out := rfl
@[simp] theorem Dev.rdata_addSat (d : Dev) (f : Fld) (i n : Nat) : (d.addSat f i n).rdata = d.rdata := rfl
@[simp] theorem Dev.freeCtr_addSat (d : Dev) (f : Fld) (i n : Nat) : (d.addSat f i n).freeCtr = d.freeCtr := rfl

/-! ### clearFlds -/

@[simp] theorem Dev.cnt_clearFlds (d : Dev) (fs : List Fld) (i : Nat) : (d.clearFlds fs i).cnt = d.cnt := rfl
@[simp] theorem Dev.shadow_clearFlds (d : Dev) (fs : List Fld) (i : Nat) : (d.clearFlds fs i).shadow = d.shadow := rfl
@[simp] theorem Dev.clk_clearFlds (d : Dev) (fs : List Fld) (i : Nat) : (d.clearFlds fs i).clk = d.clk := rfl
@[simp] theorem Dev.mode_clearFlds (d : Dev) (fs : List Fld) (i : Nat) : (d.clearFlds fs i).mode = d.mode := rfl
@[simp] theorem Dev.flt_clearFlds (d : Dev) (fs : List Fld) (i : Nat) : (d.clearFlds fs i).flt = d.flt := rfl
@[simp] theorem Dev.coh_clearFlds (d : Dev) (fs : List Fld) (i : Nat) : (d.clearFlds fs i).coh = d.coh := rfl
@[simp] theorem Dev.bld_clearFlds (d : Dev) (fs : List Fld) (i : Nat) : (d.clearFlds fs i).bld = d.bld := rfl
@[simp] theorem Dev.sw_clearFlds (d : Dev) (fs : List Fld) (i : Nat) : (d.clearFlds fs i).sw = d.sw := rfl
@[simp] theorem Dev.ports_clearFlds (d : Dev) (fs : List Fld) (i : Nat) : (d.clearFlds fs i).ports = d.ports := rfl
@[simp] theorem Dev.il_clearFlds (d : Dev) (fs : List Fld) (i : Nat) : (d.clearFlds fs i).il = d.il := rfl
@[simp] theorem Dev.ins_clearFlds (d : Dev) (fs : List Fld) (i : Nat) : (d.clearFlds fs i).ins = d.ins := rfl
@[simp] theorem Dev.brg_clearFlds (d : Dev) (fs : List Fld) (i : Nat) : (d.clearFlds fs i).brg = d.brg := rfl
@[simp] theorem Dev.mgt_clearFlds (d : Dev) (fs : List Fld) (i : Nat) : (d.clearFlds fs i).mgt = d.mgt := rfl
@[simp] theorem Dev.car_clearFlds (d : Dev) (fs : List Fld) (i : Nat) : (d.clearFlds fs i).car = d.car := rfl
@[simp] theorem Dev.bay_clearFlds (d : Dev) (fs : List Fld) (i : Nat) : (d.clearFlds fs i).bay = d.bay := rfl
@[simp] theorem Dev.bus_clearFlds (d : Dev) (fs : List Fld) (i : Nat) : (d.clearFlds fs i).bus = d.bus := rfl
@[simp] theorem Dev.pwr_clearFlds (d : Dev) (fs : List Fld) (i : Nat) : (d.clearFlds fs i).pwr = d.pwr := rfl
@[simp] theorem Dev.wire_clearFlds (d : Dev) (fs : List Fld) (i : Nat) : (d.clearFlds fs i).wire = d.wire := rfl
@[simp] theorem Dev.out_clearFlds (d : Dev) (fs : List Fld) (i : Nat) : (d.clearFlds fs i).out = d.out := rfl
@[simp] theorem Dev.rdata_clearFlds (d : Dev) (fs : List Fld) (i : Nat) : (d.clearFlds fs i).rdata = d.rdata := rfl
@[simp] theorem Dev.freeCtr_clearFlds (d : Dev) (fs : List Fld) (i : Nat) : (d.clearFlds fs i).freeCtr = d.freeCtr := rfl

/-! ### count -/

@[simp] theorem Dev.regs_count (d : Dev) (k n : Nat) : (d.count k n).regs = d.regs := rfl
@[simp] theorem Dev.shadow_count (d : Dev) (k n : Nat) : (d.count k n).shadow = d.shadow := rfl
@[simp] theorem Dev.clk_count (d : Dev) (k n : Nat) : (d.count k n).clk = d.clk := rfl
@[simp] theorem Dev.mode_count (d : Dev) (k n : Nat) : (d.count k n).mode = d.mode := rfl
@[simp] theorem Dev.flt_count (d : Dev) (k n : Nat) : (d.count k n).flt = d.flt := rfl
@[simp] theorem Dev.coh_count (d : Dev) (k n : Nat) : (d.count k n).coh = d.coh := rfl
@[simp] theorem Dev.bld_count (d : Dev) (k n : Nat) : (d.count k n).bld = d.bld := rfl
@[simp] theorem Dev.sw_count (d : Dev) (k n : Nat) : (d.count k n).sw = d.sw := rfl
@[simp] theorem Dev.ports_count (d : Dev) (k n : Nat) : (d.count k n).ports = d.ports := rfl
@[simp] theorem Dev.il_count (d : Dev) (k n : Nat) : (d.count k n).il = d.il := rfl
@[simp] theorem Dev.ins_count (d : Dev) (k n : Nat) : (d.count k n).ins = d.ins := rfl
@[simp] theorem Dev.brg_count (d : Dev) (k n : Nat) : (d.count k n).brg = d.brg := rfl
@[simp] theorem Dev.mgt_count (d : Dev) (k n : Nat) : (d.count k n).mgt = d.mgt := rfl
@[simp] theorem Dev.car_count (d : Dev) (k n : Nat) : (d.count k n).car = d.car := rfl
@[simp] theorem Dev.bay_count (d : Dev) (k n : Nat) : (d.count k n).bay = d.bay := rfl
@[simp] theorem Dev.bus_count (d : Dev) (k n : Nat) : (d.count k n).bus = d.bus := rfl
@[simp] theorem Dev.pwr_count (d : Dev) (k n : Nat) : (d.count k n).pwr = d.pwr := rfl
@[simp] theorem Dev.wire_count (d : Dev) (k n : Nat) : (d.count k n).wire = d.wire := rfl
@[simp] theorem Dev.out_count (d : Dev) (k n : Nat) : (d.count k n).out = d.out := rfl
@[simp] theorem Dev.rdata_count (d : Dev) (k n : Nat) : (d.count k n).rdata = d.rdata := rfl
@[simp] theorem Dev.freeCtr_count (d : Dev) (k n : Nat) : (d.count k n).freeCtr = d.freeCtr := rfl

/-! ### setPrt -/

@[simp] theorem Dev.regs_setPrt (d : Dev) (p : Nat) (r : PortRt) : (d.setPrt p r).regs = d.regs := rfl
@[simp] theorem Dev.cnt_setPrt (d : Dev) (p : Nat) (r : PortRt) : (d.setPrt p r).cnt = d.cnt := rfl
@[simp] theorem Dev.shadow_setPrt (d : Dev) (p : Nat) (r : PortRt) : (d.setPrt p r).shadow = d.shadow := rfl
@[simp] theorem Dev.clk_setPrt (d : Dev) (p : Nat) (r : PortRt) : (d.setPrt p r).clk = d.clk := rfl
@[simp] theorem Dev.mode_setPrt (d : Dev) (p : Nat) (r : PortRt) : (d.setPrt p r).mode = d.mode := rfl
@[simp] theorem Dev.flt_setPrt (d : Dev) (p : Nat) (r : PortRt) : (d.setPrt p r).flt = d.flt := rfl
@[simp] theorem Dev.coh_setPrt (d : Dev) (p : Nat) (r : PortRt) : (d.setPrt p r).coh = d.coh := rfl
@[simp] theorem Dev.bld_setPrt (d : Dev) (p : Nat) (r : PortRt) : (d.setPrt p r).bld = d.bld := rfl
@[simp] theorem Dev.sw_setPrt (d : Dev) (p : Nat) (r : PortRt) : (d.setPrt p r).sw = d.sw := rfl
@[simp] theorem Dev.il_setPrt (d : Dev) (p : Nat) (r : PortRt) : (d.setPrt p r).il = d.il := rfl
@[simp] theorem Dev.ins_setPrt (d : Dev) (p : Nat) (r : PortRt) : (d.setPrt p r).ins = d.ins := rfl
@[simp] theorem Dev.brg_setPrt (d : Dev) (p : Nat) (r : PortRt) : (d.setPrt p r).brg = d.brg := rfl
@[simp] theorem Dev.mgt_setPrt (d : Dev) (p : Nat) (r : PortRt) : (d.setPrt p r).mgt = d.mgt := rfl
@[simp] theorem Dev.car_setPrt (d : Dev) (p : Nat) (r : PortRt) : (d.setPrt p r).car = d.car := rfl
@[simp] theorem Dev.bay_setPrt (d : Dev) (p : Nat) (r : PortRt) : (d.setPrt p r).bay = d.bay := rfl
@[simp] theorem Dev.bus_setPrt (d : Dev) (p : Nat) (r : PortRt) : (d.setPrt p r).bus = d.bus := rfl
@[simp] theorem Dev.pwr_setPrt (d : Dev) (p : Nat) (r : PortRt) : (d.setPrt p r).pwr = d.pwr := rfl
@[simp] theorem Dev.wire_setPrt (d : Dev) (p : Nat) (r : PortRt) : (d.setPrt p r).wire = d.wire := rfl
@[simp] theorem Dev.out_setPrt (d : Dev) (p : Nat) (r : PortRt) : (d.setPrt p r).out = d.out := rfl
@[simp] theorem Dev.rdata_setPrt (d : Dev) (p : Nat) (r : PortRt) : (d.setPrt p r).rdata = d.rdata := rfl
@[simp] theorem Dev.freeCtr_setPrt (d : Dev) (p : Nat) (r : PortRt) : (d.setPrt p r).freeCtr = d.freeCtr := rfl

/-! ### setIl -/

@[simp] theorem Dev.regs_setIl (d : Dev) (p : Nat) (r : IlRt) : (d.setIl p r).regs = d.regs := rfl
@[simp] theorem Dev.cnt_setIl (d : Dev) (p : Nat) (r : IlRt) : (d.setIl p r).cnt = d.cnt := rfl
@[simp] theorem Dev.shadow_setIl (d : Dev) (p : Nat) (r : IlRt) : (d.setIl p r).shadow = d.shadow := rfl
@[simp] theorem Dev.clk_setIl (d : Dev) (p : Nat) (r : IlRt) : (d.setIl p r).clk = d.clk := rfl
@[simp] theorem Dev.mode_setIl (d : Dev) (p : Nat) (r : IlRt) : (d.setIl p r).mode = d.mode := rfl
@[simp] theorem Dev.flt_setIl (d : Dev) (p : Nat) (r : IlRt) : (d.setIl p r).flt = d.flt := rfl
@[simp] theorem Dev.coh_setIl (d : Dev) (p : Nat) (r : IlRt) : (d.setIl p r).coh = d.coh := rfl
@[simp] theorem Dev.bld_setIl (d : Dev) (p : Nat) (r : IlRt) : (d.setIl p r).bld = d.bld := rfl
@[simp] theorem Dev.sw_setIl (d : Dev) (p : Nat) (r : IlRt) : (d.setIl p r).sw = d.sw := rfl
@[simp] theorem Dev.ports_setIl (d : Dev) (p : Nat) (r : IlRt) : (d.setIl p r).ports = d.ports := rfl
@[simp] theorem Dev.ins_setIl (d : Dev) (p : Nat) (r : IlRt) : (d.setIl p r).ins = d.ins := rfl
@[simp] theorem Dev.brg_setIl (d : Dev) (p : Nat) (r : IlRt) : (d.setIl p r).brg = d.brg := rfl
@[simp] theorem Dev.mgt_setIl (d : Dev) (p : Nat) (r : IlRt) : (d.setIl p r).mgt = d.mgt := rfl
@[simp] theorem Dev.car_setIl (d : Dev) (p : Nat) (r : IlRt) : (d.setIl p r).car = d.car := rfl
@[simp] theorem Dev.bay_setIl (d : Dev) (p : Nat) (r : IlRt) : (d.setIl p r).bay = d.bay := rfl
@[simp] theorem Dev.bus_setIl (d : Dev) (p : Nat) (r : IlRt) : (d.setIl p r).bus = d.bus := rfl
@[simp] theorem Dev.pwr_setIl (d : Dev) (p : Nat) (r : IlRt) : (d.setIl p r).pwr = d.pwr := rfl
@[simp] theorem Dev.wire_setIl (d : Dev) (p : Nat) (r : IlRt) : (d.setIl p r).wire = d.wire := rfl
@[simp] theorem Dev.out_setIl (d : Dev) (p : Nat) (r : IlRt) : (d.setIl p r).out = d.out := rfl
@[simp] theorem Dev.rdata_setIl (d : Dev) (p : Nat) (r : IlRt) : (d.setIl p r).rdata = d.rdata := rfl
@[simp] theorem Dev.freeCtr_setIl (d : Dev) (p : Nat) (r : IlRt) : (d.setIl p r).freeCtr = d.freeCtr := rfl

/-! ### Reports (R489 to R495) -/

@[simp] theorem Dev.regs_pend (d : Dev) (c : Coded) : (d.pend c).regs = d.regs := by unfold Dev.pend; split <;> rfl
@[simp] theorem Dev.regs_offer (d : Dev) (c : Coded) : (d.offer c).regs = d.regs := by unfold Dev.offer; split <;> simp
@[simp] theorem Dev.regs_raise (d : Dev) (k : Kind) (u i a : Nat) (l : Option Nat) (t : DomType) (r : Option Recl) :
    (d.raise k u i a l t r).regs = d.regs := Dev.regs_offer d _
@[simp] theorem Dev.regs_event (d : Dev) (e : Event) (u : Nat) (x : BitVec 32) (h : BitVec 64) :
    (d.event e u x h).regs = d.regs := Dev.regs_offer d _
@[simp] theorem Dev.shadow_pend (d : Dev) (c : Coded) : (d.pend c).shadow = d.shadow := by unfold Dev.pend; split <;> rfl
@[simp] theorem Dev.shadow_offer (d : Dev) (c : Coded) : (d.offer c).shadow = d.shadow := by unfold Dev.offer; split <;> simp
@[simp] theorem Dev.shadow_raise (d : Dev) (k : Kind) (u i a : Nat) (l : Option Nat) (t : DomType) (r : Option Recl) :
    (d.raise k u i a l t r).shadow = d.shadow := Dev.shadow_offer d _
@[simp] theorem Dev.shadow_event (d : Dev) (e : Event) (u : Nat) (x : BitVec 32) (h : BitVec 64) :
    (d.event e u x h).shadow = d.shadow := Dev.shadow_offer d _
@[simp] theorem Dev.clk_pend (d : Dev) (c : Coded) : (d.pend c).clk = d.clk := by unfold Dev.pend; split <;> rfl
@[simp] theorem Dev.clk_offer (d : Dev) (c : Coded) : (d.offer c).clk = d.clk := by unfold Dev.offer; split <;> simp
@[simp] theorem Dev.clk_raise (d : Dev) (k : Kind) (u i a : Nat) (l : Option Nat) (t : DomType) (r : Option Recl) :
    (d.raise k u i a l t r).clk = d.clk := Dev.clk_offer d _
@[simp] theorem Dev.clk_event (d : Dev) (e : Event) (u : Nat) (x : BitVec 32) (h : BitVec 64) :
    (d.event e u x h).clk = d.clk := Dev.clk_offer d _
@[simp] theorem Dev.mode_pend (d : Dev) (c : Coded) : (d.pend c).mode = d.mode := by unfold Dev.pend; split <;> rfl
@[simp] theorem Dev.mode_offer (d : Dev) (c : Coded) : (d.offer c).mode = d.mode := by unfold Dev.offer; split <;> simp
@[simp] theorem Dev.mode_raise (d : Dev) (k : Kind) (u i a : Nat) (l : Option Nat) (t : DomType) (r : Option Recl) :
    (d.raise k u i a l t r).mode = d.mode := Dev.mode_offer d _
@[simp] theorem Dev.mode_event (d : Dev) (e : Event) (u : Nat) (x : BitVec 32) (h : BitVec 64) :
    (d.event e u x h).mode = d.mode := Dev.mode_offer d _
@[simp] theorem Dev.coh_pend (d : Dev) (c : Coded) : (d.pend c).coh = d.coh := by unfold Dev.pend; split <;> rfl
@[simp] theorem Dev.coh_offer (d : Dev) (c : Coded) : (d.offer c).coh = d.coh := by unfold Dev.offer; split <;> simp
@[simp] theorem Dev.coh_raise (d : Dev) (k : Kind) (u i a : Nat) (l : Option Nat) (t : DomType) (r : Option Recl) :
    (d.raise k u i a l t r).coh = d.coh := Dev.coh_offer d _
@[simp] theorem Dev.coh_event (d : Dev) (e : Event) (u : Nat) (x : BitVec 32) (h : BitVec 64) :
    (d.event e u x h).coh = d.coh := Dev.coh_offer d _
@[simp] theorem Dev.bld_pend (d : Dev) (c : Coded) : (d.pend c).bld = d.bld := by unfold Dev.pend; split <;> rfl
@[simp] theorem Dev.bld_offer (d : Dev) (c : Coded) : (d.offer c).bld = d.bld := by unfold Dev.offer; split <;> simp
@[simp] theorem Dev.bld_raise (d : Dev) (k : Kind) (u i a : Nat) (l : Option Nat) (t : DomType) (r : Option Recl) :
    (d.raise k u i a l t r).bld = d.bld := Dev.bld_offer d _
@[simp] theorem Dev.bld_event (d : Dev) (e : Event) (u : Nat) (x : BitVec 32) (h : BitVec 64) :
    (d.event e u x h).bld = d.bld := Dev.bld_offer d _
@[simp] theorem Dev.sw_pend (d : Dev) (c : Coded) : (d.pend c).sw = d.sw := by unfold Dev.pend; split <;> rfl
@[simp] theorem Dev.sw_offer (d : Dev) (c : Coded) : (d.offer c).sw = d.sw := by unfold Dev.offer; split <;> simp
@[simp] theorem Dev.sw_raise (d : Dev) (k : Kind) (u i a : Nat) (l : Option Nat) (t : DomType) (r : Option Recl) :
    (d.raise k u i a l t r).sw = d.sw := Dev.sw_offer d _
@[simp] theorem Dev.sw_event (d : Dev) (e : Event) (u : Nat) (x : BitVec 32) (h : BitVec 64) :
    (d.event e u x h).sw = d.sw := Dev.sw_offer d _
@[simp] theorem Dev.ports_pend (d : Dev) (c : Coded) : (d.pend c).ports = d.ports := by unfold Dev.pend; split <;> rfl
@[simp] theorem Dev.ports_offer (d : Dev) (c : Coded) : (d.offer c).ports = d.ports := by unfold Dev.offer; split <;> simp
@[simp] theorem Dev.ports_raise (d : Dev) (k : Kind) (u i a : Nat) (l : Option Nat) (t : DomType) (r : Option Recl) :
    (d.raise k u i a l t r).ports = d.ports := Dev.ports_offer d _
@[simp] theorem Dev.ports_event (d : Dev) (e : Event) (u : Nat) (x : BitVec 32) (h : BitVec 64) :
    (d.event e u x h).ports = d.ports := Dev.ports_offer d _
@[simp] theorem Dev.il_pend (d : Dev) (c : Coded) : (d.pend c).il = d.il := by unfold Dev.pend; split <;> rfl
@[simp] theorem Dev.il_offer (d : Dev) (c : Coded) : (d.offer c).il = d.il := by unfold Dev.offer; split <;> simp
@[simp] theorem Dev.il_raise (d : Dev) (k : Kind) (u i a : Nat) (l : Option Nat) (t : DomType) (r : Option Recl) :
    (d.raise k u i a l t r).il = d.il := Dev.il_offer d _
@[simp] theorem Dev.il_event (d : Dev) (e : Event) (u : Nat) (x : BitVec 32) (h : BitVec 64) :
    (d.event e u x h).il = d.il := Dev.il_offer d _
@[simp] theorem Dev.ins_pend (d : Dev) (c : Coded) : (d.pend c).ins = d.ins := by unfold Dev.pend; split <;> rfl
@[simp] theorem Dev.ins_offer (d : Dev) (c : Coded) : (d.offer c).ins = d.ins := by unfold Dev.offer; split <;> simp
@[simp] theorem Dev.ins_raise (d : Dev) (k : Kind) (u i a : Nat) (l : Option Nat) (t : DomType) (r : Option Recl) :
    (d.raise k u i a l t r).ins = d.ins := Dev.ins_offer d _
@[simp] theorem Dev.ins_event (d : Dev) (e : Event) (u : Nat) (x : BitVec 32) (h : BitVec 64) :
    (d.event e u x h).ins = d.ins := Dev.ins_offer d _
@[simp] theorem Dev.brg_pend (d : Dev) (c : Coded) : (d.pend c).brg = d.brg := by unfold Dev.pend; split <;> rfl
@[simp] theorem Dev.brg_offer (d : Dev) (c : Coded) : (d.offer c).brg = d.brg := by unfold Dev.offer; split <;> simp
@[simp] theorem Dev.brg_raise (d : Dev) (k : Kind) (u i a : Nat) (l : Option Nat) (t : DomType) (r : Option Recl) :
    (d.raise k u i a l t r).brg = d.brg := Dev.brg_offer d _
@[simp] theorem Dev.brg_event (d : Dev) (e : Event) (u : Nat) (x : BitVec 32) (h : BitVec 64) :
    (d.event e u x h).brg = d.brg := Dev.brg_offer d _
@[simp] theorem Dev.mgt_pend (d : Dev) (c : Coded) : (d.pend c).mgt = d.mgt := by unfold Dev.pend; split <;> rfl
@[simp] theorem Dev.mgt_offer (d : Dev) (c : Coded) : (d.offer c).mgt = d.mgt := by unfold Dev.offer; split <;> simp
@[simp] theorem Dev.mgt_raise (d : Dev) (k : Kind) (u i a : Nat) (l : Option Nat) (t : DomType) (r : Option Recl) :
    (d.raise k u i a l t r).mgt = d.mgt := Dev.mgt_offer d _
@[simp] theorem Dev.mgt_event (d : Dev) (e : Event) (u : Nat) (x : BitVec 32) (h : BitVec 64) :
    (d.event e u x h).mgt = d.mgt := Dev.mgt_offer d _
@[simp] theorem Dev.car_pend (d : Dev) (c : Coded) : (d.pend c).car = d.car := by unfold Dev.pend; split <;> rfl
@[simp] theorem Dev.car_offer (d : Dev) (c : Coded) : (d.offer c).car = d.car := by unfold Dev.offer; split <;> simp
@[simp] theorem Dev.car_raise (d : Dev) (k : Kind) (u i a : Nat) (l : Option Nat) (t : DomType) (r : Option Recl) :
    (d.raise k u i a l t r).car = d.car := Dev.car_offer d _
@[simp] theorem Dev.car_event (d : Dev) (e : Event) (u : Nat) (x : BitVec 32) (h : BitVec 64) :
    (d.event e u x h).car = d.car := Dev.car_offer d _
@[simp] theorem Dev.bay_pend (d : Dev) (c : Coded) : (d.pend c).bay = d.bay := by unfold Dev.pend; split <;> rfl
@[simp] theorem Dev.bay_offer (d : Dev) (c : Coded) : (d.offer c).bay = d.bay := by unfold Dev.offer; split <;> simp
@[simp] theorem Dev.bay_raise (d : Dev) (k : Kind) (u i a : Nat) (l : Option Nat) (t : DomType) (r : Option Recl) :
    (d.raise k u i a l t r).bay = d.bay := Dev.bay_offer d _
@[simp] theorem Dev.bay_event (d : Dev) (e : Event) (u : Nat) (x : BitVec 32) (h : BitVec 64) :
    (d.event e u x h).bay = d.bay := Dev.bay_offer d _
@[simp] theorem Dev.bus_pend (d : Dev) (c : Coded) : (d.pend c).bus = d.bus := by unfold Dev.pend; split <;> rfl
@[simp] theorem Dev.bus_offer (d : Dev) (c : Coded) : (d.offer c).bus = d.bus := by unfold Dev.offer; split <;> simp
@[simp] theorem Dev.bus_raise (d : Dev) (k : Kind) (u i a : Nat) (l : Option Nat) (t : DomType) (r : Option Recl) :
    (d.raise k u i a l t r).bus = d.bus := Dev.bus_offer d _
@[simp] theorem Dev.bus_event (d : Dev) (e : Event) (u : Nat) (x : BitVec 32) (h : BitVec 64) :
    (d.event e u x h).bus = d.bus := Dev.bus_offer d _
@[simp] theorem Dev.pwr_pend (d : Dev) (c : Coded) : (d.pend c).pwr = d.pwr := by unfold Dev.pend; split <;> rfl
@[simp] theorem Dev.pwr_offer (d : Dev) (c : Coded) : (d.offer c).pwr = d.pwr := by unfold Dev.offer; split <;> simp
@[simp] theorem Dev.pwr_raise (d : Dev) (k : Kind) (u i a : Nat) (l : Option Nat) (t : DomType) (r : Option Recl) :
    (d.raise k u i a l t r).pwr = d.pwr := Dev.pwr_offer d _
@[simp] theorem Dev.pwr_event (d : Dev) (e : Event) (u : Nat) (x : BitVec 32) (h : BitVec 64) :
    (d.event e u x h).pwr = d.pwr := Dev.pwr_offer d _
@[simp] theorem Dev.wire_pend (d : Dev) (c : Coded) : (d.pend c).wire = d.wire := by unfold Dev.pend; split <;> rfl
@[simp] theorem Dev.wire_offer (d : Dev) (c : Coded) : (d.offer c).wire = d.wire := by unfold Dev.offer; split <;> simp
@[simp] theorem Dev.wire_raise (d : Dev) (k : Kind) (u i a : Nat) (l : Option Nat) (t : DomType) (r : Option Recl) :
    (d.raise k u i a l t r).wire = d.wire := Dev.wire_offer d _
@[simp] theorem Dev.wire_event (d : Dev) (e : Event) (u : Nat) (x : BitVec 32) (h : BitVec 64) :
    (d.event e u x h).wire = d.wire := Dev.wire_offer d _
@[simp] theorem Dev.out_pend (d : Dev) (c : Coded) : (d.pend c).out = d.out := by unfold Dev.pend; split <;> rfl
@[simp] theorem Dev.out_offer (d : Dev) (c : Coded) : (d.offer c).out = d.out := by unfold Dev.offer; split <;> simp
@[simp] theorem Dev.out_raise (d : Dev) (k : Kind) (u i a : Nat) (l : Option Nat) (t : DomType) (r : Option Recl) :
    (d.raise k u i a l t r).out = d.out := Dev.out_offer d _
@[simp] theorem Dev.out_event (d : Dev) (e : Event) (u : Nat) (x : BitVec 32) (h : BitVec 64) :
    (d.event e u x h).out = d.out := Dev.out_offer d _
@[simp] theorem Dev.rdata_pend (d : Dev) (c : Coded) : (d.pend c).rdata = d.rdata := by unfold Dev.pend; split <;> rfl
@[simp] theorem Dev.rdata_offer (d : Dev) (c : Coded) : (d.offer c).rdata = d.rdata := by unfold Dev.offer; split <;> simp
@[simp] theorem Dev.rdata_raise (d : Dev) (k : Kind) (u i a : Nat) (l : Option Nat) (t : DomType) (r : Option Recl) :
    (d.raise k u i a l t r).rdata = d.rdata := Dev.rdata_offer d _
@[simp] theorem Dev.rdata_event (d : Dev) (e : Event) (u : Nat) (x : BitVec 32) (h : BitVec 64) :
    (d.event e u x h).rdata = d.rdata := Dev.rdata_offer d _
@[simp] theorem Dev.freeCtr_pend (d : Dev) (c : Coded) : (d.pend c).freeCtr = d.freeCtr := by unfold Dev.pend; split <;> rfl
@[simp] theorem Dev.freeCtr_offer (d : Dev) (c : Coded) : (d.offer c).freeCtr = d.freeCtr := by unfold Dev.offer; split <;> simp
@[simp] theorem Dev.freeCtr_raise (d : Dev) (k : Kind) (u i a : Nat) (l : Option Nat) (t : DomType) (r : Option Recl) :
    (d.raise k u i a l t r).freeCtr = d.freeCtr := Dev.freeCtr_offer d _
@[simp] theorem Dev.freeCtr_event (d : Dev) (e : Event) (u : Nat) (x : BitVec 32) (h : BitVec 64) :
    (d.event e u x h).freeCtr = d.freeCtr := Dev.freeCtr_offer d _

/-! ### Reading through an update -/

theorem Dev.get_of_regs {d e : Dev} (h : d.regs = e.regs) (f : Fld) (i : Nat) : d.get f i = e.get f i := by
  simp [Dev.get, h]

@[simp] theorem Dev.get_count (d : Dev) (k n : Nat) (f : Fld) (i : Nat) : (d.count k n).get f i = d.get f i := rfl
@[simp] theorem Dev.get_setPrt (d : Dev) (p : Nat) (r : PortRt) (f : Fld) (i : Nat) : (d.setPrt p r).get f i = d.get f i := rfl
@[simp] theorem Dev.get_setIl (d : Dev) (p : Nat) (r : IlRt) (f : Fld) (i : Nat) : (d.setIl p r).get f i = d.get f i := rfl
@[simp] theorem Dev.prt_put (d : Dev) (f : Fld) (i v p : Nat) : (d.put f i v).prt p = d.prt p := rfl
@[simp] theorem Dev.prt_count (d : Dev) (k n p : Nat) : (d.count k n).prt p = d.prt p := rfl
@[simp] theorem Dev.get_raise (d : Dev) (k : Kind) (u i a : Nat) (l : Option Nat) (t : DomType) (r : Option Recl) (f : Fld)
    (j : Nat) : (d.raise k u i a l t r).get f j = d.get f j := Dev.get_of_regs (by simp) f j
@[simp] theorem Dev.get_event (d : Dev) (e : Event) (u : Nat) (x : BitVec 32) (h : BitVec 64) (f : Fld) (j : Nat) :
    (d.event e u x h).get f j = d.get f j := Dev.get_of_regs (by simp) f j

/-- What happens on the fabric die happens while it is on. -/
@[simp] theorem Dev.onDie_on {d : Dev} (f : Dev → Dev) (h : d.die = true) : d.onDie f = f d := by simp [Dev.onDie, h]

/-- Nothing happens on the fabric die while it is off. -/
@[simp] theorem Dev.onDie_off {d : Dev} (f : Dev → Dev) (h : d.die = false) : d.onDie f = d := by simp [Dev.onDie, h]

end Sys2Proof.Machine
end

