-- ==== Sys2Proof/Laws/Settle.lean ====
section
/-!
SUPPORT. What the end of an edge does (R71, R492): the records raised on it take their places, and nothing else changes.
-/

namespace Sys2Proof.Machine

/-- An edge on which nothing is raised ends as it is. -/
theorem Dev.settle_none (d old : Dev) (h : d.flt.arr = []) : d.settle old = d := by
  simp only [Dev.settle, h, List.foldl_nil]
  rw [← h]

/-- One record, for which the input queue has room and whose unit may report, takes its place there. -/
theorem Dev.settle_one (d old : Dev) (c : Coded) (h : d.flt.arr = [c]) (hs : d.flt.stalled = [])
    (hq : d.flt.inq.length < 64) (hm : old.muted c = false) :
    d.settle old = { d with flt := { d.flt with arr := [], inq := d.flt.inq ++ [c] } } := by
  simp [Dev.settle, h, insertUnit, hm, Dev.queueRec, hs, hq]

theorem Dev.settle_induct {P : Dev → Prop} (d old : Dev) (h0 : P { d with flt := { d.flt with arr := [] } })
    (hl : ∀ e, P e → P e.lose) (hq : ∀ e c, P e → P (e.queueRec c)) : P (d.settle old) := by
  unfold Dev.settle
  generalize d.flt.arr.foldl (fun a c => insertUnit c a) [] = l
  revert h0
  generalize ({ d with flt := { d.flt with arr := [] } } : Dev) = e
  intro h0
  induction l generalizing e with
  | nil => exact h0
  | cons c l ih =>
    apply ih
    dsimp only
    split
    · exact hl _ h0
    · exact hq _ c h0

@[simp] theorem Dev.flt_lose (d : Dev) : d.lose.flt = d.flt := rfl

/-- R492: a record takes a place in the input queue, waits with its source, or is lost. -/
theorem Dev.queueRec_cases (d : Dev) (c : Coded) :
    d.queueRec c = { d with flt := { d.flt with inq := d.flt.inq ++ [c] } } ∨
    d.queueRec c = ({ d with flt := { d.flt with stalled := d.flt.stalled ++ [c] } } : Dev).count (cDev 7) ∨
    d.queueRec c = ({ d with flt := { d.flt with lostSince := d.flt.lostSince + 1 } } : Dev).lose := by
  unfold Dev.queueRec
  generalize c.stalls _ = b
  split
  · exact Or.inl rfl
  · cases b
    · exact Or.inr (Or.inr rfl)
    · exact Or.inr (Or.inl rfl)

@[simp] theorem Dev.arr_queueRec (d : Dev) (c : Coded) : (d.queueRec c).flt.arr = d.flt.arr := by
  rcases d.queueRec_cases c with h | h | h <;> rw [h] <;> rfl

/-- No record is left in flight at the end of an edge. -/
@[simp] theorem Dev.arr_settle (d old : Dev) : (d.settle old).flt.arr = [] :=
  Dev.settle_induct (P := fun e => e.flt.arr = []) d old rfl (fun _ h => h) (fun e c h => by simpa using h)

@[simp] theorem Dev.shadow_lose (d : Dev) : d.lose.shadow = d.shadow := rfl
@[simp] theorem Dev.shadow_queueRec (d : Dev) (c : Coded) : (d.queueRec c).shadow = d.shadow := by
  rcases d.queueRec_cases c with h | h | h <;> rw [h] <;> rfl
@[simp] theorem Dev.shadow_settle (d old : Dev) : (d.settle old).shadow = d.shadow :=
  Dev.settle_induct (P := fun e => e.shadow = d.shadow) d old rfl (fun _ h => h) (fun e c h => by simpa using h)
@[simp] theorem Dev.clk_lose (d : Dev) : d.lose.clk = d.clk := rfl
@[simp] theorem Dev.clk_queueRec (d : Dev) (c : Coded) : (d.queueRec c).clk = d.clk := by
  rcases d.queueRec_cases c with h | h | h <;> rw [h] <;> rfl
@[simp] theorem Dev.clk_settle (d old : Dev) : (d.settle old).clk = d.clk :=
  Dev.settle_induct (P := fun e => e.clk = d.clk) d old rfl (fun _ h => h) (fun e c h => by simpa using h)
@[simp] theorem Dev.mode_lose (d : Dev) : d.lose.mode = d.mode := rfl
@[simp] theorem Dev.mode_queueRec (d : Dev) (c : Coded) : (d.queueRec c).mode = d.mode := by
  rcases d.queueRec_cases c with h | h | h <;> rw [h] <;> rfl
@[simp] theorem Dev.mode_settle (d old : Dev) : (d.settle old).mode = d.mode :=
  Dev.settle_induct (P := fun e => e.mode = d.mode) d old rfl (fun _ h => h) (fun e c h => by simpa using h)
@[simp] theorem Dev.coh_lose (d : Dev) : d.lose.coh = d.coh := rfl
@[simp] theorem Dev.coh_queueRec (d : Dev) (c : Coded) : (d.queueRec c).coh = d.coh := by
  rcases d.queueRec_cases c with h | h | h <;> rw [h] <;> rfl
@[simp] theorem Dev.coh_settle (d old : Dev) : (d.settle old).coh = d.coh :=
  Dev.settle_induct (P := fun e => e.coh = d.coh) d old rfl (fun _ h => h) (fun e c h => by simpa using h)
@[simp] theorem Dev.bld_lose (d : Dev) : d.lose.bld = d.bld := rfl
@[simp] theorem Dev.bld_queueRec (d : Dev) (c : Coded) : (d.queueRec c).bld = d.bld := by
  rcases d.queueRec_cases c with h | h | h <;> rw [h] <;> rfl
@[simp] theorem Dev.bld_settle (d old : Dev) : (d.settle old).bld = d.bld :=
  Dev.settle_induct (P := fun e => e.bld = d.bld) d old rfl (fun _ h => h) (fun e c h => by simpa using h)
@[simp] theorem Dev.sw_lose (d : Dev) : d.lose.sw = d.sw := rfl
@[simp] theorem Dev.sw_queueRec (d : Dev) (c : Coded) : (d.queueRec c).sw = d.sw := by
  rcases d.queueRec_cases c with h | h | h <;> rw [h] <;> rfl
@[simp] theorem Dev.sw_settle (d old : Dev) : (d.settle old).sw = d.sw :=
  Dev.settle_induct (P := fun e => e.sw = d.sw) d old rfl (fun _ h => h) (fun e c h => by simpa using h)
@[simp] theorem Dev.ports_lose (d : Dev) : d.lose.ports = d.ports := rfl
@[simp] theorem Dev.ports_queueRec (d : Dev) (c : Coded) : (d.queueRec c).ports = d.ports := by
  rcases d.queueRec_cases c with h | h | h <;> rw [h] <;> rfl
@[simp] theorem Dev.ports_settle (d old : Dev) : (d.settle old).ports = d.ports :=
  Dev.settle_induct (P := fun e => e.ports = d.ports) d old rfl (fun _ h => h) (fun e c h => by simpa using h)
@[simp] theorem Dev.il_lose (d : Dev) : d.lose.il = d.il := rfl
@[simp] theorem Dev.il_queueRec (d : Dev) (c : Coded) : (d.queueRec c).il = d.il := by
  rcases d.queueRec_cases c with h | h | h <;> rw [h] <;> rfl
@[simp] theorem Dev.il_settle (d old : Dev) : (d.settle old).il = d.il :=
  Dev.settle_induct (P := fun e => e.il = d.il) d old rfl (fun _ h => h) (fun e c h => by simpa using h)
@[simp] theorem Dev.ins_lose (d : Dev) : d.lose.ins = d.ins := rfl
@[simp] theorem Dev.ins_queueRec (d : Dev) (c : Coded) : (d.queueRec c).ins = d.ins := by
  rcases d.queueRec_cases c with h | h | h <;> rw [h] <;> rfl
@[simp] theorem Dev.ins_settle (d old : Dev) : (d.settle old).ins = d.ins :=
  Dev.settle_induct (P := fun e => e.ins = d.ins) d old rfl (fun _ h => h) (fun e c h => by simpa using h)
@[simp] theorem Dev.brg_lose (d : Dev) : d.lose.brg = d.brg := rfl
@[simp] theorem Dev.brg_queueRec (d : Dev) (c : Coded) : (d.queueRec c).brg = d.brg := by
  rcases d.queueRec_cases c with h | h | h <;> rw [h] <;> rfl
@[simp] theorem Dev.brg_settle (d old : Dev) : (d.settle old).brg = d.brg :=
  Dev.settle_induct (P := fun e => e.brg = d.brg) d old rfl (fun _ h => h) (fun e c h => by simpa using h)
@[simp] theorem Dev.mgt_lose (d : Dev) : d.lose.mgt = d.mgt := rfl
@[simp] theorem Dev.mgt_queueRec (d : Dev) (c : Coded) : (d.queueRec c).mgt = d.mgt := by
  rcases d.queueRec_cases c with h | h | h <;> rw [h] <;> rfl
@[simp] theorem Dev.mgt_settle (d old : Dev) : (d.settle old).mgt = d.mgt :=
  Dev.settle_induct (P := fun e => e.mgt = d.mgt) d old rfl (fun _ h => h) (fun e c h => by simpa using h)
@[simp] theorem Dev.car_lose (d : Dev) : d.lose.car = d.car := rfl
@[simp] theorem Dev.car_queueRec (d : Dev) (c : Coded) : (d.queueRec c).car = d.car := by
  rcases d.queueRec_cases c with h | h | h <;> rw [h] <;> rfl
@[simp] theorem Dev.car_settle (d old : Dev) : (d.settle old).car = d.car :=
  Dev.settle_induct (P := fun e => e.car = d.car) d old rfl (fun _ h => h) (fun e c h => by simpa using h)
@[simp] theorem Dev.bay_lose (d : Dev) : d.lose.bay = d.bay := rfl
@[simp] theorem Dev.bay_queueRec (d : Dev) (c : Coded) : (d.queueRec c).bay = d.bay := by
  rcases d.queueRec_cases c with h | h | h <;> rw [h] <;> rfl
@[simp] theorem Dev.bay_settle (d old : Dev) : (d.settle old).bay = d.bay :=
  Dev.settle_induct (P := fun e => e.bay = d.bay) d old rfl (fun _ h => h) (fun e c h => by simpa using h)
@[simp] theorem Dev.bus_lose (d : Dev) : d.lose.bus = d.bus := rfl
@[simp] theorem Dev.bus_queueRec (d : Dev) (c : Coded) : (d.queueRec c).bus = d.bus := by
  rcases d.queueRec_cases c with h | h | h <;> rw [h] <;> rfl
@[simp] theorem Dev.bus_settle (d old : Dev) : (d.settle old).bus = d.bus :=
  Dev.settle_induct (P := fun e => e.bus = d.bus) d old rfl (fun _ h => h) (fun e c h => by simpa using h)
@[simp] theorem Dev.pwr_lose (d : Dev) : d.lose.pwr = d.pwr := rfl
@[simp] theorem Dev.pwr_queueRec (d : Dev) (c : Coded) : (d.queueRec c).pwr = d.pwr := by
  rcases d.queueRec_cases c with h | h | h <;> rw [h] <;> rfl
@[simp] theorem Dev.pwr_settle (d old : Dev) : (d.settle old).pwr = d.pwr :=
  Dev.settle_induct (P := fun e => e.pwr = d.pwr) d old rfl (fun _ h => h) (fun e c h => by simpa using h)
@[simp] theorem Dev.wire_lose (d : Dev) : d.lose.wire = d.wire := rfl
@[simp] theorem Dev.wire_queueRec (d : Dev) (c : Coded) : (d.queueRec c).wire = d.wire := by
  rcases d.queueRec_cases c with h | h | h <;> rw [h] <;> rfl
@[simp] theorem Dev.wire_settle (d old : Dev) : (d.settle old).wire = d.wire :=
  Dev.settle_induct (P := fun e => e.wire = d.wire) d old rfl (fun _ h => h) (fun e c h => by simpa using h)
@[simp] theorem Dev.out_lose (d : Dev) : d.lose.out = d.out := rfl
@[simp] theorem Dev.out_queueRec (d : Dev) (c : Coded) : (d.queueRec c).out = d.out := by
  rcases d.queueRec_cases c with h | h | h <;> rw [h] <;> rfl
@[simp] theorem Dev.out_settle (d old : Dev) : (d.settle old).out = d.out :=
  Dev.settle_induct (P := fun e => e.out = d.out) d old rfl (fun _ h => h) (fun e c h => by simpa using h)
@[simp] theorem Dev.rdata_lose (d : Dev) : d.lose.rdata = d.rdata := rfl
@[simp] theorem Dev.rdata_queueRec (d : Dev) (c : Coded) : (d.queueRec c).rdata = d.rdata := by
  rcases d.queueRec_cases c with h | h | h <;> rw [h] <;> rfl
@[simp] theorem Dev.rdata_settle (d old : Dev) : (d.settle old).rdata = d.rdata :=
  Dev.settle_induct (P := fun e => e.rdata = d.rdata) d old rfl (fun _ h => h) (fun e c h => by simpa using h)
@[simp] theorem Dev.freeCtr_lose (d : Dev) : d.lose.freeCtr = d.freeCtr := rfl
@[simp] theorem Dev.freeCtr_queueRec (d : Dev) (c : Coded) : (d.queueRec c).freeCtr = d.freeCtr := by
  rcases d.queueRec_cases c with h | h | h <;> rw [h] <;> rfl
@[simp] theorem Dev.freeCtr_settle (d old : Dev) : (d.settle old).freeCtr = d.freeCtr :=
  Dev.settle_induct (P := fun e => e.freeCtr = d.freeCtr) d old rfl (fun _ h => h) (fun e c h => by simpa using h)

theorem Dev.cell_lose (d : Dev) {k : Nat} (h : k ≠ F.FLT_LOST.LOST.key 0) : d.lose.regs.get 0 k = d.regs.get 0 k :=
  Dev.cell_put_other d F.FLT_LOST.LOST 0 _ k h

theorem Dev.cell_queueRec (d : Dev) (c : Coded) {k : Nat} (h : k ≠ F.FLT_LOST.LOST.key 0) :
    (d.queueRec c).regs.get 0 k = d.regs.get 0 k := by
  rcases d.queueRec_cases c with e | e | e <;> rw [e]
  · rfl
  · exact Dev.cell_lose _ h

/-- Every register cell but the count of lost records is as it was before the end of the edge. -/
theorem Dev.cell_settle (d old : Dev) {k : Nat} (h : k ≠ F.FLT_LOST.LOST.key 0) :
    (d.settle old).regs.get 0 k = d.regs.get 0 k :=
  Dev.settle_induct (P := fun e => e.regs.get 0 k = d.regs.get 0 k) d old rfl
    (fun e he => (Dev.cell_lose e h).trans he) (fun e c he => (Dev.cell_queueRec e c h).trans he)

theorem Dev.get_settle (d old : Dev) {f : Fld} {i : Nat} (h : f.key i ≠ F.FLT_LOST.LOST.key 0) :
    (d.settle old).get f i = d.get f i := by
  simp [Dev.get, fldGet, Dev.cell_settle d old h]

/-! ### The outcome of a command -/

@[simp] theorem State.upd_eq (s : State) (d : Dev) : s.upd d = .next { s with dev := d.settle s.dev } := rfl

/-- An outcome that keeps the queue. -/
def keepsQueue (s : State) : Host.Outcome State Fault Refusal → Prop
  | .next t => t.pending = s.pending
  | _ => True

theorem keepsQueue_upd (s : State) (d : Dev) : keepsQueue s (s.upd d) := rfl

end Sys2Proof.Machine
end

