-- ==== Sys2Proof/Laws/Foern.lean ====
section
/-!
SUPPORT. What a Foern request and a standard request do once they are accepted: the command's own part, answered.
-/

namespace Sys2Proof.Machine

/-- An accepted request comes while the fabric die is on. -/
theorem Dev.die_of_accepts {d : Dev} {r : FoernReq} {c : Cmd} (a : d.accepts r c = true) : d.die = true := by
  simp only [Dev.accepts, Bool.and_eq_true] at a
  exact a.1.1.1.1.1.1.1

theorem Dev.die_of_acceptsStd {d : Dev} {r : FoernReq} {c : StdCmd} (a : d.acceptsStd r c = true) : d.die = true := by
  simp only [Dev.acceptsStd, Bool.and_eq_true] at a
  exact a.1.1.1.1.1.1.1.1

/-- An accepted Foern request runs the command's own checks and effect, and is answered by what they find (R445, R447). -/
theorem Dev.foern_accepts {d : Dev} {r : FoernReq} {c : Cmd} (body : Hdr → List (BitVec 8) → Dev → Ans)
    (a : d.accepts r c = true) :
    d.foern r c body = (d.taken r.via).conclude r.via (hdrOf c.opcode r.raw)
      (body (hdrOf c.opcode r.raw) (r.raw.drop 8) (d.taken r.via)) := by
  simp only [Dev.accepts, Bool.and_eq_true, decide_eq_true_eq, Option.isNone_iff_eq_none, Bool.not_eq_true'] at a
  obtain ⟨⟨⟨⟨⟨⟨⟨-, h1⟩, h2⟩, h3⟩, h4⟩, h0⟩, h5⟩, h6⟩ := a
  have e1 : ¬ (r.raw.length < 8) := by omega
  have e2 : ¬ (r.via.largest < r.raw.length) := by omega
  unfold Dev.foern
  simp [h1, h2, h0, h5, h6, e1, e2]

/-- A Foern request that fails one of checks 1 to 5 changes nothing but its doorbell, the origin shown and the responses
(R445). -/
theorem Dev.foern_failed {d : Dev} {r : FoernReq} {c : Cmd} (body : Hdr → List (BitVec 8) → Dev → Ans) {x : Detail}
    (h1 : d.answers r.via = true) (h2 : d.served r.via = true) (h3 : 8 ≤ r.raw.length) (h4 : r.raw.length ≤ r.via.largest)
    (h0 : d.working r.via (hdrOf c.opcode r.raw) = false) (h5 : d.repeated r.via (hdrOf c.opcode r.raw) = none) (h6 : d.firstFailed r c (hdrOf c.opcode r.raw) = some x) :
    d.foern r c body = (d.taken r.via).respond ((hdrOf c.opcode r.raw).rsp r.via x []) := by
  have e1 : ¬ (r.raw.length < 8) := by omega
  have e2 : ¬ (r.via.largest < r.raw.length) := by omega
  unfold Dev.foern
  simp [h1, h2, h0, h5, h6, e1, e2]

/-- An accepted standard request runs the command's own part, and is answered by what it finds (R439). -/
theorem Dev.std_accepts {d : Dev} {r : FoernReq} {c : StdCmd} (body : Dev → Ans) (a : d.acceptsStd r c = true) :
    d.std r c body = (d.taken r.via).concludeStd r.via c (body (d.taken r.via)) := by
  simp only [Dev.acceptsStd, Bool.and_eq_true, decide_eq_true_eq] at a
  obtain ⟨⟨⟨⟨⟨⟨⟨⟨-, h1⟩, h2⟩, h3⟩, h4⟩, h5⟩, h6⟩, h7⟩, h8⟩ := a
  have e1 : ¬ (r.via.largest < r.raw.length) := by omega
  unfold Dev.std
  simp [h1, h2, h4, h5, h6, h7, h8, e1]

@[simp] theorem Dev.conclude_ok (d e : Dev) (v : Transport) (h : Hdr) (out : List (BitVec 8)) (st : List Stg) :
    d.conclude v h (.ok out e st) = (e.persisted h st).respond (h.rsp v .ok out) := rfl

@[simp] theorem Dev.conclude_fail (d : Dev) (v : Transport) (h : Hdr) (x : Detail) :
    d.conclude v h (Ans.fail x) = d.respond (h.rsp v x []) := rfl

@[simp] theorem Dev.conclude_err (d : Dev) (v : Transport) (h : Hdr) (x : Detail) (out : List (BitVec 8)) :
    d.conclude v h (.err x out) = d.respond (h.rsp v x out) := rfl

/-- A response is the newest of those issued. -/
@[simp] theorem Dev.rsp_respond (d : Dev) (r : Rsp) : (d.respond r).mgt.rsp = d.mgt.rsp ++ [r] := rfl

@[simp] theorem Dev.regs_respond (d : Dev) (r : Rsp) : (d.respond r).regs = d.regs := rfl

/-! ### A request that is taken, and staging -/

theorem Dev.taken_parts (d : Dev) (v : Transport) :
    ∃ (r : Tab Nat) (l : List (Transport × List (BitVec 8))), d.taken v = { d with regs := r, mgt := { d.mgt with inbox := l } } := by
  unfold Dev.taken
  cases v with
  | switchMbox m =>
    simp only [Dev.clearBell]
    split <;> exact ⟨_, _, rfl⟩
  | hostMbox p => exact ⟨_, _, rfl⟩
  | tenantMbox i => exact ⟨_, _, rfl⟩
  | bmcMctp e =>
    simp only [Dev.clearBell]
    split <;> exact ⟨_, _, rfl⟩
  | vdmMctp e =>
    simp only [Dev.clearBell]
    split <;> exact ⟨_, _, rfl⟩

@[simp] theorem Dev.persisted_nil (d : Dev) (h : Hdr) : d.persisted h [] = d := by simp [Dev.persisted, Dev.stage]

@[simp] theorem Dev.cnt_taken (d : Dev) (v : Transport) : (d.taken v).cnt = d.cnt := by
  obtain ⟨_, _, h⟩ := d.taken_parts v; rw [h]
@[simp] theorem Dev.shadow_taken (d : Dev) (v : Transport) : (d.taken v).shadow = d.shadow := by
  obtain ⟨_, _, h⟩ := d.taken_parts v; rw [h]
@[simp] theorem Dev.clk_taken (d : Dev) (v : Transport) : (d.taken v).clk = d.clk := by
  obtain ⟨_, _, h⟩ := d.taken_parts v; rw [h]
@[simp] theorem Dev.mode_taken (d : Dev) (v : Transport) : (d.taken v).mode = d.mode := by
  obtain ⟨_, _, h⟩ := d.taken_parts v; rw [h]
@[simp] theorem Dev.flt_taken (d : Dev) (v : Transport) : (d.taken v).flt = d.flt := by
  obtain ⟨_, _, h⟩ := d.taken_parts v; rw [h]
@[simp] theorem Dev.coh_taken (d : Dev) (v : Transport) : (d.taken v).coh = d.coh := by
  obtain ⟨_, _, h⟩ := d.taken_parts v; rw [h]
@[simp] theorem Dev.bld_taken (d : Dev) (v : Transport) : (d.taken v).bld = d.bld := by
  obtain ⟨_, _, h⟩ := d.taken_parts v; rw [h]
@[simp] theorem Dev.sw_taken (d : Dev) (v : Transport) : (d.taken v).sw = d.sw := by
  obtain ⟨_, _, h⟩ := d.taken_parts v; rw [h]
@[simp] theorem Dev.ports_taken (d : Dev) (v : Transport) : (d.taken v).ports = d.ports := by
  obtain ⟨_, _, h⟩ := d.taken_parts v; rw [h]
@[simp] theorem Dev.il_taken (d : Dev) (v : Transport) : (d.taken v).il = d.il := by
  obtain ⟨_, _, h⟩ := d.taken_parts v; rw [h]
@[simp] theorem Dev.ins_taken (d : Dev) (v : Transport) : (d.taken v).ins = d.ins := by
  obtain ⟨_, _, h⟩ := d.taken_parts v; rw [h]
@[simp] theorem Dev.brg_taken (d : Dev) (v : Transport) : (d.taken v).brg = d.brg := by
  obtain ⟨_, _, h⟩ := d.taken_parts v; rw [h]
@[simp] theorem Dev.car_taken (d : Dev) (v : Transport) : (d.taken v).car = d.car := by
  obtain ⟨_, _, h⟩ := d.taken_parts v; rw [h]
@[simp] theorem Dev.bay_taken (d : Dev) (v : Transport) : (d.taken v).bay = d.bay := by
  obtain ⟨_, _, h⟩ := d.taken_parts v; rw [h]
@[simp] theorem Dev.bus_taken (d : Dev) (v : Transport) : (d.taken v).bus = d.bus := by
  obtain ⟨_, _, h⟩ := d.taken_parts v; rw [h]
@[simp] theorem Dev.pwr_taken (d : Dev) (v : Transport) : (d.taken v).pwr = d.pwr := by
  obtain ⟨_, _, h⟩ := d.taken_parts v; rw [h]
@[simp] theorem Dev.wire_taken (d : Dev) (v : Transport) : (d.taken v).wire = d.wire := by
  obtain ⟨_, _, h⟩ := d.taken_parts v; rw [h]
@[simp] theorem Dev.out_taken (d : Dev) (v : Transport) : (d.taken v).out = d.out := by
  obtain ⟨_, _, h⟩ := d.taken_parts v; rw [h]
@[simp] theorem Dev.rdata_taken (d : Dev) (v : Transport) : (d.taken v).rdata = d.rdata := by
  obtain ⟨_, _, h⟩ := d.taken_parts v; rw [h]
@[simp] theorem Dev.freeCtr_taken (d : Dev) (v : Transport) : (d.taken v).freeCtr = d.freeCtr := by
  obtain ⟨_, _, h⟩ := d.taken_parts v; rw [h]
@[simp] theorem Dev.mgt_imgA_taken (d : Dev) (v : Transport) : (d.taken v).mgt.imgA = d.mgt.imgA := by
  obtain ⟨_, _, h⟩ := d.taken_parts v; rw [h]
@[simp] theorem Dev.mgt_imgB_taken (d : Dev) (v : Transport) : (d.taken v).mgt.imgB = d.mgt.imgB := by
  obtain ⟨_, _, h⟩ := d.taken_parts v; rw [h]
@[simp] theorem Dev.mgt_boot_taken (d : Dev) (v : Transport) : (d.taken v).mgt.boot = d.mgt.boot := by
  obtain ⟨_, _, h⟩ := d.taken_parts v; rw [h]
@[simp] theorem Dev.mgt_from__taken (d : Dev) (v : Transport) : (d.taken v).mgt.from_ = d.mgt.from_ := by
  obtain ⟨_, _, h⟩ := d.taken_parts v; rw [h]
@[simp] theorem Dev.mgt_fell_taken (d : Dev) (v : Transport) : (d.taken v).mgt.fell = d.mgt.fell := by
  obtain ⟨_, _, h⟩ := d.taken_parts v; rw [h]
@[simp] theorem Dev.mgt_svnMin_taken (d : Dev) (v : Transport) : (d.taken v).mgt.svnMin = d.mgt.svnMin := by
  obtain ⟨_, _, h⟩ := d.taken_parts v; rw [h]
@[simp] theorem Dev.mgt_fuses_taken (d : Dev) (v : Transport) : (d.taken v).mgt.fuses = d.mgt.fuses := by
  obtain ⟨_, _, h⟩ := d.taken_parts v; rw [h]
@[simp] theorem Dev.mgt_banks_taken (d : Dev) (v : Transport) : (d.taken v).mgt.banks = d.mgt.banks := by
  obtain ⟨_, _, h⟩ := d.taken_parts v; rw [h]
@[simp] theorem Dev.mgt_shadow_taken (d : Dev) (v : Transport) : (d.taken v).mgt.shadow = d.mgt.shadow := by
  obtain ⟨_, _, h⟩ := d.taken_parts v; rw [h]
@[simp] theorem Dev.mgt_deleted_taken (d : Dev) (v : Transport) : (d.taken v).mgt.deleted = d.mgt.deleted := by
  obtain ⟨_, _, h⟩ := d.taken_parts v; rw [h]
@[simp] theorem Dev.mgt_paramWr_taken (d : Dev) (v : Transport) : (d.taken v).mgt.paramWr = d.mgt.paramWr := by
  obtain ⟨_, _, h⟩ := d.taken_parts v; rw [h]
@[simp] theorem Dev.mgt_commit_taken (d : Dev) (v : Transport) : (d.taken v).mgt.commit = d.mgt.commit := by
  obtain ⟨_, _, h⟩ := d.taken_parts v; rw [h]
@[simp] theorem Dev.mgt_xfer_taken (d : Dev) (v : Transport) : (d.taken v).mgt.xfer = d.mgt.xfer := by
  obtain ⟨_, _, h⟩ := d.taken_parts v; rw [h]
@[simp] theorem Dev.mgt_running_taken (d : Dev) (v : Transport) : (d.taken v).mgt.running = d.mgt.running := by
  obtain ⟨_, _, h⟩ := d.taken_parts v; rw [h]
@[simp] theorem Dev.mgt_results_taken (d : Dev) (v : Transport) : (d.taken v).mgt.results = d.mgt.results := by
  obtain ⟨_, _, h⟩ := d.taken_parts v; rw [h]
@[simp] theorem Dev.mgt_held_taken (d : Dev) (v : Transport) : (d.taken v).mgt.held = d.mgt.held := by
  obtain ⟨_, _, h⟩ := d.taken_parts v; rw [h]
@[simp] theorem Dev.mgt_last_taken (d : Dev) (v : Transport) : (d.taken v).mgt.last = d.mgt.last := by
  obtain ⟨_, _, h⟩ := d.taken_parts v; rw [h]
@[simp] theorem Dev.mgt_asm_taken (d : Dev) (v : Transport) : (d.taken v).mgt.asm = d.mgt.asm := by
  obtain ⟨_, _, h⟩ := d.taken_parts v; rw [h]
@[simp] theorem Dev.mgt_rsp_taken (d : Dev) (v : Transport) : (d.taken v).mgt.rsp = d.mgt.rsp := by
  obtain ⟨_, _, h⟩ := d.taken_parts v; rw [h]
@[simp] theorem Dev.mgt_factory_taken (d : Dev) (v : Transport) : (d.taken v).mgt.factory = d.mgt.factory := by
  obtain ⟨_, _, h⟩ := d.taken_parts v; rw [h]
@[simp] theorem Dev.mgt_certs_taken (d : Dev) (v : Transport) : (d.taken v).mgt.certs = d.mgt.certs := by
  obtain ⟨_, _, h⟩ := d.taken_parts v; rw [h]
@[simp] theorem Dev.mgt_rspLimit_taken (d : Dev) (v : Transport) : (d.taken v).mgt.rspLimit = d.mgt.rspLimit := by
  obtain ⟨_, _, h⟩ := d.taken_parts v; rw [h]
@[simp] theorem Dev.mgt_evtPolicy_taken (d : Dev) (v : Transport) : (d.taken v).mgt.evtPolicy = d.mgt.evtPolicy := by
  obtain ⟨_, _, h⟩ := d.taken_parts v; rw [h]
@[simp] theorem Dev.mgt_cleared_taken (d : Dev) (v : Transport) : (d.taken v).mgt.cleared = d.mgt.cleared := by
  obtain ⟨_, _, h⟩ := d.taken_parts v; rw [h]
@[simp] theorem Dev.mgt_i3cAddr_taken (d : Dev) (v : Transport) : (d.taken v).mgt.i3cAddr = d.mgt.i3cAddr := by
  obtain ⟨_, _, h⟩ := d.taken_parts v; rw [h]

/-- Taking a request writes only the registers of the doorbells and of the origin shown. -/
theorem Dev.cell_taken (d : Dev) (v : Transport) {k : Nat}
    (h : ∀ f ∈ [F.MGT_CMD_STATUS.ORIGIN, F.MGT_MBX_SW.BELL_0, F.MGT_MBX_SW.BELL_1, F.MGT_MBX_SW.BELL_2, F.MGT_MBX_SW.BELL_3,
      F.MGT_MBX_HOST.BELL], k ≠ f.key 0)
    (hb : ∀ i, k ≠ F.MGT_MBX_TEN.BELL.key i) : (d.taken v).regs.get 0 k = d.regs.get 0 k := by
  simp only [List.mem_cons, List.not_mem_nil, or_false, forall_eq_or_imp, forall_eq] at h
  obtain ⟨h1, h2, h3, h4, h5, h6⟩ := h
  unfold Dev.taken
  rw [Dev.cell_put_other _ _ _ _ _ h1]
  cases v with
  | switchMbox m =>
    simp only [Dev.clearBell]
    split <;> apply Dev.cell_put_other <;> assumption
  | hostMbox p => exact Dev.cell_put_other _ _ _ _ _ h6
  | tenantMbox i => exact Dev.cell_put_other _ _ _ _ _ (hb _)
  | bmcMctp e =>
    simp only [Dev.clearBell]
    split <;> rfl
  | vdmMctp e =>
    simp only [Dev.clearBell]
    split <;> rfl

end Sys2Proof.Machine
end

