-- ==== Sys2Proof/Machine/Balls.lean ====
section
/-!
DEFINITION. The balls of the package (R617 to R627): which signal or supply each position of the grid carries.
-/

namespace Sys2Proof.Machine

/-! ### The grid (R617, R618, R621) -/

/-- A position: column and row, 1 to 70, seen from the lid. -/
abbrev Ball := Nat × Nat

/-- A distance from the nearer edge, 0 to 34. -/
def inward (c : Nat) : Nat := min (c - 1) (70 - c)

/-- The position lies in the keep-out at the centre. -/
def keepOut (b : Ball) : Bool := decide (31 ≤ b.1) && decide (b.1 ≤ 40) && decide (31 ≤ b.2) && decide (b.2 ≤ 40)

/-- A position of the grid with a ball: neither in a corner's cut-out nor in the keep-out. -/
def hasBall (b : Ball) : Bool :=
  decide (1 ≤ b.1) && decide (b.1 ≤ 70) && decide (1 ≤ b.2) && decide (b.2 ≤ 70) && decide (3 < inward b.1 + inward b.2) && !keepOut b

/-- Local coordinates of SerDes field `t`: `a` along the package edge, `e` the depth from it (R619). -/
def fieldBall (t : Fin 8) (a e : Nat) : Ball :=
  let h := t.val % 2
  match t.val / 2 with
  | 0 => (19 + 17 * h + a, 1 + e)
  | 1 => (70 - e, 19 + 17 * h + a)
  | 2 => (52 - 17 * h - a, 70 - e)
  | _ => (1 + e, 52 - 17 * h - a)

/-- Local coordinates of a corner, from the package corner (R621). -/
def cornerBall (k : Fin 4) (x y : Nat) : Ball :=
  match k with
  | 0 => (1 + x, 1 + y)
  | 1 => (70 - x, 1 + y)
  | 2 => (70 - x, 70 - y)
  | 3 => (1 + x, 70 - y)

/-! ### Signals (R548, R620, R622 to R624) -/

/-- One of a differential lane's four signals. -/
inductive LaneSig where
  | txp | txn | rxp | rxn
  deriving DecidableEq, Repr

/-- The thirteen balls of a bay, in the order of R622. -/
inductive BaySig where
  | gateA | gateB | preA | preB | isnsP | isnsN | vout | prsnt | perst | pwrdis | alert | pg | led
  deriving DecidableEq, Repr

/-- The signals of the package and the supplies that R623 places. A differential signal's `neg` says that it is the N side. -/
inductive Signal where
  | lane (n : Fin 256) (s : LaneSig)
  | refclk (t : Fin 8) (neg : Bool)
  | bay (b : Fin 32) (s : BaySig)
  | vbay (feedB : Bool) (i : Fin 5)
  | vbaySns (feedB : Bool)
  | vcpCf (k : Fin 2) (neg : Bool)
  | vcpOut (i : Fin 2)
  | vaux (i : Fin 8)
  | vrEn (ch : Fin 6)
  | vrPg (ch : Fin 6)
  | sysPwrok | sysReset | perstIn | wake | alert | fault | testEn | spare
  | xtalIn | xtalOut | aclkOut | diode (neg : Bool)
  | strap (k : Fin 8)
  | busScl (m : Fin 4) | busSda (m : Fin 4)
  | gpio (n : Fin 16)
  | spiSclk | spiCs | spiIo (k : Fin 4)
  | tck | tms | tdi | tdo | trst | tapsel
  | reserved (k : Fin 8)
  | bmcScl | bmcSda
  /-- pairs 0 to 15 are data lanes, pair 16 is the forwarded clock, pair 17 the credit pair -/
  | caravan (input : Bool) (j : Fin 18) (neg : Bool)
  deriving DecidableEq, Repr

/-- 1 for the second of two neighbours. -/
def side (b : Bool) : Nat := if b then 1 else 0

/-- R620: depth 4 × (n / 8), two deeper for the receiver, and the two neighbours of the pair. -/
def laneBall (n : Fin 256) (s : LaneSig) : Ball :=
  let l := n.val % 32
  let (rx, neg) := match s with
    | .txp => (0, 0)
    | .txn => (0, 1)
    | .rxp => (2, 0)
    | .rxn => (2, 1)
  fieldBall (Fin.ofNat 8 (n.val / 32)) (2 * (l % 8) + neg) (4 * (l / 8) + rx)

/-- The ball of a signal. -/
def signalBall : Signal → Ball
  | .lane n s => laneBall n s
  | .refclk t neg => fieldBall t (side neg) 16
  | .bay b s => cornerBall (Fin.ofNat 4 (b.val / 8)) (4 + s.ctorIdx) (3 + 2 * (b.val % 8))
  | .vbay feedB i => cornerBall 0 ((if feedB then 11 else 4) + i.val) 0
  | .vbaySns feedB => cornerBall 0 (9 + side feedB) 0
  | .vcpCf k neg => cornerBall 0 (3 + 2 * k.val + side neg) 1
  | .vcpOut i => cornerBall 0 (7 + i.val) 1
  | .vaux i => cornerBall 0 (9 + i.val) 1
  | .vrEn ch => cornerBall 0 0 (4 + ch.val)
  | .vrPg ch => cornerBall 0 0 (10 + ch.val)
  | .sysPwrok => cornerBall 0 1 3
  | .sysReset => cornerBall 0 1 4
  | .perstIn => cornerBall 0 1 5
  | .wake => cornerBall 0 1 6
  | .alert => cornerBall 0 1 7
  | .fault => cornerBall 0 1 8
  | .testEn => cornerBall 0 1 9
  | .spare => cornerBall 0 1 10
  | .xtalIn => cornerBall 0 1 11
  | .xtalOut => cornerBall 0 1 12
  | .aclkOut => cornerBall 0 1 13
  | .diode neg => cornerBall 0 1 (14 + side neg)
  | .strap k => cornerBall 0 2 (3 + k.val)
  | .busScl m => bus m 0
  | .busSda m => bus m 1
  | .gpio n => if n.val < 14 then cornerBall 1 (4 + n.val) 0 else cornerBall 1 (n.val - 11) 1
  | .spiSclk => cornerBall 1 5 1
  | .spiCs => cornerBall 1 6 1
  | .spiIo k => cornerBall 1 (7 + k.val) 1
  | .tck => cornerBall 1 11 1
  | .tms => cornerBall 1 12 1
  | .tdi => cornerBall 1 13 1
  | .tdo => cornerBall 1 14 1
  | .trst => cornerBall 1 15 1
  | .tapsel => cornerBall 1 16 1
  | .reserved k => cornerBall 1 0 (4 + k.val)
  | .bmcScl => cornerBall 1 1 3
  | .bmcSda => cornerBall 1 1 4
  | .caravan input j neg => cornerBall 2 (4 + 2 * (j.val % 6) + side neg) ((if input then 10 else 4) + 2 * (j.val / 6))
where
  bus (m : Fin 4) (k : Nat) : Ball :=
    match m with
    | 0 => cornerBall 0 2 (11 + k)
    | 1 => cornerBall 1 1 (5 + k)
    | m => cornerBall m 0 (4 + k)

/-- Every value of a `Fin`. -/
def fins (n : Nat) [NeZero n] : List (Fin n) := (List.range n).map (Fin.ofNat n)

/-- Every signal. -/
def signals : List Signal :=
  (fins 256).flatMap (fun n => [.lane n .txp, .lane n .txn, .lane n .rxp, .lane n .rxn]) ++
  (fins 8).flatMap (fun t => [.refclk t false, .refclk t true]) ++
  (fins 32).flatMap (fun b => [BaySig.gateA, .gateB, .preA, .preB, .isnsP, .isnsN, .vout, .prsnt, .perst, .pwrdis, .alert, .pg, .led].map
    (Signal.bay b)) ++
  (fins 5).flatMap (fun i => [.vbay false i, .vbay true i]) ++ [.vbaySns false, .vbaySns true] ++
  (fins 2).flatMap (fun k => [.vcpCf k false, .vcpCf k true, .vcpOut k]) ++ (fins 8).map .vaux ++
  (fins 6).flatMap (fun c => [.vrEn c, .vrPg c]) ++
  [.sysPwrok, .sysReset, .perstIn, .wake, .alert, .fault, .testEn, .spare, .xtalIn, .xtalOut, .aclkOut, .diode false, .diode true] ++
  (fins 8).map .strap ++ (fins 4).flatMap (fun m => [.busScl m, .busSda m]) ++ (fins 16).map .gpio ++
  [.spiSclk, .spiCs] ++ (fins 4).map .spiIo ++ [.tck, .tms, .tdi, .tdo, .trst, .tapsel] ++ (fins 8).map .reserved ++
  [.bmcScl, .bmcSda] ++
  (fins 18).flatMap fun j => [.caravan false j false, .caravan false j true, .caravan true j false, .caravan true j true]

/-! ### Supplies (R618, R621, R625) -/

/-- What a ball without a signal carries. -/
inductive Supply where
  | vss | vddCore | vddSram | vddaSer | vddhSer | vddio
  deriving DecidableEq, Repr

/-- The local positions of a corner by decreasing max(x, y), then by increasing x, then by increasing y. -/
def cornerOrder : List (Nat × Nat) :=
  (List.range 18).reverse.flatMap fun m => (List.range m).map (fun x => (x, m)) ++ (List.range (m + 1)).map fun y => (m, y)

/-- The positions of corner `k` that take a supply, in the order of R625. -/
def cornerFree (k : Fin 4) : List Ball :=
  let used := signals.map signalBall
  (cornerOrder.map fun p => cornerBall k p.1 p.2).filter fun b => hasBall b && !used.contains b

/-- The supply of a place in that order. -/
def cornerSupply (i : Nat) : Supply :=
  if i < 75 then .vddaSer else if i < 105 then .vddhSer else if i < 113 then .vddio else .vss

/-- A core position of the ground group. -/
def coreVss (b : Ball) : Bool :=
  let on (c : Nat) : Bool := decide (19 ≤ c) && decide (c ≤ 51) && (c - 19) % 4 == 0
  on b.1 && on b.2 && !keepOut b

/-- The core positions by increasing max(|2c − 71|, |2r − 71|), then by increasing column and row: ring `j` lies `j` positions around
the centre, and rings 0 to 4 are the keep-out. The four outermost corner positions belong to the corners. -/
def coreOrder : List Ball :=
  let ring (j : Nat) : List Ball :=
    let lo := 35 - j; let hi := 36 + j
    let cs := (List.range (2 * j + 2)).map (lo + ·)
    cs.flatMap fun c => if c = lo || c = hi then cs.map fun r => (c, r) else [(c, lo), (c, hi)]
  ((List.range 18).drop 5).flatMap ring |>.filter fun b => !((b.1 == 18 || b.1 == 53) && (b.2 == 18 || b.2 == 53))

/-- The supply of a core position. -/
def coreSupply (b : Ball) : Supply :=
  if coreVss b then .vss
  else if (coreOrder.filter fun x => !coreVss x).idxOf b < 240 then .vddSram else .vddCore

/-- What a position carries: a signal, a supply, or nothing; the rest of a SerDes field is ground. -/
def ballOf (b : Ball) : Option (Signal ⊕ Supply) :=
  if !hasBall b then none
  else match signals.find? fun s => signalBall s == b with
    | some s => some (.inl s)
    | none =>
      match (fins 4).find? fun k => (cornerFree k).contains b with
      | some k => some (.inr (cornerSupply ((cornerFree k).idxOf b)))
      | none => some (.inr (if coreOrder.contains b then coreSupply b else .vss))

/-! ### Domains (R626, R627) -/

/-- The supply that powers a signal ball. -/
inductive BallDomain where
  | vaux | vddio
  deriving DecidableEq, Repr

/-- The domain of a signal ball; the SerDes, reference clock and thermal diode balls and the supplies have none. -/
def Signal.domain : Signal → Option BallDomain
  | .lane _ _ | .refclk _ _ | .diode _ | .vbay _ _ | .vbaySns _ | .vcpCf _ _ | .vcpOut _ | .vaux _ | .reserved _ | .spare => none
  | .sysPwrok | .sysReset | .perstIn | .wake | .alert | .fault | .testEn | .vrEn _ | .vrPg _ | .xtalIn | .xtalOut | .aclkOut
  | .bay _ _ => some .vaux
  | .strap k => some (if k = 5 then .vaux else .vddio)
  | _ => some .vddio

/-- A signal with an internal pull-down, or pull-up (R630). -/
def Signal.pullDown : Signal → Bool
  | .testEn | .trst | .tapsel | .strap _ => true
  | _ => false

def Signal.pullUp : Signal → Bool
  | .tck | .tms | .tdi | .bay _ .prsnt => true
  | _ => false

/-- An open-drain output (R630). -/
def Signal.openDrain : Signal → Bool
  | .alert | .fault | .bay _ .led | .busScl _ | .busSda _ | .bmcScl | .bmcSda => true
  | _ => false

end Sys2Proof.Machine
end

