-- ==== Sys2Proof/Tests/Slice0.lean ====
section
/-!
SUPPORT. Small tests of one step each, the smoke test of WellFormed, and, for every statement with hypotheses, states and
operands that meet the hypotheses of its clauses together: `test_meets_<statement>`.
-/

namespace Sys2Proof.Tests

open Sys2Proof.Machine

-- One theorem at a time: each thread of its own would reserve a stack.
set_option Elab.async false

/-! ### Small states -/

/-- Fields written one after the other. -/
def sets (d : Dev) (l : List (Fld × Nat × Nat)) : Dev := l.foldl (fun d x => d.put x.1 x.2.1 x.2.2) d

/-- A port with a personality, a role and a width, up, with its number plus one as its edge ID. -/
def withPort (d : Dev) (p pers role width : Nat) : Dev :=
  (sets d [(F.PRT_CFG.PERSONALITY, p, pers), (F.PRT_CFG.ROLE, p, role), (F.PRT_CFG.WIDTH, p, width), (F.TIL_PCFG.EDGE_ID, p, p + 1),
    (F.TIL_PCFG.EDGE_VALID, p, 1),
    (F.PRT_STATUS.LTSSM, p, 4), (F.TIL_ROUTE.VALID, p + 1, 1), (F.TIL_ROUTE.PORT, p + 1, p)]).setPrt p { d.prt p with up := true }

/-- The device with its rails on and its firmware ready, in Service. -/
def live : Dev :=
  let d := sets Dev.reset [(F.PWR_STATUS.STATE, 0, 3), (F.PWR_STATUS.EN, 0, 63), (F.PWR_STATUS.PG, 0, 63), (F.PWR_STATUS.PWROK, 0, 1),
    (F.MGT_FW_STATUS.STATE, 0, 2), (F.GLB_CLK_STATUS.CORE_LOCK, 0, 1), (F.GLB_CLK_STATUS.MGMT_LOCK, 0, 1),
    (F.MGT_XPORT.HOST_MBOX_EN, 0, 1), (F.MGT_XPORT.TENANT_MBOX_EN, 0, 1), (F.MGT_XPORT.BMC_EN, 0, 1)]
  { d with mode := .service, pwr := { d.pwr with sysRst := false, perst := false }, flt := { d.flt with running := true } }

/-- With two host ports (0, 1), two target ports (2, 3) and two interlink ports (16, 24) up. -/
def base : Dev :=
  sets (withPort (withPort (withPort (withPort (withPort (withPort live 0 1 0 3) 1 1 0 3) 2 1 1 3) 3 1 1 3) 16 2 2 5) 24 2 2 3)
    [(F.PRT_IL_STATUS.STATE, 16, 5), (F.PRT_IL_STATUS.STATE, 24, 5)]

def inMode (d : Dev) (m : Mode) : Dev := { d with mode := m }

def at_ (d : Dev) : State := { dev := d, pending := [] }

/-- A Foern request of the FM with a selector and a payload. -/
def rq (sel : Nat) (pay : List (BitVec 8)) : FoernReq :=
  { via := .switchMbox 0, raw := [1, 0] ++ bytes 2 sel ++ [0, 0, 0, 0] ++ pay }

/-- A command answers a next state of which `p` holds. -/
def gives (o : Host.Outcome State Fault Refusal) (p : Dev → Bool) : Bool :=
  match o with
  | .next t => p t.dev
  | _ => false

theorem ldBound_unlisted (d : Dev) (e ld : Nat) (v : Bool) (h : d.listed F.TIL_VPPB.STATE = []) : d.ldBound e ld v = false := by
  have : ∀ i < 2048, d.get F.TIL_VPPB.STATE i = 0 := fun i hi => Dev.get_unlisted d _ (by omega) h
  simp +contextual [Dev.ldBound, this]

theorem ldWindowed_unlisted (d : Dev) (e ld : Nat) (v : Bool) (h : d.listed F.WIN.VALID = []) : d.ldWindowed e ld v = false := by
  have : ∀ i < 256, d.get F.WIN.VALID i = 0 := fun i hi => Dev.get_unlisted d _ (by omega) h
  simp +contextual [Dev.ldWindowed, Dev.bit, this]

/-! ### WellFormed refuses what no link can carry -/

def hdr0 : IlHdr := { seq := 0, ack := 0, nak := none, gbn := false, crVc := 0, crCount := 0 }
def msg0 : Msg := { op := .rdS }
def slot0 : IlSlot := { vc := 0, pos := 0, colour := 0, len := 1, icls := 0, part := 0, m := msg0 }
def par0 : IlParam :=
  { node := 0, serial := 1, session := 0, resume := false, quads := 15, rxExp := 0, pools := [8, 8, 8, 8, 8, 8], freed := [0, 0, 0, 0, 0, 0] }

theorem test_illFormed :
    Instr.wellFormed (.ilFlitReceive 16 ⟨{ hdr := hdr0, body := .data [slot0, slot0, slot0, slot0, slot0] }, 0, 0⟩) = false ∧
    Instr.wellFormed (.ilFlitReceive 16 ⟨{ hdr := hdr0, body := .replay [slot0, slot0, slot0, slot0, slot0] }, 0, 0⟩) = false ∧
    Instr.wellFormed (.ilFlitReceive 16 ⟨{ hdr := hdr0, body := .idle [0, 0, 0, 0, 0] }, 0, 0⟩) = false ∧
    Instr.wellFormed (.ilFlitReceive 16 ⟨{ hdr := hdr0, body := .ctrl (.param { par0 with pools := [] }) }, 0, 0⟩) = false ∧
    Instr.wellFormed (.ilParamReceive 16 hdr0 { par0 with pools := [8] }) = false ∧
    Instr.wellFormed (.ilParamReceive 16 hdr0 { par0 with freed := [0] }) = false ∧
    Instr.wellFormed (.caravanDataReceive [] 64) = false ∧
    Instr.wellFormed (.caravanDataReceive (List.replicate 61 0) 64) = false := by decide +kernel

theorem test_wellFormed :
    Instr.wellFormed (.ilFlitReceive 16 ⟨{ hdr := hdr0, body := .data [slot0, slot0, slot0, slot0] }, 0, 0⟩) = true ∧
    Instr.wellFormed (.ilFlitReceive 16 ⟨{ hdr := hdr0, body := .idle [0, 0, 0, 0, 0, 0] }, 0, 0⟩) = true ∧
    Instr.wellFormed (.ilParamReceive 16 hdr0 par0) = true ∧ Instr.wellFormed (.caravanDataReceive [0] 64) = true ∧
    Instr.wellFormed (.caravanDataReceive (List.replicate 60 0) 64) = true ∧ Instr.wellFormed .railRestart = true := by
  decide +kernel

/-! ### The queue, the reset state and requests -/

theorem test_meets_IdleStepIsAnEdge :
    State.reset.pending = [] ∧ State.reset.dev.powered = false ∧ (at_ live).pending = [] ∧ live.powered = true := by decide +kernel

theorem test_meets_ExecKeepsTheQueue :
    gives (exec .railRestart State.reset) (fun _ => true) = true ∧ gives (exec .crystalStop (at_ live)) (fun _ => true) = true := by
  decide +kernel

theorem test_meets_EveryStepGoesOn :
    State.reset.queueOk = true ∧ State.reset.dev.quiet = true ∧ ({ at_ base with pending := [.railRestart] } : State).queueOk = true ∧
    base.quiet = true ∧ [Instr.railRestart, .ilParamReceive 16 hdr0 par0].all Instr.wellFormed = true := by decide +kernel

theorem test_meets_RequestChecks :
    let d := live
    let off := sets d [(F.MGT_XPORT.BMC_EN, 0, 0), (F.MGT_XPORT.HOST_MBOX_EN, 0, 0)]
    let r := rq 0xFFFF []
    let x : Rsp := (hdrOf 0xC000 r.raw).rsp (.bmcMctp 8) .ok []
    let kept : Dev := { d with mgt := { d.mgt with last := [x] } }
    d.die = true ∧ d.answers r.via = true ∧ d.served r.via = true ∧
    off.die = true ∧ off.answers (.bmcMctp 8) = true ∧ off.served (.bmcMctp 8) = false ∧ off.served (.hostMbox 0) = false ∧
    ([] : List (BitVec 8)).length < 8 ∧ r.via.largest < (List.replicate 4097 (0 : BitVec 8)).length ∧
    8 ≤ r.raw.length ∧ r.raw.length ≤ r.via.largest ∧
    d.repeated r.via (hdrOf 0xC000 r.raw) = none ∧ d.working r.via (hdrOf 0xC000 r.raw) = false ∧
    kept.working (.bmcMctp 8) (hdrOf 0xC000 r.raw) = false ∧
    ({ d with mgt := { d.mgt with held := some { via := .bmcMctp 8, hdr := hdrOf 0xC002 r.raw } } } : Dev).working (.bmcMctp 8)
      (hdrOf 0xC002 r.raw) = true ∧ kept.repeated (.bmcMctp 8) (hdrOf 0xC000 r.raw) = some x ∧
    d.firstFailed { r with raw := [2, 0, 0, 0, 0, 0, 0, 0] } (parCmd 0xC006) (hdrOf 0xC006 r.raw) = some .invalidParam ∧
    d.firstFailed { r with via := .hostMbox 3 } (fmCmd 0xC200) (hdrOf 0xC200 r.raw) = some .privilege ∧
    d.firstFailed r { opcode := 0xCF01, factory := true, may := fun _ _ _ => true, modes := fun m => m = .factory }
      (hdrOf 0xCF01 r.raw) = some .factoryOnly ∧
    (inMode d .standby).firstFailed r { opcode := 0xC000, may := anyOne, modes := dieModes } (hdrOf 0xC000 r.raw) = some .wrongMode ∧
    d.firstFailed r (fmCmd 0xC200) (hdrOf 0xC200 r.raw) = none ∧ noItem 0xC100 = false ∧
    d.firstFailed (rq 5 []) (portCmd 0xC100) (hdrOf 0xC100 (rq 5 []).raw) = none := by decide +kernel

/-! ### Reset, modes and power -/

theorem test_meets_ResetsAndBoot :
    let on := live
    let off := Dev.reset
    let held : Dev := { live with pwr := { live.pwr with sysRst := true } }
    let pe : Dev := { live with pwr := { live.pwr with perst := true } }
    on.pwr.sysRst = false ∧ on.pwr.perst = false ∧ on.get F.PWR_STATUS.STATE = 3 ∧ on.mode ≠ .factory ∧
    off.pwr.sysRst = false ∧ off.pwr.perst = true ∧ off.get F.PWR_STATUS.STATE ≠ 3 ∧
    held.pwr.sysRst = true ∧ held.pwr.perst = false ∧ held.get F.PWR_STATUS.STATE = 3 ∧
    pe.pwr.perst = true ∧ pe.pwr.sysRst = false ∧ pe.get F.PWR_STATUS.STATE = 3 ∧
    (inMode on .factory).mode = .factory ∧ (inMode on .factory).get F.PWR_STATUS.STATE = 3 ∧
    on.pwr.refLost.getLsbD 0 = false ∧ (0xF7 : BitVec 8).getLsbD 3 = false ∧ (∀ u < 3, (0xF7 : BitVec 8).getLsbD u = true) ∧
    on.pwr.straps.getLsbD 4 = false ∧ (0x10 : BitVec 7).getLsbD 4 = true := by decide +kernel

def modeCmd : Cmd :=
  { opcode := 0xC002, may := fun p _ _ => fmOnly p, modes := fun m => m = .service || m = .degraded || m = .quiesce || m = .factory }

def inTrans (x : Trans) : Dev := { live with pwr := { live.pwr with trans := some x } }

theorem test_meets_ModeCommands :
    let d := live
    let x (p : Option StdPhase) : Trans := { target := 0, rank := 6, std := p }
    let e : Entry := { Entry.free with st := .s, sharers := 1 }
    let up : Dev := { inMode live .bringUp with pwr := { live.pwr with reconciled := true } }
    (∀ k ∈ [1, 4, 0], d.accepts (rq 0xFFFF (bytes 1 k ++ [0, 0x10, 0x27])) modeCmd = true) ∧
    (inMode d .quiesce).accepts (rq 0xFFFF [2, 0, 0, 0]) modeCmd = true ∧
    le [0, 0, 0x10, 0x27] 2 2 ≤ 10000 ∧ d.pwr.trans = none ∧ d.mgt.held = none ∧ d.mgt.running = [] ∧
    (d.taken (.switchMbox 0)).insBusy = false ∧
    (inTrans (x none)).die = true ∧ (inTrans (x none)).drained = true ∧ (inTrans (x (some .drain))).drained = true ∧
    (∀ p < 64, ((inTrans (x (some .drain))).prt p).layover = false) ∧
    (inTrans (x (some .walks))).noDeadWalk = true ∧ ((inTrans (x (some .walks))).putEntry 16 e).noDeadWalk = true ∧
    (∃ y ∈ ((inTrans (x (some .walks))).putEntry 16 e).coh.dir, y.2.st ≠ .u) ∧
    (inTrans (x (some .walks))).coh.dir = [] ∧ (inTrans (x (some .walks))).coh.slices = [] ∧
    (inTrans (x (some .poison))).coh.slices = [] ∧
    up.die = true ∧ up.get F.MGT_FW_STATUS.STATE = 2 ∧ up.bit F.GLB_CLK_STATUS.CORE_LOCK = true ∧ up.flt.running = true ∧
    (up.selfTests 0).mayServe = true ∧ (up.selfTests 0xFF).mayServe = false := by decide +kernel

def inSeq (d : Dev) (q : Seq) : Dev := { d with pwr := { d.pwr with seqr := q } }

theorem test_meets_RailSequencer :
    let d := live
    let entry := sets live [(F.PWR_STATUS.STATE, 0, 1)]
    (inSeq d (.down false)).topCh = some 5 ∧ d.get F.PWR_STATUS.EN < 2 ^ 6 ∧ d.get F.PWR_STATUS.EN ≠ 2 ^ 5 ∧ d.pwr.seqr = .idle ∧
    (inSeq d (.up 5 true)).nextCh 5 = none ∧ (inSeq d (.up 0 true)).nextCh 0 = some 1 ∧ (inSeq d (.up 0 true)).pwr.seqr = .up 0 true ∧
    (inSeq d (.up 3 false)).pwr.seqr = .up 3 false ∧ (inSeq d .pll).pwr.seqr = .pll ∧ (inSeq d .retry).pwr.seqr = .retry ∧
    (inSeq entry .entry).powered = true ∧ (inSeq entry .entry).get F.PWR_STATUS.STATE = 1 ∧ entry.pwr.pair = none ∧
    ({ d.pwr with pair := some (0, 0) } : PwrSt).pair ≠ none ∧ (inSeq entry .entry).pwr.seqr = .entry ∧
    (inSeq entry .saving).pwr.seqr = .saving ∧ (inSeq entry .saving).get F.PWR_STATUS.STATE = 1 ∧
    (inSeq (sets Dev.reset [(F.PWR_STATUS.EN, 0, 32)]) (.down false)).mode = .standby ∧
    (sets Dev.reset [(F.PWR_STATUS.EN, 0, 32)]).get F.PWR_STATUS.EN = 2 ^ 5 ∧ Dev.reset.pwr.latched = none ∧
    (inSeq d .restore).pwr.seqr = .restore ∧ d.pwr.keepBad = false ∧ ({ d.pwr with keep := some d.keepImg } : PwrSt).keep = some d.keepImg ∧
    ((sets d [(F.PWR_WAKE_SOURCE.SOURCES, 0, 1)]).get F.PWR_WAKE_SOURCE.SOURCES).testBit 6 = false ∧ ({ d.pwr with keepBad := true } : PwrSt).keepBad = true ∧
    d.pwr.restart = false ∧ ({ d.pwr with restart := true } : PwrSt).restart = true := by decide +kernel

theorem test_meets_WakeLoadsTime :
    let p : PwrSt := { PwrSt.reset with seqr := .finish, pair := some (0xFFFFFFFFFFFFFFFF, 0xFFFFFFFFFFFF) }
    let s : State := { State.reset with dev := { Dev.reset with pwr := p } }
    s.dev.pwr.seqr = .finish ∧ s.dev.pwr.pair = some (0xFFFFFFFFFFFFFFFF, 0xFFFFFFFFFFFF) := by decide +kernel

theorem test_meets_WakesAndSupplies :
    let d := live
    let off := sets Dev.reset [(F.PWR_STATUS.PWROK, 0, 1)]
    let dn := sets live [(F.PWR_STATUS.STATE, 0, 1), (F.PWR_WAKE_EN.BMC, 0, 1)]
    let w (v : Nat) : WakeSrc := { sources := 8, bay := 0, timer := v }
    let tm (v : Nat) := sets live [(F.PWR_TIMER.EN, v, 1), (F.PWR_WAKE_EN.TIMER, 0, 0)]
    d.get F.PWR_STATUS.STATE = 3 ∧
    off.get F.PWR_STATUS.STATE = 0 ∧ off.bit F.PWR_STATUS.PWROK = true ∧ off.pwr.latched = none ∧ off.pwr.lost = false ∧
    dn.get F.PWR_STATUS.STATE = 1 ∧ dn.bit F.PWR_CTL.MODE_REQ = false ∧ dn.pwr.latched = none ∧ dn.bit F.PWR_WAKE_EN.BMC = true ∧
    (sets d [(F.PWR_WAKE_EN.WAKE_PIN, 0, 0)]).bit F.PWR_WAKE_EN.WAKE_PIN = false ∧
    (let t := sets off [(F.PWR_TIMER.EN, 3, 1), (F.PWR_WAKE_EN.TIMER, 0, 1), (F.GLB_CLAIM_TIMERB.FUNC, 3, 0x200)]
     t.bit F.PWR_TIMER.EN 3 = true ∧ t.bit F.PWR_WAKE_EN.TIMER = true ∧ t.get F.GLB_CLAIM_TIMERB.FUNC 3 = 0x200 ∧
       t.get F.PWR_STATUS.STATE = 0 ∧ t.bit F.PWR_STATUS.PWROK = true ∧ t.pwr.latched = none ∧ t.pwr.lost = false) ∧
    (tm 0).bit F.PWR_TIMER.EN 0 = true ∧ (tm 3).bit F.PWR_TIMER.EN 3 = true ∧ (tm 3).bit F.PWR_WAKE_EN.TIMER = false ∧
    4 ≤ (15 : Fin 16).val ∧ d.bit F.PWR_TIMER.EN 2 = false ∧
    ({ off.pwr with latched := some (w 3) } : PwrSt).latched = some (w 3) ∧
    (d.get F.PWR_STATUS.PG).testBit 5 = true ∧ (d.get F.PWR_STATUS.EN).testBit 5 = true ∧ (off.get F.PWR_STATUS.PG).testBit 5 = false ∧
    (sets d [(F.PWR_STATUS.EN, 0, 31)]).get F.PWR_STATUS.EN = 31 ∧
    d.die = true ∧ d.powered = true ∧ (d.get F.PWR_SAG_STATUS.WARN).testBit 6 = false ∧
    ((sets d [(F.PWR_SAG_STATUS.SHED, 0, 63)]).get F.PWR_SAG_STATUS.SHED).testBit 5 = true ∧ off.powered = false ∧
    d.get F.PWR_THERM_STATUS.LEVEL < 4 ∧
    (sets d [(F.PWR_SAG_STATUS.STAGE, 0, 3)]).shedWant < (sets d [(F.PWR_SAG_STATUS.STAGE, 0, 3)]).get F.PWR_SAG_STATUS.STAGE ∧
    d.get F.PWR_SAG_STATUS.STAGE ≤ d.shedWant := by decide +kernel

theorem test_meets_TilePowerAndCommands :
    let d := live
    let t (st : Nat) := sets d [(F.TIL_PWR_STATUS.STATE, 7, st), (F.TIL_PWR_CTL.NAP_IDLE, 7, 1), (F.TIL_PWR_CTL.RETAIN_EN, 7, 1),
      (F.TIL_PWR_CTL.OFF_EN, 7, 1)]
    let w (st : Nat) := sets (t st) [(F.TIL_PWR_STATUS.WAKING, 7, 1)]
    (t 0).die = true ∧ (t 0).get F.TIL_PWR_STATUS.STATE 7 = 0 ∧ (t 0).get F.TIL_PWR_CTL.NAP_IDLE 7 ≠ 0 ∧ (t 0).tileIdle 7 = true ∧
    (t 1).get F.TIL_PWR_STATUS.STATE 7 = 1 ∧ (t 1).bit F.TIL_PWR_STATUS.WAKING 7 = false ∧ (t 1).bit F.TIL_PWR_CTL.RETAIN_EN 7 = true ∧
    (t 1).tileIdle 7 = true ∧ (t 1).foldsFree 7 = true ∧ (∀ k < 8, ((t 1).prt (7 * 8 + k)).up = false) ∧
    (t 2).get F.TIL_PWR_STATUS.STATE 7 < 3 ∧ (t 2).bit F.TIL_PWR_CTL.OFF_EN 7 = true ∧ (t 2).tileIdle 7 = true ∧ (t 2).foldsFree 7 = true ∧
    (∀ k < 8, (t 2).get F.PRT_CFG.PERSONALITY (7 * 8 + k) = 0) ∧ (t 2).anyWindow = false ∧ (t 2).coh.dir = [] ∧ ((t 2).slice 7).marks = [] ∧
    (t 2).auxUsed 7 .straggler = 0 ∧ (t 2).auxUsed 7 .blend = 0 ∧ (t 2).auxUsed 7 .telemetry = 0 ∧
    (t 3).get F.TIL_PWR_STATUS.STATE 7 = 3 ∧ (w 3).bit F.TIL_PWR_STATUS.WAKING 7 = true ∧ (w 3).get F.TIL_PWR_STATUS.STATE 7 = 3 ∧
    (w 1).get F.TIL_PWR_STATUS.STATE 7 ≠ 3 := by decide +kernel

theorem test_meets_TilePowerAndCommands_requests :
    let d := live
    let st : Cmd := { opcode := 0xC900, may := fun p _ _ => fmOrMonitor p, modes := dieModes }
    d.accepts (rq 0xFFFF []) st = true ∧ d.accepts (rq 0xFFFF (bytes 4 3)) (pwrCmd 0xC901) = true ∧
    d.accepts (rq 0xFFFF (bytes 4 2 ++ bytes 4 0 ++ bytes 4 127 ++ bytes 16 0)) (pwrCmd 0xC902) = true ∧
    d.accepts (rq 3 (bytes 4 1 ++ bytes 4 (2 ^ 31 - 1))) (pwrCmd 0xC903) = true ∧
    (hdrOf 0xC903 (rq 3 []).raw).sel = BitVec.ofNat 16 3 ∧ d.get F.GLB_CLAIM_TIMERB.FUNC 3 = 0 ∧
    (sets d [(F.GLB_CLAIM_TIMERB.FUNC, 0, 0x200)]).accepts (rq 0 (bytes 8 0)) (pwrCmd 0xC903) = true ∧
    d.accepts (rq 7 (bytes 4 (2 ^ 26 - 1 - 2 ^ 11))) (pwrCmd 0xC904) = true ∧ (2 ^ 26 - 1 - 2 ^ 11).testBit 11 = false := by decide +kernel

theorem test_meets_FtcRate : Clock.reset.slew = 0 ∧ Clock.reset.res < 12 ∧ ({ Clock.reset with res := 11 } : Clock).res < 12 := by decide +kernel

theorem test_meets_TimeClocksAndGpio :
    let src (k p : Nat) := sets base [(F.GLB_TIME_CTL.SOURCE, 0, k), (F.GLB_TIME_CTL.PORT, 0, p)]
    let g (c : Nat) := sets base [(F.GLB_CLAIM_GPIO.FUNC, 15, c)]
    base.die = true ∧ base.get F.GLB_TIME_CTL.SOURCE = 0 ∧ (src 1 0).get F.GLB_TIME_CTL.SOURCE = 1 ∧ ((src 1 0).prt 0).up = true ∧
    (src 1 0).isIl 0 = false ∧ (BitVec.ofNat 64 (src 1 0).stepNs).toInt.natAbs ≤ (src 1 0).stepNs ∧
    (src 1 0).stepNs < (BitVec.ofNat 64 ((src 1 0).stepNs + 1)).toInt.natAbs ∧
    (src 2 16).get F.GLB_TIME_CTL.SOURCE = 2 ∧ ((src 2 16).prt 16).up = true ∧ (src 2 16).isIl 16 = true ∧ ((src 2 16).ilRt 16).timeReq = none ∧
    base.pwr.refLost.getLsbD 0 = false ∧ base.bit F.GLB_CLK_STATUS.CORE_LOCK = true ∧ base.get F.GLB_CLK_STATUS.REF_TILE = 0 ∧
    base.get F.GLB_CLK_STATUS.REF_TILE ≠ 7 ∧ (0x80 : BitVec 8).getLsbD 7 = true ∧
    (sets base [(F.PWR_TIME_STATUS.RC_NOW, 0, 0)]).bit F.PWR_TIME_STATUS.RC_NOW = false ∧ base.powered = true ∧ Dev.reset.powered = false ∧
    base.bit F.PWR_TIME_STATUS.RC_NOW = true ∧
    (g 0).get F.GLB_CLAIM_GPIO.FUNC 15 = 0 ∧ (g 0x101).get F.GLB_CLAIM_GPIO.FUNC 15 = 0x101 ∧ (g 0x102).get F.GLB_CLAIM_GPIO.FUNC 15 = 0x102 ∧
    (g 0x104).get F.GLB_CLAIM_GPIO.FUNC 15 = 0x104 ∧ (g 0x101).die = true ∧
    base.mode ≠ .bringUp ∧ base.mode ≠ .quiesce ∧ (inMode base .quiesce).die = true := by decide +kernel

/-! ### Counters, register access, mailboxes -/

theorem test_meets_CountersAndCommands :
    let d : Dev := { live with cnt := [(cPort 0 4, 2 ^ 48 - 1 + 2 ^ 48), (cPort 0 5, 7)] }
    let lv : List (BitVec 8) := bytes 4 0x0B100000 ++ bytes 2 1 ++ bytes 2 1
    d.cnt.get 0 (cPort 0 4) = (2 ^ 48 - 1) + 2 ^ 48 ∧ d.cnt.get 0 (cPort 0 5) = 7 ∧ 2 ^ 48 - 1 + 0 < 2 ^ 48 ∧ 2 ^ 48 ≤ 2 ^ 48 - 1 + 1 ∧
    Tab.wf 0 d.cnt = true ∧ d.die = true ∧ d.quiet = true ∧ d.accepts (rq 0xFFFF []) (cntCmd 0xCA00) = true ∧
    d.accepts (rq 0xFFFF lv) (cntCmd 0xCA01) = true ∧ cntRange 0x0B100000 1 = true ∧ cntRange 0x0B100000 496 = true ∧
    d.accepts (rq 0xFFFF (bytes 8 0)) (cntCmd 0xCA02) = true := by decide +kernel

theorem test_meets_RegisterAccess :
    let rd : List (BitVec 8) := bytes 4 0x28 ++ bytes 4 1
    base.die = true ∧ base.isHost 2 = false ∧ base.isHost 1 = true ∧
    (place 0x28).isSome = true ∧ place 0x29 = none ∧ place 0x0EFFFFFC = none ∧
    base.accepts (rq 0xFFFF rd) (regCmd 0xCC00) = true ∧ base.accepts (rq 0xFFFF (rd ++ bytes 4 5)) (regCmd 0xCC01) = true ∧
    (placesOf 0x28 1).isSome = true ∧ placesOf 0x28 256 = none ∧
    (bytes 4 5).length = 4 * 1 ∧ (base.writeAll (((placesOf 0x28 1).getD []).zip (wordsOf (bytes 4 5)))).1 = none := by decide +kernel

theorem test_meets_MailboxesAndMctp :
    let d := sets base [(F.MGT_MBX_SW.VALID_0, 0, 1)]
    let busy := sets d [(F.MGT_MBX_SW.BELL_0, 0, 1)]
    let a (t : Fin 8) : Asm := { via := .bmcMctp 8, tag := t, next := 1, bytes := [] }
    let full : Dev := { d with mgt := { d.mgt with asm := List.replicate 8 (a 0) } }
    let rec4 := sets d [(F.MGT_FW_STATUS.STATE, 0, 4)]
    d.die = true ∧ d.hasMbox (.switchMbox 0) = true ∧ d.bell (.switchMbox 0) = false ∧ busy.bell (.switchMbox 0) = true ∧
    d.hasMbox (.switchMbox 3) = false ∧ d.hasMbox (.hostMbox 1) = true ∧ d.bell (.hostMbox 1) = false ∧
    d.hasMbox (.tenantMbox 1023) = false ∧ (Transport.switchMbox 0).mctp = false ∧
    d.mctpUp (.bmcMctp 8) = true ∧ (List.replicate 64 (0 : BitVec 8)).length ≤ 64 ∧ d.asmOf (.bmcMctp 8) 7 = none ∧ d.mgt.asm = [] ∧
    d.served (.bmcMctp 8) = true ∧ d.mgt.inbox = [] ∧ 8 ≤ full.mgt.asm.length ∧ full.asmOf (.bmcMctp 8) 7 = none ∧
    rec4.die = true ∧ rec4.get F.MGT_FW_STATUS.STATE = 4 ∧ d.get F.MGT_FW_STATUS.STATE ≠ 4 := by decide +kernel

/-! ### Ports and interlinks -/

theorem test_meets_PortTraining :
    let dn : Dev := base.setPrt 0 PortRt.reset
    let id (k : Nat) := sets base [(F.PRT_CFG.ID_SRC, 0, k)]
    let l (now : Nat) := sets base [(F.PRT_CFG.L0P_EN, 0, 1), (F.PRT_L0P.LOW_PCT, 0, 20), (F.PRT_L0P.HIGH_PCT, 0, 60), (F.PRT_L0P.INTERVAL, 0, 1),
      (F.PRT_STATUS.FLIT, 0, 2), (F.PRT_L0P.MIN_WIDTH, 0, 1), (F.PRT_STATUS.WIDTH_NOW, 0, now), (F.PRT_STATUS.WIDTH_TRAINED, 0, 5)]
    dn.die = true ∧ dn.mayTrain 0 = true ∧ (dn.prt 0).ideLost = false ∧ dn.isTarget 0 = false ∧ base.mayTrain 16 = false ∧
    base.isIl 0 = false ∧ (base.prt 0).up = true ∧ (id 3).get F.PRT_CFG.ID_SRC 0 = 3 ∧ (id 1).get F.PRT_CFG.ID_SRC 0 < 2 ∧
    base.isIl 16 = true ∧ (dn.prt 0).up = false ∧ (base.prt 0).layover = false ∧ base.isHost 2 = false ∧
    (l 5).isIl 0 = false ∧ ((l 5).prt 0).up = true ∧ (l 5).l0pOn 0 = true ∧ (l 5).get F.PRT_STATUS.LTSSM 0 = 4 ∧
    (l 5).l0pWant 0 0 0 false = some 4 ∧ (l 3).l0pWant 0 61 0 false = some 5 ∧ (l 3).l0pWant 0 0 0 true = some 5 ∧
    (l 5).l0pWant 0 60 60 false = none ∧ (l 3).get F.PRT_L0P.MIN_WIDTH 0 ≤ 1 ∧ 5 ≤ (l 3).get F.PRT_STATUS.WIDTH_TRAINED 0 ∧
    5 ≠ (l 3).get F.PRT_STATUS.WIDTH_NOW 0 ∧ 0 < (l 3).get F.PRT_L0P.MIN_WIDTH 0 ∧ (l 3).get F.PRT_STATUS.WIDTH_TRAINED 0 < 7 := by
  decide +kernel

theorem test_meets_PortTraining_identity :
    let dn : Dev := base.setPrt 0 PortRt.reset
    let lost : Dev := base.setPrt 0 { PortRt.reset with ideLost := true }
    let dvsec := sets base [(F.PRT_CFG.ID_SRC, 0, 2)]
    let lay : Dev := base.setPrt 0 { base.prt 0 with layover := true, ref := some 7 }
    min 3 (dn.get F.PRT_CFG.WIDTH 0) ≠ 0 ∧ min 0 (dn.get F.PRT_CFG.WIDTH 0) = 0 ∧ lost.die = true ∧ lost.mayTrain 0 = true ∧
    (lost.prt 0).ideLost = true ∧ dn.get F.PRT_CFG.PERSONALITY 0 = 1 ∧ dn.bit F.PRT_STATUS.ID_CONFIRMED 0 = false ∧
    dvsec.isHost 0 = true ∧ (dvsec.prt 0).up = true ∧ dvsec.get F.PRT_CFG.ID_SRC 0 = 2 ∧ base.get F.PRT_CFG.ID_SRC 0 ≠ 2 ∧
    (lay.prt 0).layover = true ∧ (lay.prt 0).ref = some 7 ∧ lay.bit F.PRT_IDE.REQUIRED 0 = false ∧
    (let l := sets base [(F.PRT_L0P.MIN_WIDTH, 0, 2), (F.PRT_STATUS.WIDTH_TRAINED, 0, 5)]
     1 < l.get F.PRT_L0P.MIN_WIDTH 0 ∧ l.get F.PRT_STATUS.WIDTH_TRAINED 0 < 6) := by decide +kernel

theorem test_meets_PortControl :
    let dn : Dev := base.setPrt 2 PortRt.reset
    let f := sets base [(F.PRT_CFG.FAST_DOWN, 2, 1), (F.PRT_LAYOVER.WINDOW_US, 2, 1), (F.PRT_STATUS.IDE_ACTIVE, 2, 1), (F.PRT_IDE.PENDING, 2, 1)]
    let lt := sets base [(F.PRT_STATUS.LTSSM, 2, 5), (F.PRT_CTL.LINK_DISABLE, 2, 1)]
    dn.die = true ∧ (dn.prt 2).up = false ∧ (base.prt 16).up = true ∧ base.isIl 16 = true ∧ (base.prt 2).up = true ∧ base.isIl 2 = false ∧
    base.get F.PRT_STATUS.LTSSM 2 = 4 ∧ lt.get F.PRT_STATUS.LTSSM 2 = 5 ∧ base.isTarget 0 = false ∧ base.isTarget 2 = true ∧ dn.isTarget 2 = true ∧
    (dn.prt 2).layover = false ∧ lt.bit F.PRT_CTL.LINK_DISABLE 2 = true ∧
    f.bit F.PRT_CFG.FAST_DOWN 2 = true ∧ (sets base [(F.PRT_CFG.FAST_DOWN, 2, 0)]).bit F.PRT_CFG.FAST_DOWN 2 = false ∧ (f.prt 2).up = true ∧ f.brg.lock = none ∧ f.window 2 ≠ 0 ∧
    1 ≤ (1 : Fin 16).val ∧ (8 : Fin 16).val ≤ 8 ∧ 8 < (9 : Fin 16).val ∧ (1 : Fin 16).val ≠ 5 ∧
    f.bit F.PRT_STATUS.IDE_ACTIVE 2 = true ∧ base.bit F.PRT_STATUS.IDE_ACTIVE 2 = false ∧ f.bit F.PRT_IDE.PENDING 2 = true ∧
    f.get F.PRT_STATUS.LTSSM 2 ≠ 3 ∧ base.isHost 2 = false ∧ base.isHost 0 = true ∧ (base.prt 0).up = true ∧
    (withPort base 8 3 3 1).enabled 8 = true ∧ (withPort base 8 3 3 1).isTarget 8 = false ∧ (withPort base 8 3 3 1).isIl 8 = false ∧
    (withPort base 8 3 3 1).isHost 8 = false ∧ ((withPort base 8 3 3 1).prt 8).up = true := by decide +kernel

theorem test_meets_PortControl_reasons :
    let il := sets base [(F.PRT_CTL.LINK_DISABLE, 16, 1)]
    let ide := sets base [(F.PRT_STATUS.IDE_ACTIVE, 0, 1), (F.PRT_IDE.PENDING, 0, 1)]
    let q (x : DoeProto) : Dev := base.setPrt 0 { base.prt 0 with doe := some x }
    let w := sets base [(F.PRT_LAYOVER.WINDOW_US, 2, 1)]
    (∀ r ∈ [1, 2, 4, 5, 6, 8], r < 16) ∧ (15 : Fin 16).val ∉ [3, 6, 7, 8] ∧ base.isIl 16 = true ∧ w.brg.lock = none ∧ w.window 2 ≠ 0 ∧
    (w.prt 2).up = true ∧ il.bit F.PRT_CTL.LINK_DISABLE 16 = true ∧ il.isIl 16 = true ∧ il.portFenced 16 = false ∧
    ide.bit F.PRT_STATUS.IDE_ACTIVE 0 = true ∧ ide.get F.PRT_STATUS.LTSSM 0 ≠ 3 ∧ base.exposes 0 = false ∧
    (sets base [(F.PRT_CFG.MGMT_FN, 0, 1)]).exposes 0 = true ∧ base.doe 0 false = none ∧ base.doe 0 true = none ∧
    (q .cma).doe 0 false = some .cma ∧ (q .securedCma).doe 0 false = some .securedCma ∧ (q .other).doe 0 false ≠ none ∧
    ((q .cma).prt 0).up = true ∧ (q .cma).isHost 0 = true ∧ base.isTarget 2 = true ∧ base.get F.PRT_CFG.PERSONALITY 2 = 1 ∧
    base.bit F.PRT_STATUS.ID_CONFIRMED 2 = false := by decide +kernel

theorem test_meets_PortCommands :
    let l0p : Nat := 2 ^ 12 * 60 + 2 ^ 4 * 20 + 2 ^ 20 + 1
    let z : Dev := base.setPrt 0 PortRt.reset
    base.accepts (rq 0 (bytes 4 2 ++ bytes 4 0 ++ bytes 4 l0p ++ bytes 28 0)) (portCmd 0xC100) = true ∧
    (hdrOf 0xC100 (rq 63 []).raw).sel = BitVec.ofNat 16 63 ∧ l0p < 2 ^ 32 ∧ reserved1 l0p (Reg.mask .PRT_L0P) = false ∧ l0pBad l0p = false ∧
    base.accepts (rq 0 (bytes 4 1 ++ bytes 4 2 ++ bytes 32 0)) (portCmd 0xC100) = true ∧ reserved1 2 (Reg.mask .PRT_CFG) = false ∧
    base.personaChange 0 2 = true ∧ base.mode = .service ∧
    base.accepts (rq 0 (bytes 4 0)) { opcode := 0xC101, may := portStatusMay, modes := dieModes } = true ∧ (base.prt 0).layover = false ∧
    base.accepts (rq 0 [0, 7, 0, 0]) (portCmd 0xC102) = true ∧ base.retrainBad 0 0 7 = false ∧ (base.prt 0).up = true ∧ base.isIl 0 = false ∧
    base.enabled 0 = true ∧ z.accepts (rq 0 [0, 7, 0, 0]) (portCmd 0xC102) = true ∧ (z.prt 0).up = false ∧ z.retrainBad 0 0 7 = false ∧
    base.accepts (rq 0 (bytes 4 1000000)) (portCmd 0xC103) = true := by decide +kernel

theorem test_meets_PortCommands_images :
    let pay := bytes 4 2 ++ bytes 4 0 ++ bytes 4 (2 ^ 12 * 60 + 2 ^ 4 * 20 + 2 ^ 20 + 1) ++ bytes 28 0
    let none_ := bytes 40 0
    let lay : Dev := base.setPrt 0 { PortRt.reset with layover := true, ref := some 7 }
    let st := { opcode := 0xC101, may := portStatusMay, modes := dieModes : Cmd }
    let il (k : Nat) := sets base [(F.PRT_IL_STATUS.STATE, 16, k)]
    base.accepts (rq 0 none_) (portCmd 0xC100) = true ∧ portImagesBad 0 (fun k => le none_ (4 + 4 * k) 4) = false ∧ pay.length = 40 ∧
    (0 : Nat).testBit 0 = false ∧ (0 : Nat).testBit 3 = false ∧
    lay.accepts (rq 0 (bytes 4 0x7F003F)) st = true ∧ (lay.prt 0).layover = true ∧ reserved1 0x7F003F 0x7F003F = false ∧
    base.accepts (rq 16 [0, 7, 0, 0]) (portCmd 0xC102) = true ∧ base.portIdle 16 = false ∧ base.retrainBad 16 0 7 = false ∧
    (il 6).get F.PRT_IL_STATUS.STATE 16 = 6 ∧ (il 5).get F.PRT_IL_STATUS.STATE 16 ≠ 6 ∧ (base.setPrt 0 PortRt.reset).portIdle 0 = true := by
  decide +kernel

theorem test_meets_InterlinkSends :
    let r : IlRt := { IlRt.reset with limit := [1, 1, 1, 1, 1, 1], txq := [{ slot0 with vc := 5 }] }
    let d : Dev := base.setIl 16 r
    base.die = true ∧ base.isIl 16 = true ∧ base.ilState 16 = 5 ∧ base.isIl 0 = false ∧
    (sets base [(F.PRT_IL_STATUS.STATE, 16, 3)]).ilState 16 < 4 ∧
    (base.ilRt 16).resend = [] ∧ (base.ilRt 16).ctrlq = [] ∧ (base.ilRt 16).toName = [] ∧ (base.ilRt 16).sendGbn = false ∧
    (base.ilRt 16).replay.length < 1024 ∧ (base.ilRt 16).txq = [] ∧
    d.isIl 16 = true ∧ d.ilState 16 = 5 ∧ (d.ilRt 16).resend = [] ∧ (d.ilRt 16).ctrlq = [] ∧ (d.ilRt 16).txq = [{ slot0 with vc := 5 }] ∧
    (5 : BitVec 3).toNat < 6 ∧ (d.ilRt 16).sent = [0, 0, 0, 0, 0, 0] ∧ (d.ilRt 16).returned = [0, 0, 0, 0, 0, 0] := by decide +kernel

theorem test_meets_InterlinkReceives :
    let st (k : Nat) : Dev := sets base [(F.PRT_IL_STATUS.STATE, 16, k)]
    let par : Dev := (st 4).setIl 16 { IlRt.reset with peer := some par0 }
    let tm : Dev := base.setIl 16 { IlRt.reset with timeReq := some (3, 100) }
    let a : Dev := base.setIl 16 { IlRt.reset with acked := 4095, txNext := 3, sent := [9, 0, 0, 0, 0, 9], returned := [65535, 0, 0, 0, 0, 4] }
    base.die = true ∧ base.isIl 16 = true ∧ base.ilState 16 = 5 ∧ [slot0, slot0, slot0, slot0].length ≤ 4 ∧ (st 0).ilState 16 = 0 ∧
    par0.wellFormed = true ∧ (st 4).ilState 16 = 4 ∧ (par.ilRt 16).peer = some par0 ∧ (par.ilRt 16).ackTx = false ∧ par.ilState 16 = 4 ∧
    (tm.ilRt 16).timeReq = some (3, 100) ∧ (sets base [(F.PRT_IL_CFG.UNCORR_LIM, 16, 0)]).get F.PRT_IL_CFG.UNCORR_LIM 16 = 0 ∧
    dist12 2 (a.ilRt 16).acked ≤ dist12 (a.ilRt 16).txNext ((a.ilRt 16).acked + 1) ∧ 1 ≤ dist12 2 (a.ilRt 16).acked ∧
    dist12 4095 (a.ilRt 16).acked ≤ dist12 (a.ilRt 16).txNext ((a.ilRt 16).acked + 1) ∧
    dist12 (a.ilRt 16).txNext ((a.ilRt 16).acked + 1) < dist12 3 (a.ilRt 16).acked ∧ (2 : BitVec 12) ∉ (a.ilRt 16).resend ∧
    (9 + 65536 - six (a.ilRt 16).returned 0) % 65536 ≤ (six (a.ilRt 16).sent 0 + 65536 - six (a.ilRt 16).returned 0) % 65536 ∧
    (six (a.ilRt 16).sent 5 + 65536 - six (a.ilRt 16).returned 5) % 65536 < (10 + 65536 - six (a.ilRt 16).returned 5) % 65536 := by
  decide +kernel

theorem test_meets_InterlinkReceives_param :
    let d : Dev := (sets base [(F.PRT_IL_STATUS.STATE, 16, 4), (F.GLB_NODE.NODE_ID, 0, 5), (F.PRT_CFG.WIDTH, 16, 5)]).setIl 16
      { IlRt.reset with quads := 15, peer := some par0, ackTx := true }
    let b : IlParam := { par0 with pools := [32, 32, 64, 32, 32, 64] }
    d.ilState 16 = 4 ∧ poolsOk (b.pools.map (·.toNat)) = true ∧ b.wellFormed = true ∧ b.node.toNat ≠ d.get F.GLB_NODE.NODE_ID ∧
    d.bit F.PRT_IL_PEER.PEER_CHECK 16 = false ∧ widest ((d.ilRt 16).quads &&& b.quads) (d.get F.PRT_CFG.WIDTH 16) = 5 ∧
    (d.ilRt 16).peer = some par0 ∧ (d.ilRt 16).ackTx = true ∧ base.ilState 16 = 5 ∧ (base.ilRt 16).retrain = none := by
  decide +kernel

theorem test_meets_InterlinkReceives_crc (f : IlFlit) : IlFlit.crc f + 1 ≠ IlFlit.crc f := by
  intro h
  have := congrArg BitVec.toNat h
  simp at this
  omega

theorem test_meets_InterlinkLink :
    let st (k : Nat) : Dev := sets base [(F.PRT_IL_STATUS.STATE, 16, k)]
    let x (n : Nat) (ask : Bool) : Retrain := { reason := 1, width := 5, asking := ask, phase := 1, tries := n }
    let re (k n : Nat) (ask : Bool) : Dev := (st k).setIl 16 { IlRt.reset with retrain := some (x n ask) }
    let nm : Dev := base.setIl 16 { IlRt.reset with named := [4095], replay := [({ hdr := hdr0, body := .data [slot0] }, 0)] }
    (st 0).die = true ∧ (st 0).isIl 16 = true ∧ (4095 : BitVec 12) ∈ (nm.ilRt 16).named ∧ (0 : BitVec 12) ∉ (nm.ilRt 16).named ∧
    (base.ilRt 16).replay = [] ∧ (nm.ilRt 16).replay = [({ hdr := hdr0, body := .data [slot0] }, 0)] ∧ nm.ilState 16 = 5 ∧
    (st 0).ilEnabled 16 = true ∧ (st 0).ilState 16 = 0 ∧ (st 1).ilEnabled 16 = true ∧ (st 1).ilState 16 = 1 ∧
    (0xF : BitVec 16).toNat &&& (st 1).laneMask 16 = 15 ∧
    (st 2).ilState 16 = 2 ∧ widest 0 ((st 2).get F.PRT_CFG.WIDTH 16) = 0 ∧ widest 15 ((st 2).get F.PRT_CFG.WIDTH 16) = (st 2).get F.PRT_CFG.WIDTH 16 ∧
    (st 2).get F.PRT_CFG.WIDTH 16 ≠ 0 ∧ (st 3).ilState 16 = 3 ∧ (st 4).ilState 16 = 4 ∧ ((st 4).ilRt 16).peer = none ∧
    ((st 4).ilRt 16).peerLogged = false ∧ ((re 5 0 true).ilRt 16).retrain = some (x 0 true) ∧ (re 5 0 true).ilState 16 = 5 ∧
    (base.ilRt 16).retrain = none ∧ ((re 6 1 false).ilRt 16).retrain = some (x 1 false) ∧ (re 6 1 false).ilState 16 = 6 ∧ (x 1 false).phase < 2 ∧
    (x 1 false).tries < 2 ∧ 2 ≤ (x 2 false).tries ∧ ((re 6 2 false).ilRt 16).retrain = some (x 2 false) := by decide +kernel

theorem test_meets_InterlinkLink_again :
    let st (k : Nat) : Dev := sets base [(F.PRT_IL_STATUS.STATE, 16, k)]
    let x (n : Nat) : Retrain := { reason := 1, width := 5, asking := true, phase := n, tries := 0 }
    let re (k n : Nat) : Dev := (st k).setIl 16 { IlRt.reset with retrain := some (x n) }
    (re 6 0).ilState 16 = 6 ∧ ((re 6 0).ilRt 16).retrain = some (x 0) ∧ widest 15 (x 0).width.toNat ≠ 0 ∧
    ((re 6 2).ilRt 16).retrain = some (x 2) ∧ (x 2).phase = 2 ∧ ((st 4).ilRt 16).peerBad = false ∧ ((st 4).ilRt 16).peer = none ∧
    (((st 4).setIl 16 { IlRt.reset with peer := some par0 }).ilRt 16).peer = some par0 ∧ (x 0).asking = true ∧
    (∀ k < 4, (0x7777 : BitVec 16).toNat / 16 ^ k % 16 ≠ 15) := by decide +kernel

/-! ### The pipeline, the queues and the schedulers -/

def pslot (id : Nat) (want : List Nat) : PSlot := { id := id, flit := 1, want := want, crc := false, done := false }

def slotAt (id port : Nat) (c7 : Bool) : PMsg :=
  { port := Fin.ofNat 64 port, rel := 0, m := { msg0 with sseq := 9 }, dest := .port 2, q := 512, seqd := true, cls7 := c7, heIo := true,
    resv := true, look := false, pol := none, gate := .go, viol := false, more := 0, slots := [pslot id [0]], ecrc := false }

def withPipe (d : Dev) (l : List PMsg) : Dev := { d with sw := { d.sw with pipe := l } }

theorem test_meets_CrossbarIsFair :
    let d := withPipe base [slotAt 0 1 false, slotAt 1 16 true, slotAt 2 24 true]
    let x : XReq := { tile := 2, strict := true, slot := some 1, k := 0 }
    d.winner 0 = some x ∧ { x with tile := 3, slot := some 2 } ∈ d.requests 0 ∧ d.winner 7 = none ∧ d.awake 0 = true ∧
    slotAt 2 24 true ∈ d.sw.pipe ∧ pslot 2 [0] ∈ (slotAt 2 24 true).slots ∧ d.awake 3 = true ∧ d.admitsMsg 0 (slotAt 2 24 true) = true ∧
    (sets d [(F.TIL_PWR_STATUS.STATE, 0, 1)]).awake 0 = false := by decide +kernel

theorem test_meets_IngressCommitAndUndo :
    let d (x : PMsg) := withPipe base [x]
    let at_ (rel : Nat) : Dev := base.setPrt 0 { base.prt 0 with rel := rel }
    let more : PMsg := { slotAt 5 0 false with more := 1 }
    base.die = true ∧ (base.setPrt 0 PortRt.reset).carries 0 = false ∧ (at_ 4096).relFull 0 = true ∧ (at_ 4095).relFull 0 = false ∧
    (at_ 4096).unfinished 0 msg0.cls = none ∧ base.carries 0 = true ∧ (at_ 4095).carries 0 = true ∧ (d more).unfinished 0 msg0.cls = some more ∧
    (d more).carries 0 = true := by decide +kernel

theorem test_meets_IngressCommitAndUndo_commit :
    let d (x : PMsg) := withPipe base [x]
    let done (n : Nat) : PMsg := { slotAt 5 16 false with slots := [{ pslot 5 [] with crc := true }], more := n }
    let w : Staged := { ing := some 0, dest := .port 2, m := { msg0 with op := .mRd }, rel := 0, id := 5, resv := true }
    base.isIl 0 = false ∧ Op.answers msg0.op = false ∧ base.isHost 0 = true ∧ Cls.policed msg0.cls = true ∧
    base.isIl 16 = true ∧ base.ilState 16 = 5 ∧ (base.ilRt 16).rxExp.toNat = 0 ∧ base.slotOf 5 = none ∧
    (sets base [(F.PRT_CFG.HE_ARB, 16, 1)]).bit F.PRT_CFG.HE_ARB 16 = true ∧
    (d (slotAt 5 0 false)).slotOf 5 = some (slotAt 5 0 false, pslot 5 [0]) ∧
    (d (done 1)).slotOf 5 = some (done 1, { pslot 5 [] with crc := true }) ∧ (d (done 0)).sw.pipe = [done 0] ∧ (done 0).gate ≠ .full ∧
    (done 0).dest = .port 2 ∧ (d (done 0)).isIl (done 0).port.val = true ∧ (done 0).viol = false ∧ (done 0).m.mcast = false ∧
    (slotAt 5 0 false).id = 5 ∧ (slotAt 5 0 false).heIo = true ∧ (slotAt 5 0 false).resv = true ∧ base.sw.pipe = [] ∧ base.sw.staged = [] ∧
    w.id = 5 ∧ w.resv = true ∧ w.m.cls = .ion ∧
    (d { done 1 with slots := [pslot 5 []] }).verdictDue 16 (pslot 5 []) = true := by decide +kernel

theorem test_meets_FailedVerdictUndoes :
    let x : PMsg := { slotAt 5 0 false with dest := .port 16 }
    let d := withPipe base [slotAt 4 1 false, x, { slotAt 6 0 false with slots := [{ pslot 6 [] with crc := true }, pslot 7 [0]] }]
    (((d.openSlots 0).filter fun y => y.flit == 1).map (·.id)).min? = some 5 ∧
    (((d.openSlots 2).filter fun y => y.flit == 1).map (·.id)).min? = none ∧ x.wholly 5 = true ∧ (x.lost 5).isEmpty = false ∧
    ([x].find? (·.seqd)) = some x ∧ d.isIl 16 = true := by decide +kernel

def stagedTo (e : Nat) (m : Msg) : Staged := { ing := some 0, dest := .port (Fin.ofNat 64 e), m := m, rel := 0 }

def queued (m : Msg) (n : Nat) : QMsg := { m := m, ing := some 0, rel := 0, mc := none, adm := n, since := 0, deferred := false }

def withQueue (d : Dev) (q : Nat) (l : List QMsg) : Dev := d.setQueue q { Queue.empty with msgs := l }

theorem test_meets_AdmissionAndSelection :
    let x : Staged := { stagedTo 2 msg0 with q := 512 }
    let put (d : Dev) (x : Staged) : Dev := { d with sw := { d.sw with staged := [x] } }
    let d := put base x
    let two : Dev := { base with sw := { base.sw with staged := [x, x] } }
    let full := sets d [(F.TIL_BUF_CFG.RD_FLOOR, 0, 1023), (F.TIL_AUX_CFG.SIZE, 0, 128)]
    let fen : Dev := { d with flt := { d.flt with fences := [(.port, 2)] } }
    let c : McCopy := { id := 3, tile := 0, group := 5, gseq := 1, cells := 1, waiting := [2], started := true, aged := false }
    let mc : Dev := { sets base [(F.TIL_MCAST_CFG.STRAG_AGE, 0, 1)] with sw := { base.sw with mc := [c] } }
    d.die = true ∧ d.sw.staged[0]? = some x ∧ d.sw.staged[1]? = none ∧ (put d { x with want := [0] }).sw.staged[0]? = some { x with want := [0] } ∧
    d.inOrder 0 x [2] = true ∧ d.locked 2 x = false ∧ d.trkFull 2 x.m = false ∧ d.awake (2 / 8) = true ∧ two.sw.staged[1]? = some x ∧
    two.inOrder 1 x [2] = false ∧ (sets d [(F.TIL_PWR_STATUS.STATE, 0, 1)]).awake (2 / 8) = false ∧ d.takes 2 = true ∧ x.celled = false ∧
    d.fitsBuffer 0 x.q x.m = true ∧ d.isHost 2 = false ∧ (d.prt 2).up = true ∧ (d.prt 2).layover = false ∧ d.enabled 2 = true ∧
    d.portFenced 2 = false ∧ full.takes 2 = true ∧ full.fitsBuffer 0 x.q x.m = false ∧ (sets d [(F.PRT_CFG.PERSONALITY, 2, 0)]).enabled 2 = false ∧
    fen.portFenced 2 = true ∧ fen.inOrder 0 x [2] = true ∧ (d.setPrt 2 PortRt.reset).takes 2 = false ∧ x.q / 256 = 2 ∧ (d.queue x.q).msgs = [] ∧
    base.passesPort 2 = true ∧ (withQueue base 512 [queued msg0 0]).passesPort 2 = true ∧
    ((base.setPrt 2 { base.prt 2 with layover := true }).prt 2).layover = true ∧ base.sw.mc = [] ∧ (base.prt 4).up = false ∧
    (sets base [(F.PRT_STATUS.LTSSM, 2, 3)]).passesPort 2 = false ∧ mc.sw.mc = [c] ∧ c.started = true ∧ c.aged = false ∧ c.waiting = [2] ∧
    mc.get F.TIL_MCAST_CFG.STRAG_AGE 0 ≠ 0 ∧ base.sw.staged = [] := by decide +kernel

/-- Credit of a standard port for 8 messages of each class. -/
def linked (d : Dev) (p : Nat) : Dev := d.setPrt p { d.prt p with link := [8, 8, 8, 8, 8, 8, 8, 8] }

theorem test_meets_AdmissionAndSelection_pick :
    let d := withQueue base 512 [queued msg0 0]
    let n := ((((d.offerCredit 2 [8, 8, 8, 8, 8, 8, 8, 8]).creditStalls 2).side 2).noteQueues 2)
    let x : Staged := { stagedTo 2 { msg0 with mcast := true, dst := 5 } with dest := .mcast 5 }
    n.pick 2 = some (.wfq 512) ∧ ((((base.offerCredit 2 []).creditStalls 2).side 2).noteQueues 2).pick 2 = none ∧
    (((linked d 2).side 2).noteQueues 2).pick 2 = some (.wfq 512) ∧ (d.queue 512).msgs.length = 1 ∧
    (({ base with sw := { base.sw with staged := [x] } } : Dev).admitStaged 0).sw.staged = [] := by decide +kernel

theorem test_meets_SelectionOrder :
    let w := linked (withQueue (withQueue base 512 [queued msg0 0, queued msg0 1]) 544 [queued msg0 2]) 2
    let s := withQueue w (512 + 224) [queued msg0 3]
    512 / 256 = 2 ∧ qClass 736 = 7 ∧ 736 ∈ s.busyQueues 2 ∧ s.eligible 736 = true ∧ s.pick 2 = some (.strict 736) ∧
    w.pick 2 = some (.wfq 512) ∧ 544 ∈ w.busyQueues 2 ∧ w.eligible 544 = true ∧ base.pick 2 = none ∧ (w.prt 2).sideNp = [] ∧
    (w.prt 2).sideCpl = [] ∧ (w.queue 512).msgs = [queued msg0 0, queued msg0 1] ∧ qClass 512 ≠ 7 ∧ 0 < w.get F.QUEUE.WEIGHT 512 := by decide +kernel

theorem test_meets_MetersRatesAndRefills :
    let d := sets base [(F.QUEUE.SHAPE_EN, 512, 1), (F.POL.PIR, 1023, 5)]
    (meter 0 (64 * 256 - 1) .green 64).1 = .red ∧ (meter 0 (64 * 256) .green 64).1 = .yellow ∧ (meter (64 * 256) (64 * 256) .green 64).1 = .green ∧
    d.die = true ∧ d.tablesOk = true ∧ d.sw.pendSh = [] ∧ d.sw.pendPol = [] ∧ d.sw.pendRefill = none ∧ d.sw.pols = [] ∧ d.sw.pipe = [] ∧
    d.bit F.QUEUE.SHAPE_EN 512 = true ∧ d.get F.QUEUE.SHAPE_EN 0 = 0 ∧ d.get F.POL.PIR 1023 ≠ 0 ∧ d.get F.POL.PIR 0 = 0 := by decide +kernel

theorem test_meets_SchedulingEdges :
    let h := stagedTo 2 msg0
    let hold (mt : Bool) (m : Msg) : Dev :=
      { sets base [(F.INS.Q_TRK, 7, 8), (F.INS.Q_CELLS, 7, 8)] with sw := { base.sw with pols := [(7, some { tc := 0, tp := 0, hold := [{ h with m := m }], metered := mt })] } }
    let g : GateList := { cycle := 1000, base := 5, ents := [(1000, 0xFF)], since := 0 }
    let gd : Dev := { base with sw := { base.sw with gates := [(2, some g)] } }
    let hq := sets base [(F.QUEUE.HIST_EN, 512, 1)]
    let red : Msg := { msg0 with colour := .red }
    base.die = true ∧ (base.pol 7).hold = [] ∧ ((hold false msg0).pol 7).hold = [h] ∧ (hold false msg0).blocked 0 7 msg0 = false ∧
    ((hold false msg0).pol 7).metered = false ∧ (hold false msg0).bit F.POL.EN 7 = false ∧ (hold false msg0).passes .green h.dest h.q = true ∧
    ((hold true msg0).pol 7).metered = true ∧ (hold true msg0).passes .green h.dest h.q = true ∧ (hold true red).passes .red h.dest h.q = false ∧ h.spec = false ∧
    (sets (hold false msg0) [(F.POL.EN, 7, 1)]).bit F.POL.EN 7 = true ∧ ((sets (hold false msg0) [(F.POL.EN, 7, 1)]).police 0 7 h.dest h.q msg0 false).2.2 = false ∧
    ((sets base [(F.POL.EN, 7, 1)]).police 0 7 h.dest h.q msg0 false).2.2 = true ∧
    base.bit F.SCH_GATE_CTL.EN 2 = false ∧ (sets base [(F.SCH_GATE_CTL.EN, 2, 1)]).bit F.SCH_GATE_CTL.EN 2 = true ∧
    base.sw.gates.get none 2 = none ∧ gd.sw.gates.get none 2 = some g ∧ gd.clk.ftc.toNat < g.start ∧
    ({ gd with clk := { gd.clk with ftc := 2000 } } : Dev).clk.ftc.toNat = 2000 ∧ g.start ≤ 2000 ∧ g.ents.length ≤ 64 ∧ g.cycle < 2 ^ 30 ∧ (∀ y ∈ g.ents, y.1 < 2 ^ 30) ∧
    0 < g.ents.length ∧ base.listed F.QUEUE.HIST_EN = [] ∧ hq.listed F.QUEUE.HIST_EN = [512] ∧ hq.get F.SCH_HIST_CFG.FREEZE = 0 ∧
    hq.get F.PWR_SAG_STATUS.STAGE = 0 ∧ hq.bit F.QUEUE.CARAVAN_EN 512 = false ∧ (hq.queue 512).msgs = [] ∧
    ((withQueue hq 512 [queued msg0 0]).queue 512).msgs = [queued msg0 0] ∧
    (sets hq [(F.SCH_HIST_CFG.FREEZE, 0, 1)]).get F.SCH_HIST_CFG.FREEZE = 1 := by decide +kernel

theorem test_meets_SchedulingCommands :
    let b (v : Nat) := bytes 4 v
    let gate (w : Nat) := bytes 1 1 ++ bytes 1 1 ++ bytes 2 0 ++ b 1000 ++ bytes 8 5 ++ b w ++ [0xFF, 0, 0, 0]
    let sctl : Cmd := { opcode := 0xC307, may := fun p _ _ => fmOnly p, modes := fun m => m = .quiesce }
    base.accepts (rq 63 (bytes 2 255 ++ bytes 2 1 ++ b 1)) (fmCmd 0xC300) = true ∧ (1 / 2 ^ 10 % 64 = 0 ∧ 1 % 256 ≠ 0 ∧ 1 / 512 % 2 = 0) ∧
    (hdrOf 0xC300 (rq 63 []).raw).sel = BitVec.ofNat 16 63 ∧
    base.accepts (rq 0 (bytes 2 0 ++ bytes 1 1 ++ bytes 1 0 ++ bytes 8 19532 ++ b 576)) (fmCmd 0xC301) = true ∧
    0 < rateOf 19532 (base.get F.SCH_CTL.REFILL) ∧ rateOf 655359980468 (base.get F.SCH_CTL.REFILL) ≤ 0xFFFFFF ∧
    rateOf 19531 (base.get F.SCH_CTL.REFILL) = 0 ∧ 0xFFFFFF < rateOf 655359980469 (base.get F.SCH_CTL.REFILL) ∧
    base.bit F.POL.TRANSIT 255 = false ∧
    base.accepts (rq 255 (bytes 1 1 ++ bytes 1 0 ++ bytes 2 0 ++ bytes 8 19532 ++ bytes 8 19532 ++ b 0 ++ b 576)) (fmCmd 0xC302) = true ∧
    base.accepts (rq 63 (bytes 16 0)) (fmCmd 0xC303) = true ∧ base.accepts (rq 63 (gate 1000)) (fmCmd 0xC303) = true ∧
    base.accepts (rq 63 (gate 999)) (fmCmd 0xC303) = true ∧ base.accepts (rq 0xFFFF (bytes 2 65535 ++ bytes 2 1)) (fmCmd 0xC304) = true ∧
    base.accepts (rq 63 (b 0 ++ b 0 ++ b 0)) (fmCmd 0xC305) = true ∧ mapClash 0x76543210 0 = false ∧
    base.accepts (rq 63 (bytes 2 255 ++ bytes 2 1)) (fmCmd 0xC306) = true ∧
    (inMode base .quiesce).accepts (rq 0xFFFF (bytes 2 1000)) sctl = true ∧ (inMode base .quiesce).accepts (rq 0xFFFF (bytes 2 1)) sctl = true ∧
    base.accepts (rq 16383 []) (fmCmd 0xC308) = true := by decide +kernel

/-! ### Routing, the bridge and the directory -/

theorem test_meets_RoutingByEdge :
    let m (dst : BitVec 12) : Msg := { msg0 with dst := dst }
    let l := sets base [(F.TIL_ROUTE.VALID, 100, 1), (F.TIL_ROUTE.LOCAL, 100, 1), (F.TIL_MCAST.VALID, 4095, 1), (F.TIL_ROUTE.VALID, 101, 1),
      (F.TIL_ROUTE.PORT, 101, 40)]
    msg0.op ≠ .mRdLk ∧ (m 3).mcast = false ∧ ({ m 3 with selIde := true } : Msg).selIde = true ∧ Decode.bound (.windowDev 5) = false ∧
    l.bit F.TIL_ROUTE.VALID 3 = true ∧ l.bit F.TIL_ROUTE.LOCAL 3 = false ∧
    l.enabled (l.get F.TIL_ROUTE.PORT 3) = true ∧ l.portFenced (l.get F.TIL_ROUTE.PORT 3) = false ∧ (m 3).hops ≠ 31 ∧
    ({ m 3 with hops := 31 } : Msg).hops = 31 ∧ l.bit F.TIL_ROUTE.VALID 100 = true ∧ l.bit F.TIL_ROUTE.LOCAL 100 = true ∧ (m 100).cls = .req ∧ (msg0.pay).length ≤ 512 ∧ 512 < (List.replicate 513 (0 : BitVec 8)).length ∧ base.isIl 16 = true ∧ base.isIl 0 = false ∧
    l.bit F.TIL_MCAST.ROOT 4095 = false ∧ l.get F.TIL_MCAST.ROOT_PORT 4095 = 0 ∧ l.enabled 0 = true ∧ l.portFenced 0 = false ∧
    ({ m 100 with op := .mWr } : Msg).cls = .iop ∧ ({ m 100 with op := .biInv } : Msg).cls = .snp ∧ l.bit F.TIL_ROUTE.VALID 4095 = false ∧
    l.bit F.TIL_ROUTE.LOCAL 101 = false ∧ l.enabled (l.get F.TIL_ROUTE.PORT 101) = false ∧
    ({ m 4095 with mcast := true } : Msg).mcast = true ∧ (m 4095).cls ≠ .rwd ∧ ({ m 4095 with op := .wrI } : Msg).cls = .rwd ∧
    l.bit F.TIL_MCAST.VALID 4095 = true ∧ l.bit F.TIL_MCAST.VALID 0 = false := by decide +kernel

def auxCmd : Cmd := { opcode := 0xC206, may := fun p _ _ => fmOnly p, modes := fun m => m = .bringUp || m = .quiesce }

theorem test_meets_RoutingCommands :
    let i := vppbNo 1 31
    let st (k : Nat) := sets base [(F.TIL_VPPB.STATE, i, k), (F.TIL_VPPB.TARGET_EDGE, i, 3)]
    let un (m : Fin 3) : Dev := { st 3 with brg := { (st 3).brg with vppb := [(i, { VppbRt.reset with unbind := some m })] } }
    let q := inMode (sets base [(F.TIL_AUX_STATUS0.STRAG_USED, 7, 1)]) .quiesce
    (base.ldBound 3 0 false = false ∧ base.ldWindowed 3 0 false = false) ∧
    base.accepts (rq 0xFFFF (bytes 2 4095 ++ bytes 2 1 ++ bytes 4 13)) (fmCmd 0xC200) = true ∧ base.enabled (13 / 4) = true ∧
    base.enabled (253 / 4) = false ∧ base.accepts (rq 0xFFFF (bytes 2 4095 ++ bytes 2 1)) (fmCmd 0xC204) = true ∧
    base.accepts (rq 1 ([31, 0] ++ bytes 2 3)) (fmCmd 0xC201) = true ∧ base.isHost 1 = true ∧ base.bindTarget 3 = true ∧
    base.get F.TIL_VPPB.STATE i = 0 ∧ base.binding 1 = false ∧
    base.eventsFull 3 = false ∧ base.bgRoom (.switchMbox 0) = true ∧ (st 1).get F.TIL_VPPB.STATE i ≠ 0 ∧ (st 1).accepts (rq 1 [31, 0, 3, 0]) (fmCmd 0xC201) = true ∧
    base.accepts (rq 1 [31, 1]) (fmCmd 0xC202) = true ∧ base.brg.vppb = [] ∧ (st 2).get F.TIL_VPPB.STATE i = 2 ∧ (st 2).binding 1 = false ∧
    (st 2).eventsFull 3 = false ∧ ((st 2).unbindStart 1 31 2).bgRoom (.switchMbox 0) = true ∧
    (List.range 32).find? (fun u => base.get F.TIL_VPPB.STATE (vppbNo 1 u) == 1) = none ∧
    (List.range 32).find? (fun u => (st 1).get F.TIL_VPPB.STATE (vppbNo 1 u) == 1) = some 31 ∧ (st 1).die = true ∧ (st 1).eventsFull 3 = false ∧
    (st 1).sourcePort 3 = some 2 ∧ base.unbinding 1 = none ∧ (un 0).unbinding 1 = some (31, 0) ∧ (un 1).unbinding 1 = some (31, 1) ∧
    base.accepts (rq 63 []) (fmCmd 0xC207) = true ∧ base.isHost 63 = false ∧
    base.accepts (rq 4095 (bytes 8 (2 ^ 64 - 1) ++ bytes 4 65)) (fmCmd 0xC203) = true ∧ base.isIl (65 / 4 % 64) = true ∧
    base.accepts (rq 4095 []) (fmCmd 0xC205) = true ∧ (inMode base .bringUp).accepts (rq 7 [128, 64, 64, 0]) auxCmd = true ∧
    q.accepts (rq 7 [128, 64, 64, 0]) auxCmd = true ∧ q.auxUsed 7 .straggler + q.auxUsed 7 .blend + q.auxUsed 7 .telemetry ≠ 0 :=
  ⟨⟨ldBound_unlisted _ _ _ _ (by decide +kernel), ldWindowed_unlisted _ _ _ _ (by decide +kernel)⟩, by
    decide +kernel⟩

theorem test_meets_BridgeEventsAndCommands :
    let x := stagedTo 2 { msg0 with op := .mRdLk }
    let k (lv : Nat) : Lock := { level := lv, fn := if lv = 1 then some 0 else none, holder := 0, target := 2, since := 7, toFwd := some x }
    let y : CplTrk := { tile := 0, src := 1, tag := 5, port := 2, m := { msg0 with op := .mRd, src := 1, tag := 5 }, got := false }
    let b (f : BrgSt → BrgSt) : Dev := { base with brg := f base.brg }
    let lk (lv : Nat) := b fun g => { g with lock := some (k lv) }
    let ev (n : Nat) : Dev := base.setPrt 2 { base.prt 2 with done := n, events := [{ stamp := 4, what := .err 0 }] }
    let tr : Dev := { base with brg := { base.brg with trks := [y] }, sw := { base.sw with outst := [(2, [y.m])] } }
    (base.prt 2).events = [] ∧ ((ev 3).prt 2).events = [⟨4, .err 0⟩] ∧ ((ev 3).prt 2).done < 4 ∧ 4 ≤ ((ev 4).prt 2).done ∧
    base.brg.lock = none ∧ base.brg.waiters = [] ∧ (b fun g => { g with waiters := [x] }).brg.waiters = [x] ∧ x.ing = some 0 ∧ x.dest = .port 2 ∧
    base.mode ≠ .quiesce ∧ (lk 2).brg.lock = some (k 2) ∧ (k 2).toFwd = some x ∧ (lk 2).othersQueued 2 0 = false ∧
    (withQueue (lk 2) 512 [{ queued { msg0 with op := .mWr } 0 with ing := some 1 }]).othersQueued 2 0 = true ∧
    (lk 1).brg.lock = some (k 1) ∧ (0 : Fin 64) ∈ (b fun g => { g with former := [0] }).brg.former ∧ (0 : Fin 64) ∉ base.brg.former ∧
    base.brg.trks = [] ∧ tr.brg.trks = [y] ∧ tr.outst 2 = [y.m] ∧ y.m.cls = .ion ∧ tr.die = true ∧
    base.accepts (rq 0xFFFF (bytes 4 (1000 + 1000 * 2 ^ 10 + 31 * 2 ^ 20))) (fmCmd 0xC700) = true ∧
    base.accepts (rq 0xFFFF (bytes 4 (1001 + 2 ^ 10))) (fmCmd 0xC700) = true ∧ base.accepts (rq 0xFFFF []) (fmCmd 0xC701) = true ∧
    base.accepts (rq 63 ([1, 0] ++ bytes 2 4095 ++ bytes 8 4096)) (fmCmd 0xC702) = true ∧
    (lk 2).accepts (rq 0xFFFF []) (fmCmd 0xC703) = true ∧ (lk 2).brg.lock ≠ none := by decide +kernel

theorem test_meets_WindowsAndRows :
    let e (st : DSt) (n : Option (Fin 1024)) : Entry := { Entry.free with st := st, sharers := 5, owner := 2, inst := n }
    let o (op : Op) : TOp := { m := { msg0 with op := op }, host := 0, local_ := true, tile := 0, uncached := false, fold := none }
    let fw := sets base [(F.DIR_CTL.FWD_EN, 0, 1), (F.DIR_FWD.ACTIVE, 0, 1)]
    (e .s none).sharers ≠ 0 ∧ (o .rdS).m.op = .rdS ∧ (e .s none).inst = (o .rdS).m.inst ∧ (e .f none).st = .f ∧
    (sets base [(F.DIR_CTL.FWD_EN, 0, 0)]).bit F.DIR_CTL.FWD_EN = false ∧ fw.bit F.DIR_CTL.FWD_EN = true ∧
    (e .f none).holds (e .f none).owner = true ∧ (e .f none).poison = false ∧ (e .x (some 3)).inst ≠ (o .rdS).m.inst ∧ (e .x none).st = .x ∧
    (1 : BitVec 64).getLsbD 0 = true ∧ fw.active 0 = true ∧ (2 : BitVec 64) ≠ 0 ∧ fw.active 1 = false := by decide +kernel

def op0 (op : Op) (l : Nat) : TOp :=
  { m := { msg0 with op := op, addr := BitVec.ofNat 64 (l * 64) }, host := 0, local_ := true, tile := 0, uncached := false, fold := none }

def inSlice (d : Dev) (t : Nat) (f : Slice → Slice) : Dev := d.setSlice t (f (d.slice t))

def trk0 : Trk :=
  { id := 0, line := 0, job := .demand, op := op0 .rdS 0, stamp := 0, key := none, before := Entry.free, bi := [], owed := [], fwd := none,
    nacked := false, evict := none, needWay := false, reading := false, needData := false, data := none, done := false, quota := false,
    noAdd := false }

theorem test_meets_TollgateEdges :
    let q := inSlice base 0 fun s => { s with q := [op0 .rdI 9] }
    let fen := sets base [(F.FLT_FENCE_TILE.TILES, 0, 1)]
    let m : Msg := { msg0 with op := .cmp .i, addr := 576 }
    let held : Dev := { base with coh := { base.coh with held := [(0, 0, m)] } }
    let late := inSlice held 0 fun s => { s with w := [op0 .wrI 9] }
    let cf : Dev := { base with coh := { base.coh with conflicts := [(0, 9)] } }
    let tk : Trk := { trk0 with line := 9, op := op0 .rdA 9, bi := [0] }
    base.die = true ∧ fen.tileFenced 0 = true ∧ fen.die = true ∧ base.tileFenced 0 = false ∧ base.coh.slices = [] ∧
    q.slice 0 = { Slice.empty with q := [op0 .rdI 9] } ∧ (op0 .rdI 9).m.op = .rdI ∧ lineOf (op0 .rdI 9).m.addr.toNat = 9 ∧ homeSlice 9 = 0 ∧
    q.findKey 9 = none ∧ q.setLost 0 (setOf 9) = false ∧ base.coh.held = [] ∧ held.coh.held = [(0, 0, m)] ∧ lineOf m.addr.toNat = 9 ∧
    held.unaccepted 0 0 9 = false ∧ late.unaccepted 0 0 9 = true ∧ base.coh.conflicts = [] ∧ cf.coh.conflicts = [(0, 9)] ∧
    (cf.slice (homeSlice 9)).trks = [] ∧ cf.sw.staged = [] ∧ cf.sw.queues = [] ∧ base.owes 0 9 = false ∧
    (inSlice base 0 fun s => { s with trks := [tk] }).owes 0 9 = true ∧ base.isHost 2 = false ∧ base.isHost 0 = true ∧
    base.get F.DIR_FWD.ACTIVE < 2 ^ 64 ∧ (base.slice 0).trks = [] ∧ (base.slice 0).marks = [] ∧ (base.slice 0).w = [] ∧ (base.slice 0).p = [] ∧
    (base.slice 0).q = [] ∧ (base.slice 0).r = [] := by decide +kernel

/-- A record in the log, not acknowledged. -/
def recOf (seq : BitVec 40) (c : Coded) (level : Nat) : Rec :=
  { seq := seq, c := c, level := level, reported := level, escalated := false, compat := false, mode := 2, ftc := 0, acked := false,
    window := false, dead := false }

theorem test_meets_ReclaimIsComplete :
    let w : Walk := { why := .dead 0, left := [], count := 0 }
    let c : Coded := { unit := 0x13, what := .fault .agentDead, dom := .port, idx := 0 }
    let r := recOf 5 c 1
    let e : Entry := { Entry.free with st := .x, owner := 0, sharers := 1 }
    let d : Dev := { base with coh := { base.coh with walks := [w], dir := [(16, e)] }, flt := { base.flt with log := [(0, some r)] } }
    d.die = true ∧ (d.mode = .bringUp → d.pwr.reconciled = true) ∧ (d.coh.walks.find? fun x => decide (x.why = .dead 0)) = some w ∧ d.lastSeq .agentDead 0 = some 5 ∧
    Tab.wf Entry.free d.coh.dir = true ∧ (d.entry 16).st = .x ∧ (d.entry 16).holds 0 = true ∧ (d.entry 0).holds 0 = false := by decide +kernel

theorem test_meets_PrefetchScrubAndTimeouts :
    let tk (j : TrkJob) (q : Bool) : Trk :=
      { trk0 with id := 4095, line := 9, job := j, op := { op0 .rdA 9 with m := { (op0 .rdA 9).m with inst := some 1 } }, key := some 16,
                  reading := true, quota := q }
    let hint := inSlice base 0 fun s => { s with hints := [9] }
    let full : Dev := (List.range 16).foldl (fun d w => d.putEntry (dirKey 0 (setOf 9) w) { Entry.free with st := .s, sharers := 1 }) hint
    let t (j : TrkJob) (q : Bool) := inSlice base 0 fun s => { s with trks := [tk j q] }
    let v : Entry := { Entry.free with st := .s, sharers := 1, inst := some 1 }
    let pf := inSlice base 0 fun s => { s with pf := [(9, 0)] }
    base.die = true ∧ (base.slice 0).hints = [] ∧ (inSlice hint 0 fun s => { s with w := [op0 .wrI 9] }).laneIdle 0 = false ∧
    full.laneIdle 0 = true ∧ (full.slice 0).hints = [9] ∧ full.freeWay 9 = none ∧ (full.slice 0).w = [] ∧ (full.slice 0).q = [] ∧
    ((base.slice 0).trks.find? fun k => k.id == 0 && k.reading) = none ∧
    (((t .prefetch false).slice 0).trks.find? fun k => k.id == 4095 && k.reading) = some (tk .prefetch false) ∧ (tk .prefetch false).key = some 16 ∧
    (∀ y ∈ (base.slice 0).pf, y.1 ≠ 9) ∧ (∃ y ∈ (pf.slice 0).pf, y.1 = 9) ∧
    (sets base [(F.DIR_RECOV_CTL.SCRUB_INT, 0, 0)]).get F.DIR_RECOV_CTL.SCRUB_INT = 0 ∧
    (sets base [(F.DIR_RECOV_CTL.SCRUB_INT, 0, 1)]).get F.DIR_RECOV_CTL.SCRUB_INT ≠ 0 ∧ (∀ n < 16, base.bit F.DIR_LOST.VALID (7 * 16 + n) = false) ∧
    (base.slice 7).scrub < 2 ^ 18 ∧ (base.slice 0).wbs = [] ∧
    (((t .demand false).slice 0).trks.find? fun k => k.id == 4095 && k.reading) = some (tk .demand false) ∧ (base.slice 0).trk? 4095 = none ∧
    ((t .demand true).slice 0).trks = [tk .demand true] ∧ (tk .demand true).op.m.inst = some 1 ∧ (tk .demand true).quota = true ∧
    ((t .demand true).putEntry 16 v).quotaVictims 0 1 = [(16, v)] ∧ ((t .demand true).slice 0).trkFree = true := by decide +kernel

theorem test_meets_PrefetchScrubAndTimeouts_reads :
    let hint := inSlice base 0 fun s => { s with hints := [9] }
    let lost := sets base [(F.DIR_LOST.VALID, 7 * 16, 1), (F.DIR_LOST.SET, 7 * 16, 3), (F.DIR_LOST.CW, 7 * 16, 8)]
    let b : Wb := { id := 3, line := 9, data := 0, be := 0, poison := false, through := false, spill := false, host := 0, inst := none, fold := none }
    let w := inSlice base 0 fun s => { s with wbs := [b] }
    hint.laneIdle 0 = true ∧ (hint.freeWay 9).isSome = true ∧ hint.findKey 9 = none ∧ (hint.slice 0).busy 9 = false ∧ (hint.slice 0).wbOf 9 = none ∧
    (hint.slice 0).pf = [] ∧ (hint.slice 0).trks = [] ∧ (hint.slice 0).parked = [] ∧ (hint.slice 0).p = [] ∧
    (lost.lostCws 7 3).testBit 3 = true ∧ (base.lostCws 7 3).testBit 3 = false ∧ base.flt.injCw = [] ∧
    rsRead 0 = .clean ∧ rsRead 1 = .corr ∧ 4 < cwBytes 0x0101010101 ∧ (∀ n < 16, base.bit F.DIR_LOST.VALID (7 * 16 + n) = false) ∧ (w.slice 0).wbs = [b] ∧ (w.slice 0).thru = [] ∧
    (w.slice 0).trkOn 9 = none := by decide +kernel

set_option maxRecDepth 8000 in
theorem test_meets_DirectoryCommands :
    let b (v : Nat) := bytes 4 v
    let wc (v base_ e0 e1 : Nat) := b (v * 256) ++ b base_ ++ b e0 ++ b 0 ++ b e1 ++ b 0
    let wv := sets base [(F.WIN.VALID, 255, 1), (F.WIN.PREFETCHABLE, 255, 1)]
    let gr (g fl size base_ : Nat) := [BitVec.ofNat 8 g, BitVec.ofNat 8 fl] ++ bytes 2 0 ++ b 0 ++ b size ++ b base_
    let clash := sets base [(F.GRANT.VALID, 32, 1), (F.GRANT.DPA_BASE, 32, 0), (F.GRANT.SIZE, 32, 1)]
    let dump (x : Nat × Nat) : Dev := { base with car := { base.car with dump := some x } }
    let wk (y : WalkWhy) (n : Nat) : Dev := { base with coh := { base.coh with walks := [⟨y, [], n⟩] } }
    let dd : Cmd := { opcode := 0xC408, may := fun p _ _ => fmOnly p, modes := fun m => m = .quiesce }
    let sw : Transport := .switchMbox 0
    (base.ldBound 3 0 false = false ∧ base.ldBound 4 0 false = false) ∧
    base.accepts (rq 255 (wc 14 (2 ^ 23) 3 4)) (fmCmd 0xC400) = true ∧ 2 ^ 23 % 2 ^ 14 = 0 ∧ base.bindTarget 3 = true ∧ base.bindTarget 4 = true ∧
    base.listed F.WIN.VALID = [] ∧ base.bit F.WIN.VALID 255 = false ∧ wv.bit F.WIN.VALID 255 = true ∧
    wv.accepts (rq 255 []) (fmCmd 0xC401) = true ∧ wv.winUsed 255 = false ∧ 255 ∉ wv.coh.destroying ∧
    (wv.walkStart (.destroy 255)).bgRoom sw = true ∧ wv.accepts (rq 255 (b 31)) (fmCmd 0xC404) = true ∧ wv.bit F.WIN.PREFETCHABLE 255 = true ∧
    base.accepts (rq 1 (gr 31 7 16384 (2 ^ 24 - 16384))) (fmCmd 0xC405) = true ∧ base.isHost 1 = true ∧
    base.dpaClash 1 (some 31) none 0 (16384 * 2 ^ 28) = false ∧ clash.dpaClash 1 (some 31) none 0 (16384 * 2 ^ 28) = true ∧
    clash.accepts (rq 1 (gr 31 7 16384 0)) (fmCmd 0xC405) = true ∧ base.accepts (rq 1 (gr 31 3 1 0)) (fmCmd 0xC405) = true ∧
    base.accepts (rq 1 (gr 31 0 0 0)) (fmCmd 0xC405) = true ∧ base.bit F.GRANT.VALID 63 = false ∧
    ((base.put F.GRANT.VALID 63 0).walkStart (.revoke 1 31 0 0)).bgRoom sw = true ∧
    base.accepts (rq 1 (bytes 2 0xFFFF ++ bytes 2 0)) (fmCmd 0xC402) = true ∧ (base.walkStart (.flush (some 1) none)).bgRoom sw = true ∧
    base.accepts (rq 1 []) (fmCmd 0xC403) = true ∧ ((base.setPrt 1 PortRt.reset).killHost 1 4).bgRoom sw = true ∧ base.isHost 2 = false ∧
    base.accepts (rq 255 []) (fmCmd 0xC406) = true ∧ base.accepts (rq 7 (b (2 ^ 18 - 1))) (fmCmd 0xC407) = true ∧
    (inMode base .quiesce).accepts (rq 0xFFFF []) dd = true ∧ (inMode base .quiesce).car.dump = none ∧
    (inMode (dump (0, 1)) .quiesce).accepts (rq 0xFFFF []) dd = true ∧ (inMode (dump (0, 1)) .quiesce).car.dump ≠ none ∧
    wv.accepts (rq 255 (bytes 8 0 ++ b (2 ^ 20))) (fmCmd 0xC409) = true ∧ 0 + 64 * 2 ^ 20 ≤ wv.winSize 255 ∧
    base.coh.walks = [] ∧ (wk (.flush none none) 3).coh.walks = [⟨.flush none none, [], 3⟩] ∧ (wk (.flush none none) 3).walkBusy = false ∧
    (wk (.revoke 63 31 0 0) 0).walkBusy = false ∧ (wk (.clear 255 0 1) 0).die = true ∧ (wk (.destroy 255) 0).walkBusy = false ∧
    base.winBusy 255 = false ∧ (dump (1, 0)).car.dump = some (1, 0) ∧ (dump (1, 0)).car.cur = none ∧ (dump (0, 0)).car.dump = some (0, 0) :=
  ⟨⟨ldBound_unlisted _ _ _ _ (by decide +kernel), ldBound_unlisted _ _ _ _ (by decide +kernel)⟩, by
    decide +kernel⟩

/-! ### Folds and instances -/

theorem test_meets_FoldArithmetic :
    (∀ f ∈ [fp32, bf16, fp16], f.isNan 0 = false ∧ f.isInf 0 = false ∧ f.isNan f.nan = true ∧ f.isNan (f.add 1 1) = false ∧
      f.isInf (f.add 1 1) = false ∧ f.nan < 2 ^ (f.e + f.m + 1)) ∧
    fp32.isNan 0x7F7FFFFF = false ∧ fp32.isInf (fp32.add 0x7F7FFFFF 0x7F7FFFFF) = true := by decide +kernel

def withFold (d : Dev) (f st : Nat) (r : FoldRt) : Dev :=
  (sets d [(F.FOLD.STATE, f, st), (F.FOLD.RANKS, f, 2), (F.FOLD.LINES, f, 1), (F.FOLD_RANK.EDGE, f * 64, 1), (F.FOLD_RANK.EDGE, f * 64 + 1, 2),
    (F.FOLD.TIMEOUT, f, 1), (F.FOLD.AUTO_REARM, f, 1)]).setFoldRt f r

theorem test_meets_FoldEngine :
    let m (src : BitVec 12) (op : Op) (be : BitVec 64) : Msg := { msg0 with op := op, src := src, be := be }
    let full := BitVec.allOnes 64
    let e (st : Nat) (m : Msg) : Dev := let d := withFold live 511 st FoldRt.empty; { d with bld := { d.bld with inq := [(511, stagedTo 2 m)] } }
    let res := sets (e 1 (m 2 .wrI full)) [(F.FOLD.STAGE_RES, 511, 1)]
    let nx : FoldRt := { FoldRt.empty with staged := [(1, some (5, false))], cnt := [(0, 1)] }
    let fen := sets live [(F.FLT_FENCE_TILE.TILES, 0, 0x80)]
    live.die = true ∧ fen.die = true ∧ fen.tileFenced 7 = true ∧ ((withFold live 511 1 nx).stagedNext 7).isSome = true ∧ live.bld.inq = [] ∧
    (e 1 (m 1 .wrI full)).tileFenced 7 = false ∧ (e 1 (m 1 .wrI full)).stagedNext 7 = none ∧
    (e 1 (m 1 .wrI full)).bld.inq = [(511, stagedTo 2 (m 1 .wrI full))] ∧ 511 / 64 = 7 ∧ ((e 1 (m 1 .wrI full)).foldRt 511).held = [] ∧
    (e 1 (m 1 .wrI full)).get F.FOLD.STATE 511 = 1 ∧ (e 1 (m 1 .wrI full)).rankOf 511 (m 1 .wrI full) = some 0 ∧
    ((e 1 (m 1 .wrI full)).foldRt 511).written.get false (0 * 64 + 0) = false ∧ 0 = ((e 1 (m 1 .wrI full)).foldRt 511).cnt.get 0 0 ∧
    res.rankOf 511 (m 2 .wrI full) = some 1 ∧ 1 ≠ (res.foldRt 511).cnt.get 0 0 ∧ (res.foldStage 511 1 0 0 false).isSome = true ∧
    (sets (e 1 (m 2 .wrI full)) [(F.TIL_AUX_CFG.SIZE, 7, 0)]).foldStage 511 1 0 0 false = none ∧ (m 1 .rdS full).op ≠ .wrI ∧ (m 1 .wrI 1).be ≠ full ∧
    (e 0 (m 1 .wrI full)).get F.FOLD.STATE 511 = 0 ∧ (e 4 (m 1 .wrI full)).get F.FOLD.STATE 511 = 4 ∧
    0 + 1 < (withFold live 511 1 nx).get F.FOLD.RANKS 511 ∧ (withFold live 511 1 nx).tileFenced 7 = false ∧
    (withFold live 511 1 nx).stagedNext 7 = some (511, 1, 0) ∧ (withFold live 511 2 FoldRt.empty).get F.FOLD.STATE 511 = 2 ∧
    ((withFold live 511 2 FoldRt.empty).foldRt 511).writing = [] ∧
    ((withFold live 511 2 { FoldRt.empty with writing := [0] }).foldRt 511).writing ≠ [] ∧
    (withFold live 511 3 FoldRt.empty).get F.FOLD.STATE 511 = 3 ∧ (withFold live 511 3 FoldRt.empty).bit F.FOLD.AUTO_REARM 511 = true ∧
    (withFold live 511 3 FoldRt.empty).foldRt 511 = FoldRt.empty ∧ FoldRt.empty.stays = false ∧ ({ FoldRt.empty with stays := true } : FoldRt).stays = true ∧
    (withFold live 511 3 FoldRt.empty).tileFenced 7 = false ∧ (withFold fen 511 3 FoldRt.empty).tileFenced 7 = true ∧
    (withFold live 511 1 nx).get F.FOLD.TIMEOUT 511 ≠ 0 ∧
    ((withFold live 511 1 { nx with written := [(0, true)] }).foldRt 511).written ≠ [] ∧ ((withFold live 511 1 nx).foldRt 511).written = [] := by
  decide +kernel

def foldCmd (op : Nat) : Cmd := { opcode := op, may := fun p _ _ => fmOnly p, modes := foldModes }

theorem test_meets_FoldCommands :
    let win := sets live [(F.WIN.VALID, 0, 1)]
    let pay (b0 : BitVec 8) (lines : Nat) := [b0, 0, 1, 0] ++ bytes 2 lines ++ bytes 2 0 ++ bytes 4 0 ++ bytes 8 (2 ^ 40) ++ bytes 8 0 ++ bytes 8 0 ++ bytes 4 1
    let none_ := sets win [(F.TIL_AUX_CFG.SIZE, 7, 0)]
    let st (k : Nat) := withFold live 511 k FoldRt.empty
    let see (d : Dev) : Cmd := { opcode := 0xC502, may := fun p _ sel => d.foldSees p sel.toNat, modes := foldModes }
    win.accepts (rq 511 (pay 0 1)) (foldCmd 0xC500) = true ∧ (hdrOf 0xC500 (rq 511 []).raw).sel = BitVec.ofNat 16 511 ∧
    win.foldBad 511 (pay 0 1) = false ∧ win.foldBad 511 (pay 6 1) = true ∧ win.foldBad 511 (pay 0 1025) = true ∧ win.get F.FOLD.STATE 511 = 0 ∧
    (sets win [(F.FOLD.STATE, 511, 3)]).get F.FOLD.STATE 511 ≠ 0 ∧ (sets win [(F.FOLD.STATE, 511, 3)]).foldBad 511 (pay 0 1) = false ∧
    win.auxCan 7 .blend 1 = true ∧ none_.auxCan 7 .blend 1 = false ∧ none_.foldBad 511 (pay 0 1) = false ∧
    (∀ w ∈ wordsOf ((pay 0 1).drop 36), w / 2 ^ 22 ≠ 1) ∧
    (∀ k ≤ 4, (st k).accepts (rq 511 (bytes 4 1)) (foldCmd 0xC501) = true ∧ (st k).get F.FOLD.STATE 511 = k) ∧
    live.accepts (rq 511 []) (see live) = true ∧ (st 1).accepts { rq 511 [] with via := .hostMbox 0 } (see (sets (st 1) [(F.TIL_PCFG.EDGE_ID, 0, 1)])) = true := by
  decide +kernel

def quota0 : Quotas := { trk := 8, hold := 4, cells := 3, folds := 1, dir := 0 }

def withIns (d : Dev) (i st : Nat) : Dev :=
  sets d [(F.INS.VALID, i, 1), (F.INS.STATE, i, st), (F.INS.HOST_PORT, i, 0), (F.INS.Q_TRK, i, 8), (F.INS.Q_HOLD, i, 4), (F.INS.Q_CELLS, i, 3),
    (F.INS.XCOUNT, i, 1)]

theorem test_meets_QuotasStayInPools :
    live.tablesOk = true ∧ live.bit F.INS.VALID 1023 = false ∧ live.bit F.POL.TRANSIT 1023 = false ∧ quota0.bad false = false ∧
    live.poolsGive quota0 = true ∧ (withIns live 0 1).poolsGive quota0 = true ∧
    ({ quota0 with trk := 16384, hold := 4096, cells := 65536, folds := 64, dir := 4194304 } : Quotas).bad true = false := by decide +kernel

set_option maxRecDepth 8000 in
theorem test_meets_InstanceEvents :
    let i (st : Nat) := withIns live 1023 st
    let o : InsReq := { inst := 1023, m := { msg0 with gen := 1 }, squashed := false }
    let outs (st : Nat) : Dev := { i st with ins := { (i st).ins with out := [o] } }
    let hold (st : Nat) : Dev := (i st).setPol 1023 { (i st).pol 1023 with hold := [stagedTo 2 msg0] }
    let sv (c : Bool) (got : Nat) : Save := { caravan := c, blob := [1], got := got, wait := none }
    let wt : Save := { caravan := false, blob := [], got := 0, wait := some (.switchMbox 0, hdrOf 0xC603 (rq 1023 []).raw, 0) }
    let saves (d : Dev) (x : Save) : Dev := { d with ins := { d.ins with saves := [(1023, some x)] } }
    let wk : Dev := { i 3 with coh := { (i 3).coh with walks := [⟨.freeze 1023, [], 2⟩] } }
    (i 0).die = true ∧ (i 0).get F.INS.STATE 1023 = 0 ∧ (i 1).genBusy 1023 = false ∧ (outs 1).genBusy 1023 = true ∧
    ((i 1).foldIns 1023).get F.INS.STATE 1023 = 1 ∧ (((i 1).foldIns 1023).answerHeld 1023 false).bit F.INS.CLASS 1023 = false ∧
    (let w := sets (i 1) [(F.INS.CLASS, 1023, 1)]; ((w.foldIns 1023).answerHeld 1023 false).bit F.INS.CLASS 1023 = true) ∧
    (i 2).get F.INS.STATE 1023 = 2 ∧ (i 2).insOpen 1023 = [] ∧ (outs 2).insOpen 1023 ≠ [] ∧ (i 2).ins.resets = [] ∧
    (i 3).get F.INS.STATE 1023 = 3 ∧ (i 3).insOpen 1023 = [] ∧ (i 3).coh.walks = [] ∧ wk.coh.walks = [⟨.freeze 1023, [], 2⟩] ∧ wk.walkBusy = false ∧
    wk.ins.destroy = [] ∧ wk.coh.dir = [] ∧ (outs 3).insOpen 1023 ≠ [] ∧ ((i 3).pol 1023).hold = [] ∧
    ((hold 5).pol 1023).hold = [stagedTo 2 msg0] ∧ (hold 5).get F.INS.STATE 1023 = 5 ∧ (i 4).ins.saves.get none 1023 = none ∧
    (saves (i 4) wt).ins.saves.get none 1023 = some wt ∧ (saves (i 4) wt).get F.INS.STATE 1023 = 4 ∧ ((saves (i 4) wt).pol 1023).hold = [] ∧
    ((saves (hold 4) wt).pol 1023).hold ≠ [] ∧ (saves (i 5) (sv false 0)).ins.saves.get none 1023 = some (sv false 0) ∧
    (sv false 0).got < (sv false 0).blob.length ∧ (sv false 1).blob.length ≤ (sv false 1).got := by decide +kernel

/-- A blob of one entry, with its CRC-32. -/
def blob1 : List (BitVec 8) :=
  let b (crc : Nat) : List (BitVec 8) := bytes 2 0x4B49 ++ bytes 2 1 ++ bytes 4 384 ++ bytes 7 0 ++ [1] ++ bytes 12 0 ++ bytes 4 crc ++ bytes 12 0 ++
    bytes 2 8 ++ bytes 2 4 ++ bytes 4 3 ++ bytes 4 0 ++ bytes 4 0 ++ bytes 4 10 ++ bytes 320 0
  b (crc32 (b 0)).toNat

set_option maxRecDepth 8000 in
theorem test_meets_InstanceCommands :
    let s := base
    let i (st : Nat) := withIns s 1023 st
    let ents := bytes 16 0
    let cr (port : BitVec 8) := [port, 0, 0, 1] ++ bytes 8 0 ++ bytes 2 8 ++ bytes 2 4 ++ bytes 4 3 ++ bytes 2 0 ++ bytes 2 0 ++ bytes 4 0 ++ bytes 4 10 ++ ents
    let x : NewIns := ⟨0, 0, 0, 0, ⟨8, 4, 3, 0, 0⟩, 10, xents ents 1⟩
    let few := sets s [(F.INS_POOL_TRK.SIZE, 0, 7)]
    let cls := sets (i 1) [(F.INS.CLASS, 1023, 1)]
    let rst (d : Dev) : Cmd := { opcode := 0xC601, may := fun p _ sel => d.insMay p sel.toNat false, modes := liveModes }
    let stc (d : Dev) : Cmd := { opcode := 0xC607, may := fun p _ sel => d.insMay p sel.toNat true, modes := liveModes }
    let hold : Dev := (i 4).setPol 1023 { (i 4).pol 1023 with hold := [stagedTo 2 msg0] }
    s.accepts (rq 1023 (cr 0)) (insCmd 0xC600) = true ∧ (cr 0).length = 32 + 16 * 1 ∧ le (cr 0) 22 2 = 0 ∧ s.newBad x = false ∧
    s.newBad { x with port := 2 } = true ∧ (i 1).newBad x = false ∧ (i 1).bit F.INS.VALID 1023 = true ∧ s.bit F.INS.VALID 1023 = false ∧
    s.dpaClash 0 none (some 1023) x.apBase (2 ^ (x.apSize + 28)) = false ∧ s.bit F.POL.TRANSIT 1023 = false ∧ few.poolsGive x.q = false ∧
    few.newBad x = false ∧ s.freeVf 0 = some 0 ∧ s.poolsGive x.q = true ∧
    (i 2).accepts (rq 1023 []) (rst (i 2)) = true ∧ (i 2).get F.INS.STATE 1023 = 2 ∧ (i 1).genBusy 1023 = false ∧ ((i 1).insReset 1023).2.2 = false ∧
    (cls.insReset 1023).2.2 = true ∧ (i 4).accepts (rq 1023 []) (insCmd 0xC602) = true ∧ (i 4).get F.INS.STATE 1023 ≠ 1 ∧
    ((i 1).freeze 1023).bgRoom (.switchMbox 0) = true ∧ (i 1).accepts (rq 1023 []) (insCmd 0xC606) = true ∧ 1023 ∉ (i 1).ins.destroy ∧
    ((i 1).freeze 1023).get F.INS.STATE 1023 = 3 ∧ (i 4).bgRoom (.switchMbox 0) = true ∧
    (i 4).accepts (rq 1023 (bytes 8 0)) (insCmd 0xC603) = true ∧ (i 4).ins.saves.get none 1023 = none ∧ ((i 4).pol 1023).hold = [] ∧
    (hold.pol 1023).hold ≠ [] ∧ (i 4).accepts (rq 1023 []) (insCmd 0xC605) = true ∧ (i 1).get F.INS.STATE 1023 < 4 ∧
    (i 4).accepts (rq 1023 []) (stc (i 4)) = true ∧ (i 4).accepts (rq 1023 ([1, 0, 0, 0] ++ ents)) (insCmd 0xC608) = true ∧
    (i 4).xlateBad (2 ^ ((i 4).get F.INS.AP_SIZE 1023 + 7)) (xents ents 1) = false ∧ (∀ e ∈ xents ents 1, XEnt.coh e = false) ∧
    (i 1).accepts (rq 0xFFFF (bytes 4 8 ++ bytes 4 4 ++ bytes 4 3 ++ bytes 4 16 ++ bytes 4 512)) (insCmd 0xC609) = true ∧
    (i 1).reserved.trk ≤ 8 ∧ (i 1).reserved.hold ≤ 4 ∧ (i 1).reserved.cells ≤ 3 ∧ 7 < (i 1).reserved.trk := by decide +kernel

set_option maxRecDepth 8000 in
theorem test_meets_InstanceCommands_restore :
    let s := sets base [(F.GLB_NODE.NODE_ID, 0, 0)]
    let head (off : Nat) := bytes 12 0 ++ bytes 4 0 ++ bytes 4 off ++ bytes 4 384
    let bad := blob1.take 383 ++ [1]
    s.accepts (rq 1023 (head 0 ++ blob1)) (insCmd 0xC604) = true ∧ (head 0 ++ blob1).length ≤ 1048 ∧ le (head 0) 2 1 < 2 ∧ le (head 0) 14 2 = 0 ∧
    le (head 0) 12 2 ≤ 4095 ∧ le (head 0) 16 4 = 0 ∧ le (head 0) 20 4 = 384 ∧ blob1.length = 384 ∧ (blob1.take 383).length < 384 ∧
    blobOk bad = false ∧ blobOk blob1 = true ∧ s.get F.INS.STATE 1023 = 0 ∧
    (match s.restoreBlob 1023 (head 0) blob1 with | .ok _ _ _ => true | _ => false) = true := by decide +kernel

/-! ### Firmware, parameters and standard commands -/

def withMgt (d : Dev) (f : MgtSt → MgtSt) : Dev := { d with mgt := f d.mgt }

def img (svn : Nat) : ImgSlot := { valid := true, version := 7, svn := svn }

theorem test_meets_FirmwareBoot :
    let b (m : Mode) (st : Nat) : Dev := inMode (sets live [(F.MGT_FW_STATUS.STATE, 0, st)]) m
    let low : Dev := withMgt (b .bringUp 0) fun m => { m with svnMin := 1 }
    let nx : Dev := withMgt (b .bringUp 0) fun m => { m with boot := { m.boot with next := some 0 } }
    let wd := sets live [(F.MGT_FW_STATUS.WDT_ARMED, 0, 1)]
    (b .bringUp 1).die = true ∧ (b .bringUp 1).mode = .bringUp ∧ (b .bringUp 1).get F.MGT_FW_STATUS.STATE ≤ 1 ∧
    (b .bringUp 1).mgt.mayStart 0 = true ∧ (b .bringUp 1).bit F.GLB_CLK_STATUS.MGMT_LOCK = true ∧ low.mgt.mayStart 0 = false ∧ low.die = true ∧
    (b .quiesce 1).get F.MGT_FW_STATUS.STATE = 1 ∧ (b .quiesce 3).get F.MGT_FW_STATUS.STATE = 3 ∧ (b .quiesce 3).mgt.mayStart 0 = true ∧
    (b .quiesce 3).mgt.svnMin ≤ ((b .quiesce 3).mgt.img 0).svn ∧ ((b .quiesce 3).mgt.img 0).svn ≤ (b .quiesce 3).mgt.svnMin + (b .quiesce 3).mgt.fuses ∧
    (b .bringUp 0).mgt.boot.next ≠ some (b .bringUp 0).mgt.from_ ∧ (b .bringUp 0).mgt.fell = false ∧ nx.mgt.boot.next = some nx.mgt.from_ ∧
    1 < (b .bringUp 2).get F.MGT_FW_STATUS.STATE ∧ ((withMgt live fun m => { m with from_ := 1 }).mgt.img 1).valid = false ∧
    (live.mgt.img 0).valid = true ∧ live.bit F.MGT_FW_STATUS.WDT_ARMED = false ∧ wd.bit F.MGT_FW_STATUS.WDT_ARMED = true ∧
    wd.get F.PWR_STATUS.STATE = 3 ∧ wd.flt.running = true ∧ wd.quiet = true ∧ wd.flt.inq = [] ∧ wd.flt.stalled = [] ∧ wd.flt.lostSince = 0 ∧
    wd.policyLevel .fwWatchdog = 3 := by decide +kernel

theorem test_meets_FirmwareImages :
    let c4 : Cmd := { opcode := 0xC004, may := fun p _ _ => fmOnly p, modes := fwModes, rom := true }
    let c3 : Cmd := { opcode := 0xC003, may := fun p _ _ => fmOnly p, modes := dieModes, rom := true }
    let o := live.origin (.switchMbox 0)
    let x (got total : Nat) (er ve st : Bool) : Xfer :=
      { origin := o, slot := 1, total := total, got := got, erased := er, verifying := ve, stream := st }
    let d (x : Xfer) : Dev := withMgt live fun m => { m with xfer := some x }
    let both : Dev := withMgt live fun m => { m with imgB := img 0 }
    let arm : Dev := { d (x 0 0 true false true) with car := { live.car with armed := true } }
    live.accepts (rq 0xFFFF ([1, 129, 0, 0] ++ bytes 4 0 ++ bytes 4 (7 * 2 ^ 20))) c4 = true ∧ live.runSlot ≠ some 1 ∧ live.mgt.xfer = none ∧
    live.bgRoom (.switchMbox 0) = true ∧ (d (x 4 8 true false false)).accepts (rq 0xFFFF ([2, 0, 0, 0] ++ bytes 4 4 ++ bytes 4 0 ++ bytes 4 9)) c4 = true ∧
    (d (x 4 8 true false false)).mgt.xfer = some (x 4 8 true false false) ∧ ((d (x 4 8 true false false)).taken (.switchMbox 0)).origin (.switchMbox 0) = o ∧
    (x 4 8 true false false).got + 4 ≤ (x 4 8 true false false).total ∧ (d (x 8 8 true false false)).accepts (rq 0xFFFF ([3, 0, 0, 0] ++ bytes 8 0)) c4 = true ∧
    (x 8 8 true false false).got = (x 8 8 true false false).total ∧ (d (x 8 8 true false false)).accepts (rq 0xFFFF ([4, 0, 0, 0] ++ bytes 8 0)) c4 = true ∧
    both.accepts (rq 0xFFFF [1, 0, 0, 0]) c3 = true ∧ (both.mgt.img 1).valid = true ∧ both.get F.MGT_FW_STATUS.STATE ≠ 4 ∧
    (inMode both .quiesce).accepts (rq 0xFFFF [1, 1, 0, 0]) c3 = true ∧ both.mgt.running = [] ∧ both.mgt.xfer = none ∧ both.runSlot ≠ some 1 ∧
    live.acceptsStd (rq 0 []) { n := 12, acts := 0xC004, modes := fwModes } = true ∧ both.acceptsStd (rq 0 []) { n := 13, acts := 0xC003 } = true ∧
    (x 0 8 false false false).erased = false ∧ (x 8 8 true true false).verifying = true ∧ live.mgt.svnMin ≤ (0 : Fin 256).val ∧
    (0 : Fin 256).val < (withMgt live fun m => { m with svnMin := 1 }).mgt.svnMin ∧ arm.mgt.xfer = some (x 0 0 true false true) ∧
    arm.car.armed = true ∧ arm.car.rx = none ∧ arm.die = true := by decide +kernel

theorem test_meets_ParameterCommands :
    let b (v : Nat) := bytes 4 v
    let rd (o : Nat) := bytes 2 1 ++ [1, 0] ++ b o
    let wr (id len off n : Nat) := bytes 2 id ++ [0, 0] ++ b off ++ b n ++ List.replicate len (5 : BitVec 8)
    let pw : Dev := withMgt live fun m => { m with paramWr := some { id := 0x2000, total := 16384, bytes := List.replicate 12416 0 } }
    let shadow : MgtSt := { MgtSt.reset with shadow := [(2 ^ 20, some 9)], deleted := [2] }
    let cm : Dev := withMgt live fun m => { m with commit := some m.nextBank }
    let bg : Cmd := { opcode := 0xC005, may := anyOne, modes := dieModes }
    let op : BgOp := { via := .switchMbox 0, hdr := hdrOf 0xC201 ([1, 0, 0, 0] ++ b 77), item := 0 }
    let run : Dev := withMgt live fun m => { m with running := [op] }
    let kept : Dev := withMgt live fun m => { m with results := [{ op := op, detail := .ok, result := [], aborted := false }] }
    let mine (d : Dev) (o : BgOp) : Bool := decide (d.origin o.via = d.origin (.switchMbox 0)) && decide (o.hdr.seq = BitVec.ofNat 32 77)
    live.accepts (rq 0xFFFF (rd 0)) (parCmd 0xC006) = true ∧ (paramSize 1).isSome = true ∧ 0 ≤ (live.mgt.paramValue true 1).length ∧
    (live.mgt.paramValue true 1).length < 3 ∧ live.accepts (rq 0xFFFF (bytes 2 1 ++ [1, 0] ++ bytes 8 0)) (parCmd 0xC007) = true ∧
    live.accepts (rq 0xFFFF (wr 0x2000 3968 0 16384)) (parCmd 0xC007) = true ∧ (wr 0x2000 3968 0 16384).length = 3980 ∧
    (paramSize 0x2000).isSome = true ∧ (wr 0x2000 3968 0 16384).length - 12 < 16384 ∧ paramSize 1 = some 2 ∧
    live.accepts (rq 0xFFFF (wr 1 2 0 2)) (parCmd 0xC007) = true ∧ (wr 1 2 0 2).length - 12 = 2 ∧ paramSize 0x2000 = some 16384 ∧
    pw.accepts (rq 0xFFFF (wr 0x2000 3968 12416 16384)) (parCmd 0xC007) = true ∧ 12416 + ((wr 0x2000 3968 12416 16384).length - 12) = 16384 ∧
    live.accepts (rq 0xFFFF []) (parCmd 0xC008) = true ∧ live.mgt.commit = none ∧ live.bgRoom (.switchMbox 0) = true ∧ cm.mgt.commit ≠ none ∧
    cm.accepts (rq 0xFFFF []) (parCmd 0xC008) = true ∧ live.accepts (rq 0xFFFF (bytes 2 0 ++ bytes 2 256)) (parCmd 0xC009) = true ∧
    0 + 256 ≤ paramIds.length ∧ live.accepts (rq 0xFFFF (bytes 2 0 ++ bytes 2 0 ++ b 77)) bg = true ∧
    (run.mgt.running.find? (mine run)) = some op ∧ (kept.mgt.running.find? (mine kept)) = none ∧
    (kept.mgt.results.reverse.find? (fun x => mine kept x.op)).isSome = true ∧ (live.mgt.results.reverse.find? (fun x => mine live x.op)) = none ∧
    Tab.wf none shadow.shadow = true ∧ shadow.shadow.get none (2 ^ 20) ≠ none ∧ shadow.deleted.contains (2 * 2 ^ 20 / 2 ^ 20) = true := by
  decide +kernel

theorem test_meets_IdentityAndFactory :
    let id : Cmd := { opcode := 0xC000, may := anyOne, modes := dieModes, rom := true }
    let gm : Cmd := { opcode := 0xC001, may := fun p _ _ => fmMonHost p, modes := dieModes }
    let tk : Cmd := { opcode := 0xCF00, may := isFm, modes := fun m => m = .bringUp }
    let fa (op : Nat) : Cmd := { opcode := op, factory := true, may := fun _ _ _ => true, modes := fun m => m = .factory }
    let up : Dev := inMode live .bringUp
    let te : Dev := { up with pwr := { up.pwr with testEn := true } }
    let fc : Dev := withMgt (inMode live .factory) fun m => { m with factory := some (.switchMbox 0) }
    let inj (m k u p a n : Nat) := bytes 1 m ++ bytes 1 k ++ bytes 2 0 ++ bytes 2 u ++ bytes 1 p ++ bytes 1 0 ++ bytes 8 a ++ bytes 8 0 ++ bytes 4 n
    live.accepts (rq 0xFFFF []) id = true ∧ live.get F.MGT_FW_STATUS.STATE = 2 ∧ live.accepts (rq 0xFFFF []) gm = true ∧ live.pwr.trans = none ∧
    te.accepts (rq 0xFFFF (bytes 2 4 ++ bytes 2 0 ++ bytes 4 9)) tk = true ∧ te.pwr.testEn = true ∧ up.pwr.testEn = false ∧
    up.accepts (rq 0xFFFF (bytes 2 4 ++ bytes 2 0 ++ bytes 4 9)) tk = true ∧
    fc.accepts (rq 0xFFFF (bytes 4 16380 ++ bytes 4 16384 ++ bytes 4 1)) (fa 0xCF02) = true ∧ fc.flt.inq = [] ∧
    fc.accepts (rq 0xFFFF (inj 2 0 0x12 0 5 0)) (fa 0xCF01) = true ∧ fc.injBad (inj 2 0 0x12 0 5 0) = false ∧ fc.injBad (inj 0 0 0 0 0 0) = true ∧
    fc.injBad (inj 1 Kind.dirCorr.code 0x13 0 0 0) = false ∧ Kind.ofCode (le (inj 1 Kind.dirCorr.code 0x13 0 0 0) 1 1) = some .dirCorr ∧
    fc.injBad (inj 3 0 0x13 0 0 1) = false := by decide +kernel

theorem test_meets_StandardCommands :
    let i := vppbNo 1 31
    let st (k : Nat) := sets base [(F.TIL_VPPB.STATE, i, k), (F.TIL_VPPB.TARGET_EDGE, i, 3)]
    let sw := rq 0 []
    let ho : FoernReq := { via := .hostMbox 1, raw := [] }
    let mon := sets base [(F.MGT_XPORT.BMC_MONITOR, 0, 1)]
    (∀ n ∈ [1, 2, 3, 4, 9, 10, 11, 14, 15, 16, 17, 18, 19, 22, 23, 24], base.acceptsStd sw { n := n } = true) ∧
    (∀ n ∈ [5, 6, 7, 8], base.acceptsStd ho { n := n, host := true } = true ∧ base.acceptsStd sw { n := n, host := true } = true) ∧
    base.acceptsStd ho { n := 25, fm := false, host := true } = true ∧ base.acceptsStd sw { n := 20, acts := 0xC201, modes := liveModes } = true ∧
    (base.taken (.switchMbox 0)).isHost 1 = true ∧ base.bindTarget 3 = true ∧ base.get F.TIL_VPPB.STATE i = 0 ∧ base.binding 1 = false ∧
    base.bgRoom (.switchMbox 0) = true ∧ (st 2).acceptsStd sw { n := 21, acts := 0xC202, modes := liveModes } = true ∧
    (st 2).get F.TIL_VPPB.STATE i = 2 ∧ (st 2).eventsFull 3 = false ∧ ((st 2).unbindStart 1 31 0).bgRoom (.switchMbox 0) = true ∧
    base.answers (.hostMbox 1) = true ∧ base.served (.hostMbox 1) = true ∧ ho.raw.length ≤ ho.via.largest ∧ mon.principal (.bmcMctp 8) = .monitor ∧
    mon.served (.bmcMctp 8) = true := by decide +kernel

/-! ### Faults -/

def flt (k : Kind) (u : Nat) (dom : DomType) (idx : Nat) : Coded := { unit := u, what := .fault k, dom := dom, idx := idx }

def withFlt (d : Dev) (f : FltSt → FltSt) : Dev := { d with flt := f d.flt }

theorem test_meets_FaultQueueAndLog :
    let c := flt .wire 0xF11 .device 0
    let ev : Coded := { unit := 0xF00, what := .event .wake, dom := .device, idx := 0 }
    let full (c : Coded) : Dev := withFlt live fun f => { f with inq := List.replicate 64 ev, arr := [c] }
    let two : Dev := withFlt live fun f => { f with arr := [flt .dirCorr 0x113 .tile 1, flt .dirCorr 0x13 .tile 0] }
    let q : Dev := withFlt live fun f => { f with inq := [ev, c] }
    let st : Dev := withFlt live fun f => { f with inq := List.replicate 64 ev, stalled := [c] }
    let off : Dev := withFlt live fun f => { f with running := false, butre := [c] }
    let re := sets live [(F.FLT_CTL.REACTION, 0, 1)]
    let log : Dev := withFlt live fun f => { f with log := [(0, some (recOf 0 c 0))] }
    two.flt.stalled = [] ∧ two.flt.inq.length + two.flt.arr.length ≤ 64 ∧ (∀ y ∈ two.flt.arr, live.muted y = false) ∧
    (full c).flt.inq.length = 64 ∧ (full c).flt.arr = [c] ∧ live.muted c = false ∧ Kind.fixed .wire = true ∧ (full ev).flt.arr = [ev] ∧ live.muted ev = false ∧
    off.flt.running = false ∧ off.die = true ∧ q.flt.inq = ev :: [c] ∧ q.flt.stalled = [] ∧ q.flt.lostSince = 0 ∧
    st.flt.stalled = c :: [] ∧ off.flt.butreLost = 0 ∧ off.flt.arr = [] ∧ live.checkOn = false ∧ c.recl = none ∧
    live.bit F.FLT_POLICY.DEAD_HOST Kind.dirCorr.code = false ∧ (live.applied ev).1 = 0 ∧
    1 ≤ (re.applied (flt .bayGateStuck 0xF5F .bay 31)).1 ∧ re.bit F.FLT_CTL.REACTION = true ∧ Kind.fixed .bayGateStuck = false ∧ re.openRecs.length < 256 ∧
    Tab.wf none log.flt.log = true ∧ log.flt.log.get none 0 = some (recOf 0 c 0) ∧ log.openRecs.length < 2048 := by decide +kernel

theorem test_meets_FaultLevelsAndEdges :
    let c := flt .dirUncorr 0x13 .tile 0
    let cell := recOf 0 (flt .dirUncorr 0x13 .sliceWays 3) 1
    let l (n : Nat) (k : Kind) (u : Nat) := recOf 0 (flt k u .tile 0) n
    let last := sets live [(F.FLT_FENCE_TILE.TILES, 0, 0xFE)]
    let w : Dev := withFlt live fun f => { f with log := [(0, some { recOf 4 c 1 with window := true })] }
    let up : Dev := inMode live .bringUp
    let eq (n : Nat) : Dev := withFlt up fun f => { f with wireEq := List.replicate n 134 }
    let op : BgOp := { via := .switchMbox 0, hdr := hdrOf 0xC805 (rq 7 []).raw, item := 7 }
    let re : Dev := withMgt live fun m => { m with running := [op] }
    cell.dead = false ∧ cell.level = 1 ∧ cell.c.dom = .sliceWays ∧ live.flt.fences.contains (cell.c.dom, cell.c.idx) = false ∧
    (l 0 .dirUncorr 0x13).level = 0 ∧ (l 2 .dirUncorr 0x13).c.tile = some 0 ∧ live.lastTile (l 2 .dirUncorr 0x13).c.what 0 = false ∧
    last.lastTile (l 2 .dirUncorr 0x13).c.what 0 = true ∧ (l 3 .fwWatchdog 0xF03).c.what = .fault .fwWatchdog ∧
    live.tileFenced 7 = false ∧ last.tileFenced 7 = true ∧ live.logged.find? (fun r => decide (r.seq = 4) && r.window) = none ∧
    w.logged.find? (fun r => decide (r.seq = 4) && r.window) = some { recOf 4 c 1 with window := true } ∧ w.die = true ∧
    up.checkOn = true ∧ live.checkOn = false ∧ (∀ p ∈ [0, 127, 128, 134], up.pairMuted p = false) ∧ up.flt.injWire = [] ∧
    (up.flt.wireEq.filter (· == 134)) = [] ∧ ((eq 1).flt.wireEq.filter (· == 134)) = [134] ∧ ((eq 2).flt.wireEq.filter (· == 134)) = [134, 134] ∧
    up.flt.wireRec.contains 134 = false ∧ up.flt.wireSig.contains 134 = false ∧ up.flt.wireHigh.contains 134 = false ∧
    (withFlt up fun f => { f with wireHigh := [134] }).flt.wireHigh.contains 134 = true ∧
    (withFlt up fun f => { f with wireRec := [134], wireSig := [0] }).flt.wireRec.contains 134 = true ∧
    (withFlt up fun f => { f with wireRec := [134], wireSig := [0] }).flt.wireSig.contains 0 = true ∧ up.flt.running = true ∧
    live.bgFind 0xC805 7 = none ∧ re.bgFind 0xC805 7 = some op := by decide +kernel

theorem test_meets_FaultCommands :
    let c := flt .dirUncorr 0x13 .tile 0
    let x := recOf 4 c 2
    let lg : Dev := withFlt live fun f => { f with log := [(0, some x)] }
    let fe (t : DomType) (n : Nat) : Dev := withFlt live fun f => { f with fences := [(t, n)] }
    let held : Dev := withFlt (fe .bay 31) fun f => { f with log := [(0, some (recOf 4 (flt .bayShort 0xF5F .bay 31) 1))] }
    let rei : Cmd := { fltCmd 0xC805 with modes := fun m => m = .quiesce }
    let fq := inMode (sets live [(F.FLT_FENCE_TILE.TILES, 0, 0x80)]) .quiesce
    let ack (a : BitVec 8) := bytes 8 4 ++ [a, 0, 0, 0]
    lg.accepts (rq 0xFFFF (bytes 8 0 ++ bytes 2 120 ++ [1, 0])) (fltReadCmd 0xC800) = true ∧ lg.bySeq = [x] ∧
    (∀ a ∈ [0, 1, 2], lg.accepts (rq 0xFFFF (ack a)) (fltCmd 0xC801) = true) ∧ live.bySeq = [] ∧
    (lg.bySeq.filter fun y => y.open_ && y.seq.toNat == 4) = [x] ∧
    live.accepts (rq Kind.dirCorr.code (bytes 4 1)) (fltCmd 0xC802) = true ∧ Kind.ofCode Kind.dirCorr.code = some .dirCorr ∧
    Kind.fixed .dirCorr = false ∧ (Kind.dom .dirCorr).levels.contains 0 = true ∧ Kind.fixed .wire = true ∧ Kind.ofCode Kind.wire.code = some .wire ∧
    (4 : Nat).testBit 2 = true ∧ Kind.dom .dirCorr ≠ .port ∧
    live.accepts (rq 0xFFFF ([1, 0] ++ bytes 2 10000)) (fltCmd 0xC803) = true ∧
    (fe .bay 31).accepts (rq 31 [7, 0, 0, 0]) (fltCmd 0xC804) = true ∧ (fe .bay 31).flt.fences.contains (.bay, 31) = true ∧
    (fe .bay 31).heldFor .bay 31 = false ∧ held.heldFor .bay 31 = true ∧ (fe .port 63).accepts (rq 63 [1, 0, 0, 0]) (fltCmd 0xC804) = true ∧
    (fe .instance_ 1023).accepts (rq 1023 [5, 0, 0, 0]) (fltCmd 0xC804) = true ∧ (fe .instance_ 1023).get F.INS.STATE 1023 ≠ 3 ∧
    live.flt.fences.contains (.bay, 31) = false ∧ fq.accepts (rq 7 []) rei = true ∧ fq.tileFenced 7 = true ∧ fq.openRecs = [] ∧
    fq.bgFind 0xC805 7 = none ∧ fq.bgRoom (.switchMbox 0) = true ∧ fq.tileFenced 0 = false ∧
    live.accepts (rq 0xFFFF []) (fltReadCmd 0xC806) = true ∧ ({ x with window := true } : Rec).window = true ∧ lg.flt.holdL3 ≠ some x.seq := by
  decide +kernel

/-! ### Caravan -/

def withCar (d : Dev) (f : CarSt → CarSt) : Dev := { d with car := f d.car }

def head (stream : BitVec 8) (cont : Bool) (total : Nat) (crc : BitVec 32) : BurstHead :=
  { stream := stream, cont := cont, kind := 1, version := 1, seq := 5, off := 0, total := BitVec.ofNat 32 total, node := 0, ftc := 0,
    crc := crc }

theorem test_meets_CaravanOutput :
    let on := sets live [(F.CAR_CFG.TX_EN, 0, 1), (F.CAR_CFG.STREAM_EN, 0, 31), (F.CAR_STATUS.TX_READY, 0, 1), (F.CAR_STATUS.TX_CREDIT, 0, 1)]
    let dry := sets on [(F.CAR_STATUS.TX_CREDIT, 0, 0)]
    let al (n : Nat) : Dev := withCar on fun c => { c with align := n }
    let b (due cont : Bool) (n sent : Nat) : OutBurst :=
      { head := head 2 cont n 0, bytes := List.replicate n 7, sent := sent, headDue := due, faults := [], recls := [], tels := [] }
    let cur (x : OutBurst) (d : Dev) : Dev := withCar d fun c => { c with cur := some x }
    let blob : Dev := withCar on fun c => { c with blobs := [(0, [1, 2])] }
    let q : Dev := withFlt live fun f => { f with faultQ := [recOf 4 (flt .dirUncorr 0x13 .tile 0) 2] }
    live.die = true ∧ live.bit F.CAR_CFG.TX_EN = false ∧ on.bit F.CAR_CFG.TX_EN = true ∧ (al 2).car.align = 0 + 2 ∧ (al 1).car.align = 1 ∧
    on.die = true ∧ on.car.align = 0 ∧ on.car.cur = none ∧ on.carNext = none ∧ dry.get F.CAR_STATUS.TX_CREDIT = 0 ∧ (cur (b true false 90 0) dry).car.cur ≠ none ∧
    (cur (b true false 90 0) on).car.cur = some (b true false 90 0) ∧ (b true false 90 0).headDue = true ∧
    (cur (b true false 90 0) on).get F.CAR_STATUS.TX_CREDIT ≠ 0 ∧ (cur (b true false 90 0) on).bit F.CAR_CFG.TX_EN = true ∧
    (b false true 90 0).headDue = false ∧ 0 + 60 < (b false true 90 0).bytes.length ∧ (b false true 90 30).bytes.length ≤ 30 + 60 ∧
    (b false true 90 30).sent ≤ (b false true 90 30).bytes.length ∧ (b false true 90 30).tels = [] ∧
    blob.carNext = some 5 ∧ blob.car.cur = none ∧ blob.get F.CAR_STATUS.TX_CREDIT ≠ 0 ∧ blob.carReady 5 = true ∧ blob.carReady 2 = false ∧
    on.bit F.CAR_STATUS.TX_READY = true ∧ on.get F.CAR_STATUS.TX_CREDIT < 2 ^ F.CAR_STATUS.TX_CREDIT.w - 1 ∧
    live.bit F.CAR_STATUS.TX_READY = false ∧ q.flt.faultQ ≠ [] ∧ q.car.flush.contains 2 = false ∧ q.die = true ∧ live.flt.faultQ = [] ∧
    (b false true 90 30).head.stream.toNat ≠ 4 ∧ (cur (b true false 90 0) dry).bit F.CAR_STATUS.TX_READY = true := by decide +kernel

set_option maxRecDepth 8000 in
theorem test_meets_CaravanInput :
    let on := sets live [(F.CAR_CFG.RX_EN, 0, 1), (F.CAR_STATUS.RX_LOCK, 0, 1)]
    let arm : Dev := withCar on fun c => { c with armed := true }
    let h := head 0x9F false 368 0
    let b (h : BurstHead) (l : List (BitVec 8)) : InBurst := { head := h, bytes := l, stalled := false, broken := false }
    let rx (d : Dev) (x : InBurst) : Dev := withCar d fun c => { c with rx := some x }
    let got := List.replicate 366 (7 : BitVec 8)
    let full := got ++ [1, 2]
    let bl := head 0x9F false 368 (crc32 full)
    let im := head 0x81 false 2 (crc32 [1, 2])
    let y : Xfer := { origin := 0, slot := 1, total := 0, got := 0, erased := true, verifying := false, stream := true }
    let xf : Dev := withMgt (rx arm (b im [])) fun m => { m with xfer := some y }
    let st : InBurst := { b h [7] with stalled := true }
    on.die = true ∧ (on.bit F.CAR_CFG.RX_EN && on.bit F.CAR_STATUS.RX_LOCK) = true ∧
    (live.bit F.CAR_CFG.RX_EN && live.bit F.CAR_STATUS.RX_LOCK) = false ∧ (0 : Fin 129).val = 0 ∧ (128 : Fin 129).val ≠ 0 ∧
    on.carOpens h = true ∧ on.car.rx = none ∧ (rx on (b h [])).car.rx = some (b h []) ∧ (rx on (b h [])).carOpens h = true ∧ h.stream ≠ 0x81 ∧
    (head 0x9F true 368 0).cont = true ∧ carContinues (b h []) (head 0x9F true 368 0) = true ∧
    (head 0x9F false 367 0).cont = false ∧ on.carOpens (head 0x9F false 367 0) = false ∧ on.carOpens (head 0x9F false 1392 0) = true ∧
    on.carOpens (head 0x9F false 1393 0) = false ∧ (st.stalled || st.broken || (rx on st).car.skip) = true ∧
    ((b h []).stalled || (b h []).broken || (rx on (b h [])).car.skip) = false ∧ ([] ++ [1, 2] : List (BitVec 8)).length < h.total.toNat ∧
    bl.total.toNat ≤ full.length ∧ crc32 full ≠ h.crc ∧ crc32 full = bl.crc ∧ bl.stream.toNat = 0x90 + 15 ∧
    (rx on (b bl got)).car.held.get none 15 = none ∧ im.stream = 0x81 ∧ im.total.toNat ≤ ([1, 2] : List (BitVec 8)).length ∧
    crc32 ([] ++ [1, 2]) = im.crc ∧ xf.mgt.xfer = some y ∧ xf.car.rx = some (b im []) ∧ arm.carOpens im = true ∧ h.version = 1 := by
  decide +kernel

theorem test_meets_CaravanCommands :
    let ok := 0x3E9F3
    let st : Cmd := { opcode := 0xCB01, may := fun p pay _ => fmOnly p || (p = .monitor && le pay 0 4 = 0), modes := liveModes }
    let d := sets live [(F.MGT_FW_STATUS.SLOT, 0, 0)]
    let busy : Dev := withMgt live fun m =>
      { m with xfer := some { origin := 0, slot := 1, total := 0, got := 0, erased := true, verifying := false, stream := true } }
    (∀ k ∈ [0, 1], live.accepts (rq 0xFFFF (bytes 4 ok ++ bytes 4 k)) (fmCmd 0xCB00) = true ∧
      (bytes 4 ok ++ bytes 4 k).length = 8 ∧ le (bytes 4 ok ++ bytes 4 k) 0 4 = ok ∧ le (bytes 4 ok ++ bytes 4 k) 5 3 = 0 ∧
      le (bytes 4 ok ++ bytes 4 k) 4 1 = k) ∧ ok < 2 ^ 27 ∧ carTimesOk ok = true ∧ carTimesOk 0xA0 = false ∧
    live.accepts (rq 0xFFFF (bytes 4 0xA0 ++ bytes 4 0)) (fmCmd 0xCB00) = true ∧
    live.accepts (rq 0xFFFF (bytes 4 31)) st = true ∧ (bytes 4 31).length = 4 ∧ le (bytes 4 31) 0 4 = 31 ∧
    d.accepts (rq 0xFFFF []) (fmCmd 0xCB02) = true ∧ d.mgt.xfer = none ∧ d.get F.MGT_FW_STATUS.STATE ≠ 4 ∧
    d.get F.MGT_FW_STATUS.SLOT = 1 - (1 : Fin 2).val ∧ d.bgRoom (.switchMbox 0) = true ∧
    busy.accepts (rq 0xFFFF []) (fmCmd 0xCB02) = true ∧ busy.mgt.xfer ≠ none ∧
    (sets live [(F.CAR_CFG.TX_EN, 0, 1), (F.CAR_CFG.RX_EN, 0, 1)]).bit F.CAR_CFG.TX_EN = true ∧ live.bit F.CAR_CFG.TX_EN = false := by
  decide +kernel

/-! ### Bays -/

/-- Bay 31 in a state. -/
def bayIn (st : Nat) (l : List (Fld × Nat × Nat)) : Dev := sets live ((F.BAY_STATUS.STATE, 31, st) :: l)

def bayRt (d : Dev) (r : BayRt) : Dev := d.setBayRt 31 r

theorem test_meets_BayPowerOn :
    let pr := bayIn 5 [(F.BAY_STATUS.PRSNT, 31, 1), (F.BAY_STATUS.ALERT, 31, 1), (F.BAY_STATUS.PG, 31, 1)]
    let en := bayIn 0 [(F.BAY_CFG.EN, 31, 1), (F.BAY_CFG.AUTO_ON, 31, 1)]
    let po := sets pr [(F.BAY_CFG.PORT_VALID, 31, 1), (F.BAY_CFG.PORT, 31, 3)]
    let gone (d : Dev) : Dev := (d.put F.BAY_STATUS.PRSNT 31 0).put F.BAY_PRSNT_ALL.PRSNT 0 (d.get F.BAY_PRSNT_ALL.PRSNT - 2 ^ 31)
    let left (d : Dev) : Dev := ((gone d).bayEvent 31 .bayPresence 1).count (cBay 31 7)
    let wait := bayIn 1 [(F.BAY_FEED_STATUS.A_GOOD, 0, 1), (F.BAY_FEED_CFG.PRE_MAX, 0, 1)]
    let dir := bayRt (bayIn 6 []) { BayRt.reset with direct := true }
    let q := bayRt (bayIn 4 []) { BayRt.reset with qual := true }
    pr.bit F.BAY_STATUS.PRSNT 31 = true ∧ live.bit F.BAY_STATUS.PRSNT 31 = false ∧ live.bit F.BAY_CFG.EN 31 = false ∧
    en.bit F.BAY_STATUS.PRSNT 31 = false ∧ en.bit F.BAY_CFG.EN 31 = true ∧ en.bit F.BAY_CFG.AUTO_ON 31 = true ∧ en.baySt 31 = 0 ∧
    pr.baySt 31 ≠ 9 ∧ (left pr).bayPort 31 = none ∧ (left po).bayPort 31 = some 3 ∧ (left po).die = true ∧ po.bit F.BAY_STATUS.PRSNT 31 = true ∧
    pr.bit F.BAY_STATUS.ALERT 31 = true ∧ live.bit F.BAY_STATUS.ALERT 31 = false ∧
    wait.baySt 31 = 1 ∧ wait.pickFeed 31 = some false ∧ wait.slotFree false = true ∧ (∀ j < 31, wait.baySt j ≠ 1) ∧ (∀ j < 32, live.baySt j ≠ 1) ∧
    (bayIn 3 []).baySt 31 = 3 ∧ dir.baySt 31 = 6 ∧ (dir.bayRt 31).direct = true ∧ pr.baySt 31 ≠ 3 ∧ pr.baySt 31 ≠ 6 ∧
    q.baySt 31 = 4 ∧ (q.bayRt 31).qual = true ∧ q.bit F.BAY_STATUS.FLT_RUN 31 = false ∧ pr.baySt 31 ≠ 4 ∧
    pr.bit F.BAY_STATUS.PG 31 = true ∧ (pr.bayRt 31).pulse = false ∧ live.bit F.BAY_STATUS.PG 31 = false := by decide +kernel

theorem test_meets_BayTripsAndFeeds :
    let s (k : Nat) := bayIn k []
    let run := bayIn 5 [(F.BAY_STATUS.FLT_RUN, 31, 1)]
    let good := bayIn 5 [(F.BAY_FEED_STATUS.A_GOOD, 0, 1), (F.BAY_FEED_CFG.A_FITTED, 0, 1), (F.BAY_FEED_CFG.PRE_MAX, 0, 1)]
    let fit := bayIn 5 [(F.BAY_FEED_CFG.A_FITTED, 0, 1)]
    let sw (g : Option Bool) (dr ra : Bool) : Dev :=
      bayRt (sets good [(F.BAY_STATUS.STATE, 31, 6)]) { BayRt.reset with toFeed := g, direct := dr, ramp := ra }
    let none_ := bayRt (s 6) { BayRt.reset with toFeed := some false }
    let off := bayRt (s 0xA) { BayRt.reset with gatesOff := true }
    let cyc := bayRt (bayIn 8 [(F.BAY_CFG.EN, 31, 1), (F.BAY_STATUS.PRSNT, 31, 1)]) { BayRt.reset with cycle := true }
    let pul := bayRt (bayIn 5 [(F.BAY_STATUS.PG, 31, 1)]) { BayRt.reset with pulse := true }
    (s 5).armed 31 = true ∧ (s 5).baySt 31 ≠ 4 ∧ (s 4).baySt 31 = 4 ∧ run.armed 31 = true ∧ run.bit F.BAY_STATUS.FLT_RUN 31 = true ∧
    (s 0).armed 31 = false ∧ good.baySt 31 = 5 ∧ good.feedGood (good.bayFeed 31) = true ∧ good.bit F.BAY_STATUS.FLT_RUN 31 = false ∧
    (s 7).baySt 31 = 7 ∧ (s 7).bayWindow 31 = false ∧ (s 5).baySt 31 ≠ 7 ∧ ((sets (s 5) [(F.BAY_FEED_CFG.A_FITTED, 0, 0)]).putFeedV false 600).feedFitted false = false ∧
    (fit.putFeedV false 600).feedFitted false = true ∧ (fit.putFeedV false 600).feedGood false = false ∧
    (good.putFeedV false 600).feedGood false = true ∧ (sw (some false) false true).baySt 31 = 6 ∧
    ((sw (some false) false true).bayRt 31).direct = false ∧ ((sw (some false) false true).bayRt 31).ramp = true ∧
    ((sw (some false) false false).bayRt 31).ramp = false ∧ ((sw (some false) false true).bayRt 31).toFeed = some false ∧
    (sw (some false) false true).feedGood false = true ∧
    ((((sw (some false) false true).dropPg 31).count (cBay 31 6)).slotFree false = true) ∧
    none_.baySt 31 = 6 ∧ (none_.bayRt 31).direct = false ∧ none_.feedGood false = false ∧ none_.feedGood true = false ∧
    off.baySt 31 = 0xA ∧ (off.bayRt 31).gatesOff = true ∧ off.bit F.BAY_CTL.ON_REQ 31 = false ∧ (cyc.bayRt 31).cycle = true ∧ cyc.baySt 31 = 8 ∧
    ((s 0).bayRt 31).cycle = false ∧ (pul.bayRt 31).pulse = true ∧ pul.bit F.BAY_STATUS.PG 31 = true ∧ pul.baySt 31 = 5 ∧
    ((s 5).bayRt 31).pulse = false := by decide +kernel

theorem test_meets_BayCommands :
    let sel (op : Nat) := (hdrOf op (rq 31 []).raw).sel = BitVec.ofNat 16 31
    let cfg (m c l : Nat) := rq 31 (bytes 4 m ++ bytes 4 c ++ bytes 4 l)
    let lim := 10 + 1 * 64 + 1 * 4096 + 2 ^ 20
    let en := bayIn 5 [(F.BAY_CFG.EN, 31, 1), (F.BAY_STATUS.PRSNT, 31, 1), (F.BAY_STATUS.PG, 31, 1)]
    let stC : Cmd := { opcode := 0xC982, modes := dieModes, may := fun p pay _ => match p with
        | .fm | .factory => true
        | .monitor => le pay 0 4 == 0
        | _ => false }
    let x : Hdr := hdrOf 0xC984 (rq 31 []).raw
    let hung : Dev := { live with bus := { live.bus with hung := [(3, some (31, .switchMbox 0, x))] } }
    (∀ op ∈ [0xC980, 0xC981, 0xC982, 0xC984], sel op) ∧ live.accepts (cfg 1 0 0) (bayCmd 0xC980) = true ∧ bayCfgBad live 0 = false ∧
    live.bit F.BAY_CFG.EN 31 = false ∧ live.accepts (cfg 2 0 lim) (bayCmd 0xC980) = true ∧ bayLimBad lim = false ∧
    en.accepts (cfg 1 0 0) (bayCmd 0xC980) = true ∧ bayCfgBad en 0 = false ∧ en.bit F.BAY_CFG.EN 31 = true ∧ en.baySt 31 ≠ 0 ∧
    (∀ k ∈ [1, 2, 3, 4], en.accepts (rq 31 [k, 0, 0, 0]) (bayCmd 0xC981) = true) ∧ en.bayMayOn 31 = true ∧ live.bayMayOn 31 = false ∧
    live.accepts (rq 31 [1, 0, 0, 0]) (bayCmd 0xC981) = true ∧ en.baySt 31 = 5 ∧ live.baySt 31 ≠ 5 ∧
    live.accepts (rq 31 [0, 7, 4, 0]) (bayCmd 0xC981) = true ∧ live.accepts (rq 31 (bytes 4 127)) stC = true ∧
    live.accepts (rq 0xFFFF (bytes 4 2 ++ bytes 4 0 ++ bytes 4 6)) (bayCmd 0xC983) = true ∧ (6 : Nat) % 4 ≠ 3 ∧
    live.accepts (rq 0xFFFF (bytes 4 1 ++ bytes 4 8 ++ bytes 4 0)) (bayCmd 0xC983) = true ∧ (8 : Nat) % 16 ≤ 8 ∧
    (live.putWord .BAY_FEED_CFG 0 8).feedGood false = false ∧ (live.putWord .BAY_FEED_CFG 0 8).feedGood true = false ∧
    en.accepts (rq 31 [127, 1, 1, 1, 5]) (bayCmd 0xC984) = true ∧ en.bus.hung.get none (31 / 8) = none ∧
    live.accepts (rq 31 [127, 1, 1, 1, 5]) (bayCmd 0xC984) = true ∧ live.die = true ∧ hung.bus.hung.get none 3 = some (31, .switchMbox 0, x) ∧
    (bayIn 3 []).baySt 31 = 3 := by decide +kernel

/-! ### Witnesses of further clauses -/

set_option maxRecDepth 8000 in
theorem test_meets_FoldCommands_ranks :
    let win (q : Nat) := sets live [(F.WIN.VALID, 0, 1), (F.INS.VALID, 9, 1), (F.INS.Q_FOLDS, 9, q)]
    let pay : List (BitVec 8) := [0, 0, 2, 0] ++ bytes 2 1 ++ bytes 2 0 ++ bytes 4 0 ++ bytes 8 (2 ^ 40) ++ bytes 8 0 ++ bytes 8 0 ++
      bytes 4 (2 ^ 22 + 9 * 4096 + 1) ++ bytes 4 (2 ^ 22 + 9 * 4096 + 2)
    let rks := wordsOf (pay.drop 36)
    rks = [2 ^ 22 + 9 * 4096 + 1, 2 ^ 22 + 9 * 4096 + 2] ∧ (win 1).accepts (rq 511 pay) (foldCmd 0xC500) = true ∧
    (win 1).foldBad 511 pay = false ∧ (win 1).get F.FOLD.STATE 511 = 0 ∧ (win 1).auxCan 7 .blend 1 = true ∧
    (win 1).get F.INS.Q_FOLDS 9 < (win 1).foldsUsed 9 + 2 ∧ (win 2).foldBad 511 pay = false ∧ (win 2).auxCan 7 .blend 1 = true ∧
    ¬ (win 2).get F.INS.Q_FOLDS 9 < (win 2).foldsUsed 9 + 2 ∧ (rks.countP fun v => v / 2 ^ 22 == 1 && v / 2 ^ 12 % 1024 == 9) = 2 := by
  decide +kernel

set_option maxRecDepth 8000 in
theorem test_meets_InstanceEvents_frozen :
    let i (st : Nat) := withIns live 1023 st
    let x := stagedTo 2 msg0
    let hold (x : Staged) : Dev := (i 5).setPol 1023 { (i 5).pol 1023 with hold := [x] }
    let fen : Dev := { i 2 with flt := { (i 2).flt with fences := [(.instance_, 1023)] } }
    let rs : Dev := { i 2 with ins := { (i 2).ins with resets := [(1023, .switchMbox 0, hdrOf 0xC601 (rq 1023 []).raw)] } }
    let wk : Dev := { i 3 with coh := { (i 3).coh with walks := [⟨.freeze 1023, [], 2⟩], dir := [(16, { Entry.free with inst := some 1023 })] } }
    let cv : Dev := { i 5 with ins := { (i 5).ins with saves := [(1023, some { caravan := true, blob := [1], got := 0, wait := none })] } }
    (i 3).genBusy 1023 = false ∧ 3 ≤ ((i 3).foldIns 1023).get F.INS.STATE 1023 ∧ (i 3).get F.INS.STATE 1023 ≠ 0 ∧
    x.spec = false ∧ ((hold x).pol 1023).hold = [x] ∧ (hold x).get F.INS.STATE 1023 = 5 ∧
    (let y := { x with spec := true }; ((hold y).pol 1023).hold = [y] ∧ y.spec = true) ∧
    fen.flt.fences.contains (.instance_, 1023) = true ∧ (i 2).flt.fences.contains (.instance_, 1023) = false ∧ fen.insOpen 1023 = [] ∧
    rs.ins.resets = [(1023, .switchMbox 0, hdrOf 0xC601 (rq 1023 []).raw)] ∧ rs.insOpen 1023 = [] ∧
    (∀ y ∈ wk.coh.dir, y.2.inst = some 1023 → y.2.valid = true → y.2.st = .u) ∧ wk.coh.walks = [⟨.freeze 1023, [], 2⟩] ∧ wk.walkBusy = false ∧
    cv.ins.saves.get none 1023 = some { caravan := true, blob := [1], got := 0, wait := none } ∧ cv.car.blobs = [] ∧ cv.car.cur = none := by
  decide +kernel

set_option maxRecDepth 8000 in
theorem test_meets_InstanceCommands_blobs :
    let i (st : Nat) := withIns base 1023 st
    let sv : Save := { caravan := false, blob := blob1, got := 0, wait := none }
    let five : Dev := { i 5 with ins := { (i 5).ins with saves := [(1023, some sv)] } }
    let read (off : Nat) : List (BitVec 8) := bytes 1 1 ++ bytes 3 0 ++ bytes 4 off
    let s := sets base [(F.GLB_NODE.NODE_ID, 0, 0)]
    let car : Dev := { s with car := { s.car with held := [(15, some blob1)] } }
    let from_ : List (BitVec 8) := bytes 2 0 ++ [2, 0x9F] ++ bytes 20 0
    let hd (off : Nat) : List (BitVec 8) := bytes 12 0 ++ bytes 4 0 ++ bytes 4 off ++ bytes 4 384
    let part : Dev := { s with ins := { s.ins with restores := [(1023, some ⟨hd 0, blob1.take 300⟩)] } }
    let coh := sets (i 4) [(F.INS.Q_DIR, 1023, 16)]
    five.accepts (rq 1023 (read 0)) (insCmd 0xC603) = true ∧ 0 < 368 + 16 * five.get F.INS.XCOUNT 1023 ∧ five.get F.INS.STATE 1023 = 5 ∧
    five.ins.saves.get none 1023 = some sv ∧ (i 4).accepts (rq 1023 (read 383)) (insCmd 0xC603) = true ∧
    383 < 368 + 16 * (i 4).get F.INS.XCOUNT 1023 ∧ (i 4).ins.saves.get none 1023 = none ∧
    car.accepts (rq 1023 from_) (insCmd 0xC604) = true ∧ le from_ 2 1 = 2 ∧ from_.length = 24 ∧ le from_ 3 1 - 0x90 = 15 ∧
    car.car.held.get none 15 = some blob1 ∧ s.car.held.get none 15 = none ∧ s.accepts (rq 1023 from_) (insCmd 0xC604) = true ∧
    (match ({ car with car := { car.car with held := car.car.held.erase 15 } } : Dev).restoreBlob 1023 from_ blob1 with
      | .ok _ _ _ => true | _ => false) = true ∧
    part.accepts (rq 1023 (hd 300 ++ blob1.drop 300)) (insCmd 0xC604) = true ∧ ((part.ins.restores.get none 1023).map (·.bytes)).getD [] = blob1.take 300 ∧
    (blob1.take 300).length = 300 ∧ coh.get F.INS.Q_DIR 1023 = 16 := by
  decide +kernel

theorem test_meets_FirmwareImages_start :
    let c4 : Cmd := { opcode := 0xC004, may := fun p _ _ => fmOnly p, modes := fwModes, rom := true }
    let o := live.origin (.switchMbox 0)
    let d : Dev := withMgt live fun m =>
      { m with xfer := some { origin := o, slot := 1, total := 8, got := 4, erased := true, verifying := false, stream := false } }
    live.accepts (rq 0xFFFF ([1, 0, 0, 0] ++ bytes 4 0 ++ bytes 4 4096)) c4 = true ∧ live.xferSlot none = some 1 ∧ live.runSlot ≠ some 1 ∧
    (d.taken (.switchMbox 0)).origin (.switchMbox 0) = o ∧ (∀ x, d.mgt.xfer = some x → x.origin = o) ∧ d.runSlot ≠ some 1 := by
  intro c4 o d
  refine ⟨by decide +kernel, by decide +kernel, by decide +kernel, by decide +kernel, ?_, by decide +kernel⟩
  intro x h
  have h : _ = x := Option.some.inj h
  rw [← h]

theorem test_meets_IdentityAndFactory_rom :
    let id : Cmd := { opcode := 0xC000, may := anyOne, modes := dieModes, rom := true }
    let rom := sets live [(F.MGT_FW_STATUS.STATE, 0, 4)]
    rom.accepts { rq 0xFFFF [] with via := .bmcMctp 8 } id = true ∧ rom.get F.MGT_FW_STATUS.STATE = 4 ∧ live.runSlot = some (live.get F.MGT_FW_STATUS.SLOT) := by
  decide +kernel

theorem test_meets_StandardCommands_ld :
    base.bindTarget 3 = true ∧ base.ldBound 3 5 true = false ∧ base.ldWindowed 3 5 true = false :=
  ⟨by decide +kernel, ldBound_unlisted _ _ _ _ (by decide +kernel), ldWindowed_unlisted _ _ _ _ (by decide +kernel)⟩

def tel0 : TelRec := { kind := 1, bytes := [0], tile := 7, cells := 1 }

theorem test_meets_CaravanOutput_tail :
    let on := sets live [(F.CAR_CFG.TX_EN, 0, 1), (F.CAR_CFG.STREAM_EN, 0, 31), (F.CAR_STATUS.TX_READY, 0, 1), (F.CAR_STATUS.TX_CREDIT, 0, 1)]
    let b (cont : Bool) (sent : Nat) : OutBurst :=
      { head := head 1 cont 90 0, bytes := List.replicate 90 7, sent := sent, headDue := false, faults := [], recls := [], tels := [tel0] }
    let cur (x : OutBurst) : Dev := withCar on fun c => { c with cur := some x }
    (cur (b true 30)).car.cur = some (b true 30) ∧ (b true 30).head.cont = true ∧ (b true 30).headDue = false ∧
    (cur (b false 30)).car.cur = some (b false 30) ∧ (b false 30).head.cont = false ∧ (b false 30).bytes.length ≤ 30 + 60 ∧
    (cur (b true 30)).get F.CAR_STATUS.TX_CREDIT ≠ 0 := by decide +kernel

/-- The 32 bytes of a head, as the operand of CARAVAN_HEAD_RECEIVE. -/
def headBits (h : BurstHead) : BitVec 256 := BitVec.ofNat 256 (le (headBytes h) 0 32)

theorem test_meets_CaravanInput_heads :
    headOf (headBits (head 0x9F false 368 0)) = head 0x9F false 368 0 ∧ headOf (headBits (head 0x9F true 368 7)) = head 0x9F true 368 7 ∧
    headOf (headBits (head 0x9F false 367 0)) = head 0x9F false 367 0 := by decide +kernel

theorem test_meets_BayPowerOn_empty :
    let gate := bayIn 9 [(F.BAY_STATUS.PRSNT, 31, 1)]
    let po := sets gate [(F.BAY_CFG.PORT_VALID, 31, 1), (F.BAY_CFG.PORT, 31, 3)]
    let gone (d : Dev) : Dev := (d.put F.BAY_STATUS.PRSNT 31 0).put F.BAY_PRSNT_ALL.PRSNT 0 (d.get F.BAY_PRSNT_ALL.PRSNT - 2 ^ 31)
    let left (d : Dev) : Dev := ((gone d).bayEvent 31 .bayPresence 1).count (cBay 31 7)
    gate.baySt 31 = 9 ∧ gate.bit F.BAY_STATUS.PRSNT 31 = true ∧ (left gate).bayPort 31 = none ∧ po.baySt 31 = 9 ∧
    po.bit F.BAY_STATUS.PRSNT 31 = true ∧ (left po).bayPort 31 = some 3 ∧ (left po).die = true := by decide +kernel

theorem test_meets_BayTripsAndFeeds_slots :
    let good := bayIn 6 [(F.BAY_FEED_STATUS.A_GOOD, 0, 1), (F.BAY_FEED_CFG.A_FITTED, 0, 1), (F.BAY_FEED_CFG.PRE_MAX, 0, 0)]
    let d := bayRt good { BayRt.reset with toFeed := some false, ramp := true }
    let off := bayRt (bayIn 0xA [(F.BAY_CTL.ON_REQ, 31, 1)]) { BayRt.reset with gatesOff := true }
    d.baySt 31 = 6 ∧ (d.bayRt 31).direct = false ∧ (d.bayRt 31).toFeed = some false ∧ d.feedGood false = true ∧
    (((d.dropPg 31).count (cBay 31 6)).slotFree false = false) ∧ off.baySt 31 = 0xA ∧ (off.bayRt 31).gatesOff = true ∧
    off.bit F.BAY_CTL.ON_REQ 31 = true := by decide +kernel

theorem test_meets_BayCommands_both :
    let cfg (m c l : Nat) := rq 31 (bytes 4 m ++ bytes 4 c ++ bytes 4 l)
    let lim := 10 + 1 * 64 + 1 * 4096 + 2 ^ 20
    let fd (m l c : Nat) := rq 0xFFFF (bytes 4 m ++ bytes 4 l ++ bytes 4 c)
    (∀ m < 4, live.accepts (cfg m 0 lim) (bayCmd 0xC980) = true ∧ live.accepts (fd m 8 6) (bayCmd 0xC983) = true) ∧
    bayCfgBad live 0 = false ∧ live.bit F.BAY_CFG.EN 31 = false ∧ bayLimBad lim = false ∧ (8 : Nat) < 64 ∧ 1 ≤ 8 % 16 ∧ 8 % 16 ≤ 8 ∧
    (6 : Nat) < 2 ^ 11 ∧ 6 % 4 ≠ 3 ∧ live.accepts (rq 31 [0, 7, 4, 0]) (bayCmd 0xC981) = true := by decide +kernel

/-! ### Balls and pins -/

/-- Chapter 19, Example: lane 77, and the bay of R622. -/
theorem test_example_balls :
    signalBall (.lane 77 .txp) = (66, 29) ∧ signalBall (.lane 77 .txn) = (66, 30) ∧ signalBall (.lane 77 .rxn) = (64, 30) ∧ signalBall (.refclk 2 false) = (54, 19) ∧ signalBall (.bay 12 .gateA) = (66, 12) ∧ signalBall (.bay 12 .led) = (54, 12) := by decide +kernel

/-- R506, R610: FAULT# follows the unacknowledged records, and an output claimed for a copy of FAULT# follows it. -/
theorem test_fault_pin :
    let d := sets live [(F.GLB_CLAIM_GPIO.FUNC, 15, 0x104)]
    let f : Dev := withFlt d fun x => { x with log := [(0, some (recOf 0 (flt .dirUncorr 0x13 .tile 0) 1))] }
    d.faultLow = false ∧ d.gpioOut 15 = some true ∧ f.faultLow = true ∧ f.gpioOut 15 = some false := by decide +kernel

/-! ### Results that the spec's examples work out -/

/-- Bounds of the tables of homes that a statement meets. -/
theorem test_meets_LinesAndHomes :
    2 ^ 46 - 1 < 2 ^ 46 ∧ 7 < 8 ∧ 2 ^ 18 - 1 < 2 ^ 18 ∧ 2 ^ 25 - 1 < 2 ^ 25 ∧ lineFrom 7 (2 ^ 18 - 1) (2 ^ 25 - 1) < 2 ^ 46 := by
  decide +kernel

/-- Chapter 07, Example: a forwarded read: window 5, its interleave, line, slice, set and tag. -/
theorem test_example_forwarded_read :
    let d := (sets Dev.reset [(F.DIR_FWD.ACTIVE, 0, 2 ^ 41)]).putWord .WIN0 5 0x00005A01 |>.putWord .WIN1 5 0x00002000
    d.winBase 5 = 0x020000000000 ∧ d.winSize 5 = 256 * 2 ^ 30 ∧ d.winWays 5 = 4 ∧ d.windowOf 0x021234567840 = some 5 ∧
    d.interleave 5 0x1234567840 = (3, 0x48D159840) ∧ lineOf 0x021234567840 = 0x848D159E1 ∧ homeSlice 0x848D159E1 = 7 ∧
    setOf 0x848D159E1 = 0x22B3C ∧ tagOf 0x848D159E1 = 0x4246 ∧ d.active 41 = true ∧ d.active 2 = false := by decide +kernel

/-- The same example, and the one of P2, P41 and P17's writeback: order stamps (R47). -/
theorem test_example_order_stamps :
    let d (n : Nat) (t : Nat) : Dev := sets Dev.reset [(F.DIR_STAMP.COUNT, t, n)]
    ((d 0x1F3A0 7).stamp 7).1 = 0xE00000000001F3A0 ∧ ((d 0x07710 3).stamp 3).1 = 0x6000000000007710 := by decide +kernel

/-- Chapter 02, Example: fabric time after a long Standby. -/
theorem test_example_time_after_standby :
    let p : PwrSt := { PwrSt.reset with seqr := .finish, pair := some (7200000000000, 1000000) }
    let d : Dev := { Dev.reset with pwr := p, clk := { Dev.reset.clk with aoc := 99304123 } }
    gives (exec .wakeFinish (at_ d)) (fun e => decide (e.clk.ftc = 10200003753662) && decide (e.mode = .bringUp)) = true := by
  decide +kernel

/-- Chapter 09, Example: one sum, two arrival orders. -/
theorem test_example_fold_sums :
    fp32.add 0x4B800000 0x3F800000 = 0x4B800000 ∧ fp32.add 0x3F800000 0x3F800000 = 0x40000000 ∧
    fp32.add 0x40000000 0x4B800000 = 0x4B800001 := by decide +kernel

def rf (q : BitVec 12) : IlFlit := { hdr := { hdr0 with seq := q }, body := .data [] }

def replaying : Dev := base.setIl 16 { IlRt.reset with rxExp := 4094, rob := [rf 4095, rf 0, rf 1, rf 2, rf 3], named := [4094] }

/-- A flit whose CRC is right enters (R125, R133). -/
theorem receive_good (p : Port) (f : IlFlit) (d : Dev) (hd : d.die = true) (hf : flitFits f = true) (hp : d.isIl p.val = true) :
    exec (.ilFlitReceive p ⟨f, IlFlit.crc f, 0⟩) (at_ d) = (at_ d).upd ((d.count (cPort p.val 10) 0).ilReceive p.val f) := by
  simp [exec, execIlFlitReceive, Dev.ilArrive, Dev.onDie, hf, hp, at_, hd]

/-- Chapter 04, Example: selective replay across a wrap: the distances of flits and of a duplicate, and the release. -/
theorem test_example_replay_across_wrap :
    let f : IlFlit := { hdr := { hdr0 with seq := 4094 }, body := .replay [] }
    dist12 4095 4094 = 1 ∧ dist12 0 4094 = 2 ∧ dist12 4095 4 = 4091 ∧
    gives (exec (.ilFlitReceive 16 ⟨f, IlFlit.crc f, 0⟩) (at_ replaying))
      (fun e => decide ((e.ilRt 16).rxExp = 4) && (e.ilRt 16).rob.isEmpty && (e.ilRt 16).named.isEmpty) = true := by
  intro f
  rw [receive_good 16 f replaying (by decide +kernel) (by decide +kernel) (by decide +kernel)]
  decide +kernel

/-- Chapter 18, Example: claiming two GPIOs at once. -/
theorem test_example_gpio_claims :
    let d := live.putWord .GLB_CLAIM_GPIO 5 0xFFFF0103
    let r := rq 0xFFFF (bytes 4 0x00000110 ++ bytes 4 2 ++ bytes 4 0x00000101 ++ bytes 4 0x00000104)
    place 0x110 = some (.reg .GLB_CLAIM_GPIO 4) ∧
    gives (exec (.regWrite r) (at_ d)) (fun e => decide (e.word .GLB_CLAIM_GPIO 4 = 0xFFFF0101) &&
      decide (e.word .GLB_CLAIM_GPIO 5 = 0xFFFF0103) && e.mgt.rsp.any fun x => decide (x.detail = .resourceConflict) &&
        decide (x.pay = [0x01, 0x05, 0x03, 0x01, 0xFF, 0xFF, 0x00, 0x00])) = true := by decide +kernel

/-- Chapter 17, Example: a congested interlink port: the shadows of P58's banks. -/
theorem test_example_counter_banks :
    place 0x0B903A00 = some (.shad (cPort 58 0) false) ∧ place 0x0BC03A04 = some (.shad (cEgress 58 0) true) := by decide +kernel

/-- Chapter 13, Example: an instance blob that stalls and resumes: a continuation with offset 180 is refused. -/
theorem test_example_blob_resumes :
    let h : BurstHead := { head 0x90 false 400 0 with seq := 7 }
    let b : InBurst := { head := h, bytes := List.replicate 240 0, stalled := true, broken := false }
    carContinues b { h with cont := true, off := 240 } = true ∧ carContinues b { h with cont := true, off := 180 } = false := by
  decide +kernel

/-- Chapter 16, Example: hot insertion with a start-up surge: from RAMP to QUALIFY, and from QUALIFY to ON with PG. -/
theorem test_example_hot_insertion :
    let q : Dev := (sets live [(F.BAY_STATUS.STATE, 12, 4)]).setBayRt 12 { BayRt.reset with qual := true }
    gives (exec (.gateFullOn 12) (at_ (sets live [(F.BAY_STATUS.STATE, 12, 3)]))) (fun e => decide (e.baySt 12 = 4)) = true ∧
    gives (exec (.senseLimitCross 12 true) (at_ q)) (fun e => e.bit F.BAY_STATUS.FLT_RUN 12 && !(e.bayRt 12).qual) = true ∧
    gives (exec (.pgqComplete 12) (at_ q)) (fun e => decide (e.baySt 12 = 5) && e.bit F.BAY_STATUS.PG 12) = true := by decide +kernel

/-- The command at the front of the queue is carried out with the queue's rest. -/
theorem test_step_takes_the_front :
    step { State.reset with pending := [.caravanCreditTransition, .railRestart] } =
      exec .caravanCreditTransition { State.reset with pending := [.railRestart] } := by rfl

end Sys2Proof.Tests
end

section
/-!
SUPPORT. The statements of family 00, scope: the state after VAUX power-on, and the accesses to the registers (R9, R597)
with REG_READ and REG_WRITE (R459).
-/

namespace Sys2Proof.Machine

/-! ### The state after VAUX power-on -/

/-- With no cell listed, every field shows its reset value, whatever its width and index (R10). -/
theorem Dev.get_of_regs_nil {d : Dev} (h : d.regs = []) (f : Fld) (i : Nat) : d.get f i = f.rst := by
  simp [Dev.get, fldGet, h]

/-- No rail is up after VAUX power-on (R40). -/
theorem Dev.powered_reset : Dev.reset.powered = false := by
  simp only [Dev.powered, Dev.get_of_regs_nil (d := Dev.reset) rfl]
  decide

/-- The fabric die is off where it has no power. -/
theorem Dev.die_of_not_powered {d : Dev} (h : d.powered = false) : d.die = false := by
  simp [Dev.die, h]

/-- Settles O6: nothing is listed after power-on, so every table reads what an unlisted key reads as. -/
theorem resetState : Obligations.ResetState := by
  unfold Obligations.ResetState
  have standby : State.reset.dev.mode = .standby := rfl
  have fields (f : Fld) (i : Nat) : State.reset.dev.get f i = f.rst := Dev.get_of_regs_nil rfl f i
  have counters (k : Nat) : State.reset.dev.cnt.get 0 k = 0 := Tab.get_nil 0 k
  have sound : State.reset.queueOk = true ∧ State.reset.dev.quiet = true ∧ State.reset.dev.tablesOk = true := ⟨rfl, rfl, rfl⟩
  exact ⟨standby, Dev.powered_reset, Dev.die_of_not_powered Dev.powered_reset, fields, counters, rfl, rfl, rfl, rfl, rfl, rfl,
    sound⟩

/-! ### A command on the fabric die, and an accepted Foern request -/

/-- A command that acts on the fabric die leaves its effect while the die is on. -/
theorem State.upd_onDie {s : State} (f : Dev → Dev) (hd : s.dev.die = true) :
    s.upd (s.dev.onDie f) = .next (s.after (f s.dev)) := by
  rw [Dev.onDie_on f hd]; rfl

/-- An accepted request whose own part succeeds is answered OK with its effect. -/
theorem State.foern_okay {s : State} {r : FoernReq} {c : Cmd} (body : Hdr → List (BitVec 8) → Dev → Ans)
    {out : List (BitVec 8)} {e : Dev} {st : List Stg} (a : s.dev.accepts r c = true)
    (hb : body (hdrOf c.opcode r.raw) (r.raw.drop 8) (s.dev.taken r.via) = .ok out e st) :
    s.upd (s.dev.onDie fun d => d.foern r c body) = .next (s.okay r c.opcode e out st) := by
  rw [State.upd_onDie _ (Dev.die_of_accepts a), Dev.foern_accepts body a, hb, Dev.conclude_ok]; rfl

/-- An accepted request that its own checks refuse is answered so, and has no effect. -/
theorem State.foern_declined {s : State} {r : FoernReq} {c : Cmd} (body : Hdr → List (BitVec 8) → Dev → Ans) {x : Detail}
    (a : s.dev.accepts r c = true)
    (hb : body (hdrOf c.opcode r.raw) (r.raw.drop 8) (s.dev.taken r.via) = .fail x) :
    s.upd (s.dev.onDie fun d => d.foern r c body) = .next (s.declined r c.opcode x) := by
  rw [State.upd_onDie _ (Dev.die_of_accepts a), Dev.foern_accepts body a, hb, Dev.conclude_fail]; rfl

/-! ### Payloads -/

/-- A number in `m + n` bytes is its low `m` bytes, then the rest. -/
theorem bytes_add (m n v : Nat) : bytes (m + n) v = bytes m v ++ bytes n (v / 256 ^ m) := by
  induction m generalizing v with
  | zero => simp [bytes]
  | succ m ih => rw [Nat.succ_add, bytes, ih, bytes, Nat.div_div_eq_div_mul, ← Nat.pow_succ', List.cons_append]

/-- Reading right after leading bytes reads what follows them. -/
theorem le_after (p l : List (BitVec 8)) {off : Nat} (h : p.length = off) (n : Nat) : le (p ++ l) off n = le l 0 n := by
  simpa [h] using le_append_right p l 0 n

/-- The payload of REG_READ and the head of REG_WRITE's: an address and a count of words below 65,536, with two reserved
bytes that are 0. -/
theorem le_addrCount {a n : Nat} (ha : a < 2 ^ 32) (hn : n < 65536) (l : List (BitVec 8)) :
    le (bytes 4 a ++ bytes 4 n ++ l) 0 4 = a ∧ le (bytes 4 a ++ bytes 4 n ++ l) 4 2 = n ∧
      le (bytes 4 a ++ bytes 4 n ++ l) 6 2 = 0 := by
  have split : bytes 4 n = bytes 2 n ++ bytes 2 0 := by
    rw [bytes_add 2 2, Nat.div_eq_of_lt (by simpa using hn)]
  refine ⟨?_, ?_, ?_⟩
  · rw [List.append_assoc, le_bytes]; exact Nat.mod_eq_of_lt (by omega)
  · rw [List.append_assoc, le_after _ _ (bytes_length 4 a), split, List.append_assoc, le_bytes]
    exact Nat.mod_eq_of_lt (by omega)
  · rw [split, ← List.append_assoc, List.append_assoc, le_after _ _ (by simp)]
    exact le_bytes 2 0 l

/-! ### Runs of bits of a register word -/

/-- A run that shows a whole field, other than a policy level, which is stored as a difference (R517). -/
abbrev BitRun.whole (r : BitRun) : Prop := r.src = 0 ∧ r.w = r.fld.w ∧ r.fld ≠ F.FLT_POLICY.LEVEL

/-- Runs of whole fields with a cell each, every run above those before it. -/
abbrev separateRuns (rs : List BitRun) : Prop :=
  (∀ r ∈ rs, r.whole) ∧ rs.Pairwise fun r q => r.fld.key 0 ≠ q.fld.key 0 ∧ r.lo + r.w ≤ q.lo

theorem Fld.key_eq_add (f : Fld) (i : Nat) : f.key i = f.key 0 + i := by
  rw [Fld.key, Fld.key, Nat.add_zero]

theorem Fld.key_ne_index {f g : Fld} (h : f.key 0 ≠ g.key 0) (i : Nat) : f.key i ≠ g.key i := by
  rw [f.key_eq_add, g.key_eq_add]; omega

theorem separateRuns.tail {r : BitRun} {rs : List BitRun} (h : separateRuns (r :: rs)) : separateRuns rs :=
  ⟨(List.forall_mem_cons.mp h.1).2, (List.pairwise_cons.mp h.2).2⟩

theorem separateRuns.runsOf {r : Reg} (h : separateRuns r.layout) (a : Acc) : separateRuns (r.runsOf a) :=
  ⟨fun x hx => h.1 x (List.mem_filter.mp hx).1, h.2.filter _⟩

/-- Two runs of one such word with different access types are of different cells. -/
theorem separateRuns.key_ne {rs : List BitRun} (h : separateRuns rs) {x y : BitRun} (hx : x ∈ rs) (hy : y ∈ rs)
    (ha : x.fld.acc ≠ y.fld.acc) (i : Nat) : x.fld.key i ≠ y.fld.key i := by
  induction rs with
  | nil => cases hx
  | cons r rs ih =>
    have above {q : BitRun} (hq : q ∈ rs) : r.fld.key i ≠ q.fld.key i :=
      Fld.key_ne_index ((List.pairwise_cons.mp h.2).1 q hq).1 i
    rcases List.mem_cons.mp hx with rfl | inX <;> rcases List.mem_cons.mp hy with rfl | inY
    · exact absurd rfl ha
    · exact above inY
    · exact (above inX).symm
    · exact ih h.tail inX inY

theorem Dev.val_eq_get (d : Dev) {f : Fld} (i : Nat) (h : f ≠ F.FLT_POLICY.LEVEL) : d.val f i = d.get f i := if_neg h

theorem Dev.setVal_eq_put (d : Dev) {f : Fld} (i v : Nat) (h : f ≠ F.FLT_POLICY.LEVEL) : d.setVal f i v = d.put f i v :=
  if_neg h

/-- A write through runs puts the word's bits into the first run's field, and goes on with the others. -/
theorem Dev.putRuns_cons (d : Dev) {r : BitRun} (rs : List BitRun) (i v : Nat) (h : r.whole) :
    d.putRuns (r :: rs) i v = (d.put r.fld i (v / 2 ^ r.lo)).putRuns rs i v := by
  obtain ⟨hs, hw, hf⟩ := h
  have cut (old x : Nat) : (old - old / 2 ^ 0 % 2 ^ r.fld.w * 2 ^ 0 + x % 2 ^ r.fld.w * 2 ^ 0) % 2 ^ r.fld.w = x % 2 ^ r.fld.w := by
    have cleared : (old - old % 2 ^ r.fld.w) % 2 ^ r.fld.w = 0 := Nat.sub_mod_eq_zero_of_mod_eq (Nat.mod_mod _ _).symm
    simp [Nat.add_mod, cleared]
  simp only [Dev.putRuns, List.foldl_cons, hs, hw, Dev.val_eq_get _ _ hf, Dev.setVal_eq_put _ _ _ hf]
  congr 1
  simp only [Dev.put, fldPut, cut]

/-- A write through runs leaves the cells of other fields alone. -/
theorem Dev.get_putRuns_other (d : Dev) (rs : List BitRun) (i v : Nat) {f : Fld} {j : Nat} (hw : ∀ r ∈ rs, r.whole)
    (h : ∀ r ∈ rs, f.key j ≠ r.fld.key i) : (d.putRuns rs i v).get f j = d.get f j := by
  induction rs generalizing d with
  | nil => rfl
  | cons r rs ih =>
    simp only [List.forall_mem_cons] at hw h
    rw [Dev.putRuns_cons d rs i v hw.1, ih _ hw.2 h.2, Dev.get_put_other d _ h.1]

/-- A field written through separate runs reads its bits of the word. -/
theorem Dev.get_putRuns_mem (d : Dev) {rs : List BitRun} (i v : Nat) {x : BitRun} (hs : separateRuns rs) (hx : x ∈ rs) :
    (d.putRuns rs i v).get x.fld i = v / 2 ^ x.lo % 2 ^ x.fld.w := by
  induction rs generalizing d with
  | nil => simp at hx
  | cons r rs ih =>
    rw [Dev.putRuns_cons d rs i v (hs.1 r List.mem_cons_self)]
    rcases List.mem_cons.mp hx with rfl | hx
    · have others : ∀ q ∈ rs, x.fld.key i ≠ q.fld.key i := fun q hq =>
        Fld.key_ne_index ((List.pairwise_cons.mp hs.2).1 q hq).1 i
      rw [Dev.get_putRuns_other _ rs i v hs.tail.1 others, Dev.get_put_same]
    · exact ih _ hs.tail hx

/-- A sum of runs, begun with `a`: it is `runsWord` for `a = 0`. -/
def Dev.runsWordFrom (d : Dev) (i a : Nat) (rs : List BitRun) : Nat :=
  rs.foldl (fun a r => a + d.val r.fld i / 2 ^ r.src % 2 ^ r.w * 2 ^ r.lo) a

theorem Dev.runsWord_eq_from (d : Dev) (rs : List BitRun) (i : Nat) : d.runsWord rs i = d.runsWordFrom i 0 rs := rfl

/-- Runs from bit `k` up leave the bits below `k` alone. -/
theorem Dev.runsWordFrom_mod (d : Dev) (i a k : Nat) {rs : List BitRun} (h : ∀ r ∈ rs, k ≤ r.lo) :
    d.runsWordFrom i a rs % 2 ^ k = a % 2 ^ k := by
  induction rs generalizing a with
  | nil => rfl
  | cons r rs ih =>
    simp only [List.forall_mem_cons] at h
    rw [Dev.runsWordFrom, List.foldl_cons]
    refine (ih _ h.2).trans ?_
    rw [Nat.add_mod, Nat.mod_eq_zero_of_dvd (Nat.dvd_mul_left_of_dvd (Nat.pow_dvd_pow 2 h.1) _), Nat.add_zero, Nat.mod_mod]

/-- A word of separate runs shows each run at its place. -/
theorem Dev.runsWordFrom_bits (d : Dev) (i a : Nat) {rs : List BitRun} {x : BitRun} (hs : separateRuns rs)
    (ha : ∀ r ∈ rs, a < 2 ^ r.lo) (hx : x ∈ rs) :
    d.runsWordFrom i a rs / 2 ^ x.lo % 2 ^ x.w = d.val x.fld i / 2 ^ x.src % 2 ^ x.w := by
  induction rs generalizing a with
  | nil => simp at hx
  | cons r rs ih =>
    obtain ⟨above, -⟩ := List.pairwise_cons.mp hs.2
    have fits : d.val r.fld i / 2 ^ r.src % 2 ^ r.w < 2 ^ r.w := Nat.mod_lt _ (Nat.two_pow_pos _)
    have low : a < 2 ^ r.lo := ha r List.mem_cons_self
    rw [Dev.runsWordFrom, List.foldl_cons]
    rcases List.mem_cons.mp hx with rfl | hx
    · have rest := d.runsWordFrom_mod i (a + d.val x.fld i / 2 ^ x.src % 2 ^ x.w * 2 ^ x.lo) (x.lo + x.w)
        fun q hq => (above q hq).2
      rw [← Nat.mod_mul_right_div_self, ← Nat.pow_add]
      refine (congrArg (· / 2 ^ x.lo) rest).trans ?_
      rw [Nat.pow_add, Nat.mod_mul_right_div_self, Nat.add_mul_div_right _ _ (Nat.two_pow_pos _), Nat.div_eq_of_lt low,
        Nat.zero_add, Nat.mod_mod]
    · refine ih _ hs.tail (fun q hq => ?_) hx
      have top : a + d.val r.fld i / 2 ^ r.src % 2 ^ r.w * 2 ^ r.lo < 2 ^ (r.lo + r.w) := by
        rw [Nat.pow_add]
        calc _ < 2 ^ r.lo + d.val r.fld i / 2 ^ r.src % 2 ^ r.w * 2 ^ r.lo := Nat.add_lt_add_right low _
          _ = (d.val r.fld i / 2 ^ r.src % 2 ^ r.w + 1) * 2 ^ r.lo := by rw [Nat.succ_mul, Nat.add_comm]
          _ ≤ 2 ^ r.w * 2 ^ r.lo := Nat.mul_le_mul_right _ fits
          _ = 2 ^ r.lo * 2 ^ r.w := Nat.mul_comm _ _
      exact Nat.lt_of_lt_of_le top (Nat.pow_le_pow_right (by decide) (above q hq).2)

/-! ### Writes by access type (R9) -/

/-- Clearing under a mask works bit by bit: the lowest bit, and the bits above it. -/
theorem clearMask_low (v m : Nat) :
    (clearMask v m % 2 = 1 ↔ v % 2 = 1 ∧ ¬ m % 2 = 1) ∧ clearMask v m / 2 = clearMask (v / 2) (m / 2) := by
  have le : v &&& m ≤ v := Nat.and_le_left
  have low : (v &&& m) % 2 = 1 ↔ v % 2 = 1 ∧ m % 2 = 1 := by simp
  rw [clearMask, clearMask, ← Nat.and_div_two]
  omega

/-- Clearing under a mask clears the bits that the mask sets. -/
theorem testBit_clearMask (v m k : Nat) : (clearMask v m).testBit k = (v.testBit k && !m.testBit k) := by
  induction k generalizing v m with
  | zero => rw [Bool.eq_iff_iff]; simpa [Nat.testBit_zero] using (clearMask_low v m).1
  | succ k ih => simp only [Nat.testBit_succ, (clearMask_low v m).2, ih]

/-- A write gives a field of type RW its bits of the word. -/
theorem Dev.get_plainWrite_rw (d : Dev) {r : Reg} (i v : Nat) {x : BitRun} (hs : separateRuns r.layout) (hx : x ∈ r.layout)
    (ha : x.fld.acc = .rw) : (d.plainWrite r i v).get x.fld i = v / 2 ^ x.lo % 2 ^ x.fld.w := by
  have others : ∀ q ∈ r.runsOf .rw1c, x.fld.key i ≠ q.fld.key i := fun q hq => by
    obtain ⟨hq, hc⟩ := List.mem_filter.mp hq
    exact hs.key_ne hx hq (by simp [ha, of_decide_eq_true hc]) i
  rw [Dev.plainWrite, Dev.get_putRuns_other _ _ _ _ (hs.runsOf .rw1c).1 others,
    Dev.get_putRuns_mem d i v (hs.runsOf .rw) (List.mem_filter.mpr ⟨hx, by simp [ha]⟩)]

/-- A write clears a bit of type RW1C where the word has a 1, and leaves it as it is where the word has a 0. -/
theorem Dev.get_plainWrite_rw1c (d : Dev) {r : Reg} (i v : Nat) {x : BitRun} (hs : separateRuns r.layout) (hx : x ∈ r.layout)
    (ha : x.fld.acc = .rw1c) (h1 : x.fld.w = 1) :
    (d.plainWrite r i v).get x.fld i = if v.testBit x.lo then 0 else d.get x.fld i % 2 := by
  obtain ⟨hsrc, hw, hf⟩ := hs.1 x hx
  have ones := hs.runsOf .rw1c
  have mem : x ∈ r.runsOf .rw1c := List.mem_filter.mpr ⟨hx, by simp [ha]⟩
  have others : ∀ q ∈ r.runsOf .rw, x.fld.key i ≠ q.fld.key i := fun q hq => by
    obtain ⟨hq, hc⟩ := List.mem_filter.mp hq
    exact hs.key_ne hx hq (by simp [ha, of_decide_eq_true hc]) i
  have shown := (d.putRuns (r.runsOf .rw) i v).runsWordFrom_bits i 0 ones (fun _ _ => Nat.two_pow_pos _) mem
  rw [← Dev.runsWord_eq_from, Dev.val_eq_get _ _ hf, Dev.get_putRuns_other d _ _ _ (hs.runsOf .rw).1 others, hsrc, hw, h1,
    Nat.pow_zero, Nat.div_one, Nat.pow_one] at shown
  have bit := testBit_clearMask ((d.putRuns (r.runsOf .rw) i v).runsWord (r.runsOf .rw1c) i) v x.lo
  rw [Nat.testBit_eq_decide_div_mod_eq, Nat.testBit_eq_decide_div_mod_eq, shown, Bool.eq_iff_iff] at bit
  rw [Dev.plainWrite, Dev.get_putRuns_mem _ _ _ ones mem, h1, Nat.pow_one]
  cases hv : v.testBit x.lo <;> simp [hv] at bit ⊢ <;> omega

/-- The words of TIL_ERR and GLB_NODE are of separate runs. -/
theorem separateRuns_tilErr : separateRuns Reg.TIL_ERR.layout := by decide

theorem separateRuns_glbNode : separateRuns Reg.GLB_NODE.layout := by decide

/-! ### Accesses from outside -/

section
variable {s : State} (hd : s.dev.die = true)
include hd

/-- R597: a whole write to the CSR space writes its words in order. -/
theorem exec_csrWrite_csr (a : BitVec 28) (ws : List (BitVec 32)) :
    exec (.csrWrite (.csr a) ws true) s = .next (s.after (s.dev.csrWrites a.toNat ws)) :=
  State.upd_onDie _ hd

/-- R597: a partial one is discarded whole. -/
theorem exec_csrWrite_partial (a : BitVec 28) (ws : List (BitVec 32)) :
    exec (.csrWrite (.csr a) ws false) s = .next (s.after (s.dev.set F.GLB_ERR.BAR_PARTIAL)) :=
  State.upd_onDie _ hd

/-- A port that is no host port has no Port Identity DVSEC to write (R107). -/
theorem exec_csrWrite_portIdentity_noHost {p : Fin 64} (hp : s.dev.isHost p.val = false) (word : Fin 3)
    (ws : List (BitVec 32)) : exec (.csrWrite (.portIdentity p word) ws true) s = .next (s.after s.dev) := by
  refine (State.upd_onDie _ hd).trans ?_
  simp [hp]

/-- A port that is no host port has no Forwarding Extension DVSEC to write (R264). -/
theorem exec_csrWrite_fwdExt_noHost {p : Fin 64} (hp : s.dev.isHost p.val = false) (word : Fin 4) (ws : List (BitVec 32)) :
    exec (.csrWrite (.fwdExt p word) ws true) s = .next (s.after s.dev) := by
  refine (State.upd_onDie _ hd).trans ?_
  simp [hp]

/-- The opcodes of a host port's Forwarding Extension DVSEC are plain (R264). -/
theorem exec_csrWrite_fwdExt_opcodes {p : Fin 64} (hp : s.dev.isHost p.val = true) (w : BitVec 32) (ws : List (BitVec 32)) :
    exec (.csrWrite (.fwdExt p 1) (w :: ws) true) s = .next (s.after (s.dev.plainWrite .FWDV_10 p.val w.toNat)) := by
  refine (State.upd_onDie _ hd).trans ?_
  simp [hp]

/-- R597: a read of an unmapped address answers 0. -/
theorem exec_rcRegisterRead_unmapped {a : BitVec 28} (h : place a.toNat = none) :
    exec (.rcRegisterRead a) s = .next (s.after { s.dev with rdata := 0 }) := by
  refine (State.upd_onDie _ hd).trans ?_
  rw [h]

/-- R9: a read of a mapped word answers what it shows, and clears what is RC. -/
theorem exec_rcRegisterRead_mapped {a : BitVec 28} {x : Place} (h : place a.toNat = some x) :
    exec (.rcRegisterRead a) s =
      .next (s.after { s.dev.readClear x with rdata := BitVec.ofNat 32 (s.dev.viewPlace x) }) := by
  refine (State.upd_onDie _ hd).trans ?_
  rw [h]

end

/-! ### REG_READ and REG_WRITE (R459) -/

section
variable {s : State} {r : FoernReq} {a n : Nat} (h0 : 0 < n) (hn : n ≤ 256) (ha : a < 2 ^ 32)
include h0 hn ha

/-- Words mapped in one block are answered in order, and what is RC is cleared. -/
theorem exec_regRead_okay {l : List Place} (acc : s.dev.accepts r (regCmd 0xCC00) = true)
    (hp : r.raw.drop 8 = bytes 4 a ++ bytes 4 n) (hl : placesOf a n = some l) :
    exec (.regRead r) s =
      .next (s.okay r 0xCC00 ((s.dev.taken r.via).readAll l).2 ((s.dev.taken r.via).readAll l).1) := by
  obtain ⟨addr, count, zero⟩ := le_addrCount (n := n) ha (by omega) []
  rw [List.append_nil] at addr count zero
  refine State.foern_okay _ acc ?_
  simp [hp, addr, count, zero, hl, Nat.ne_of_gt h0, Nat.not_lt.mpr hn]

/-- Words that are not all mapped in one block are not read. -/
theorem exec_regRead_declined (acc : s.dev.accepts r (regCmd 0xCC00) = true)
    (hp : r.raw.drop 8 = bytes 4 a ++ bytes 4 n) (hl : placesOf a n = none) :
    exec (.regRead r) s = .next (s.declined r 0xCC00 .invalidParam) := by
  obtain ⟨addr, count, zero⟩ := le_addrCount (n := n) ha (by omega) []
  rw [List.append_nil] at addr count zero
  refine State.foern_declined _ acc ?_
  simp [hp, addr, count, zero, hl]

/-- Words mapped in one block are written in order, and PERSIST stages the parameters they belong to (R449). -/
theorem exec_regWrite_okay {ws : List (BitVec 8)} {l : List Place} {e : Dev} (acc : s.dev.accepts r (regCmd 0xCC01) = true)
    (hp : r.raw.drop 8 = bytes 4 a ++ bytes 4 n ++ ws) (hw : ws.length = 4 * n) (hl : placesOf a n = some l)
    (written : (s.dev.taken r.via).writeAll (l.zip (wordsOf ws)) = (none, e)) :
    exec (.regWrite r) s = .next (s.okay r 0xCC01 e [] (e.stagePlaces l ++ stageCfg (l.zip (wordsOf ws)))) := by
  obtain ⟨addr, count, zero⟩ := le_addrCount (n := n) ha (by omega) ws
  have rest : (bytes 4 a ++ bytes 4 n ++ ws).drop 8 = ws := List.drop_left' (by simp)
  have size : (bytes 4 a ++ bytes 4 n ++ ws).length = 8 + 4 * n := by simp [hw]; omega
  refine State.foern_okay _ acc ?_
  rw [hp]
  simp only [addr, count, zero, hl, rest, size, written]
  have long : ¬ 8 + 4 * n < 8 := by omega
  simp [long, Nat.ne_of_gt h0, Nat.not_lt.mpr hn]

/-- Words that are not all mapped in one block are not written. -/
theorem exec_regWrite_declined {ws : List (BitVec 8)} (acc : s.dev.accepts r (regCmd 0xCC01) = true)
    (hp : r.raw.drop 8 = bytes 4 a ++ bytes 4 n ++ ws) (hl : placesOf a n = none) :
    exec (.regWrite r) s = .next (s.declined r 0xCC01 .invalidParam) := by
  obtain ⟨addr, count, zero⟩ := le_addrCount (n := n) ha (by omega) ws
  refine State.foern_declined _ acc ?_
  rw [hp]
  simp only [addr, count, hl, ite_self]

end

/-! ### The statement -/

/-- Settles O17: by the access rules above, each for its kind of access. -/
theorem registerAccess : Obligations.RegisterAccess := by
  unfold Obligations.RegisterAccess
  refine ⟨fun s a ws w x p word word4 t v => ⟨fun hd => ⟨?_, ?_, fun hp => ⟨?_, ?_⟩, ?_, ?_, ?_⟩, ?_, ?_, ⟨rfl, rfl⟩, ?_⟩,
    fun s r a n ws l h0 hn ha => ⟨fun acc hp => ⟨?_, ?_⟩, fun acc hp hw => ⟨?_, ?_⟩⟩⟩
  · exact exec_csrWrite_csr hd a (w :: ws)
  · exact exec_csrWrite_partial hd a (w :: ws)
  · exact exec_csrWrite_portIdentity_noHost hd hp word ws
  · exact exec_csrWrite_fwdExt_noHost hd hp word4 ws
  · exact fun hp => exec_csrWrite_fwdExt_opcodes hd hp w ws
  · exact exec_rcRegisterRead_unmapped hd
  · exact exec_rcRegisterRead_mapped hd
  · exact s.dev.get_plainWrite_rw1c t.val v (x := ⟨F.TIL_ERR.ROUTE_MISS, 0, 2, 1⟩) separateRuns_tilErr (by simp [Reg.layout])
      rfl rfl
  · exact s.dev.get_plainWrite_rw 0 v (x := ⟨F.GLB_NODE.FN_EDGE, 0, 16, 12⟩) separateRuns_glbNode (by simp [Reg.layout]) rfl
  · exact Dev.get_put_same s.dev F.FLT_LOST.LOST 0 0
  · exact exec_regRead_okay h0 hn ha acc hp
  · exact exec_regRead_declined h0 hn ha acc hp
  · exact fun hl written => exec_regWrite_okay h0 hn ha acc hp hw hl (Prod.ext written rfl)
  · exact exec_regWrite_declined h0 hn ha acc hp

end Sys2Proof.Machine
end

section
/-!
SUPPORT. The statements of family 09, Blend: the engine's commands (R341, R342, R346, R348 to R352) and group 0xC500 (R361,
R362).
-/

namespace Sys2Proof.Machine

/-! ### Fields that are cleared -/

/-- Erasing the cells of fields leaves the unlisted value in them, and leaves every other cell alone. -/
theorem Tab.get_eraseFlds (t : Tab Nat) (fs : List Fld) (i k : Nat) :
    (fs.foldl (fun r f => r.erase (f.key i)) t).get 0 k = if ∃ f ∈ fs, k = f.key i then 0 else t.get 0 k := by
  induction fs generalizing t with
  | nil => simp
  | cons f fs ih =>
    rw [List.foldl_cons, ih]
    by_cases h : k = f.key i
    · simp [h]
    · simp [h, Tab.get_erase_other 0 t h]

/-- A field that is cleared reads its reset value. -/
theorem Dev.get_clearFlds_mem (d : Dev) {fs : List Fld} {f : Fld} (h : f ∈ fs) (i : Nat) :
    (d.clearFlds fs i).get f i = f.rst := by
  have listed : ∃ g ∈ fs, f.key i = g.key i := ⟨f, h, rfl⟩
  simp only [Dev.get, Dev.clearFlds, fldGet, Tab.get_eraseFlds, if_pos listed, Nat.zero_xor]

/-- Clearing fields leaves a field of other cells alone, for indices below 65,536. -/
theorem Dev.get_clearFlds_field (d : Dev) {fs : List Fld} {f : Fld} (h : ∀ g ∈ fs, f.key 0 / 65536 ≠ g.key 0 / 65536) {i j : Nat}
    (hi : i < 65536) (hj : j < 65536) : (d.clearFlds fs i).get f j = d.get f j := by
  have other : ¬ ∃ g ∈ fs, f.key j = g.key i := fun ⟨g, hg, e⟩ => Fld.key_ne (h g hg) hj hi e
  simp only [Dev.get, Dev.clearFlds, fldGet, Tab.get_eraseFlds, if_neg other]

/-- The same of clearing fields at several indices. -/
theorem Dev.get_clearEach_field (d : Dev) {fs : List Fld} {f : Fld} (h : ∀ g ∈ fs, f.key 0 / 65536 ≠ g.key 0 / 65536)
    {ks : List Nat} {place : Nat → Nat} (hi : ∀ k ∈ ks, place k < 65536) {j : Nat} (hj : j < 65536) :
    (ks.foldl (fun d k => d.clearFlds fs (place k)) d).get f j = d.get f j := by
  induction ks generalizing d with
  | nil => rfl
  | cons k ks ih =>
    obtain ⟨here, later⟩ := List.forall_mem_cons.mp hi
    rw [List.foldl_cons, ih _ later, Dev.get_clearFlds_field d h here hj]

/-! ### The run-time state of a fold -/

@[simp] theorem Dev.foldRt_setFoldRt_same (d : Dev) (f : Nat) (r : FoldRt) : (d.setFoldRt f r).foldRt f = r :=
  Tab.get_put_same _ _ _ _

@[simp] theorem Dev.get_setFoldRt (d : Dev) (f : Nat) (r : FoldRt) (g : Fld) (i : Nat) :
    (d.setFoldRt f r).get g i = d.get g i := rfl

@[simp] theorem Dev.foldRt_foldFault (d : Dev) (k : Kind) (bit : Fld) (f : Nat) (rank : Option Nat) (line cause j : Nat) :
    (d.foldFault k bit f rank line cause).foldRt j = d.foldRt j := by
  simp [Dev.foldFault, Dev.foldRt]

/-- A Blend fault sets its bit of the tile, and no other field. -/
theorem Dev.get_foldFault_field (d : Dev) (k : Kind) {bit g : Fld} {f : Nat} (rank : Option Nat) (line cause : Nat) {j : Nat}
    (h : g.key 0 / 65536 ≠ bit.key 0 / 65536) (hf : f < 65536) (hj : j < 65536) :
    (d.foldFault k bit f rank line cause).get g j = d.get g j := by
  simp only [Dev.foldFault, Dev.get_raise, Dev.set]
  exact d.get_put_field 1 h (by omega) hj

/-- R342, R344: combining a rank that is not the last stores the line and its poison, and makes the following rank next. -/
theorem Dev.foldRt_foldCombine (d : Dev) {f rk : Nat} (l : Nat) (data : BitVec 512) (poison bad : Bool) (hf : f < 65536)
    (more : rk + 1 < d.get F.FOLD.RANKS f) :
    (d.foldCombine f rk l data poison bad).foldRt f =
      { d.foldRt f with
        acc := (d.foldRt f).acc.put (0, false) l
          (if rk = 0 then data else combine (d.get F.FOLD.TYPE f) (d.get F.FOLD.OP f) ((d.foldRt f).acc.get (0, false) l).1 data,
            (decide (rk ≠ 0) && ((d.foldRt f).acc.get (0, false) l).2) || poison || (bad && decide (rk ≠ 0)))
        cnt := (d.foldRt f).cnt.put 0 l (rk + 1)
        poisLog := (d.foldRt f).poisLog.put false l
          ((d.foldRt f).poisLog.get false l || poison || (bad && decide (rk ≠ 0))) } := by
  have notLast : rk + 1 ≠ d.get F.FOLD.RANKS f := Nat.ne_of_lt more
  have ranks (e : Dev) : (e.foldFault .blendPoison F.BLD_TILE_ERR.POISON f (some rk) l 0).get F.FOLD.RANKS f = e.get F.FOLD.RANKS f :=
    e.get_foldFault_field _ _ _ _ (by decide) hf hf
  unfold Dev.foldCombine
  dsimp only
  split
  · rw [if_neg (by rw [ranks]; exact notLast), Dev.foldRt_foldFault, Dev.foldRt_setFoldRt_same]
  · rw [if_neg (by rw [Dev.get_setFoldRt]; exact notLast), Dev.foldRt_setFoldRt_same]

/-! ### What the engine takes (R341, R342, R346) -/

section
variable {d : Dev} {f l : Nat} {m : Msg} (unc : Bool)

/-- R341: a request that is no full-line write is a type violation. -/
theorem Dev.foldTake_type (h : m.op ≠ .wrI ∨ m.be ≠ BitVec.allOnes 64) (hl : l = (m.addr.toNat - d.get F.FOLD.FWIN f * 2 ^ 16) / 64) :
    d.foldTake f m unc = some (d.foldViol f m .blendType F.BLD_TILE_ERR.TYPE l) := by
  have notFull : (decide (m.op = .wrI) && decide (m.be = BitVec.allOnes 64)) = false := by
    rcases h with h | h
    · rw [decide_eq_false h, Bool.false_and]
    · rw [decide_eq_false h, Bool.and_false]
  simp only [Dev.foldTake, notFull, ← hl]
  rfl

variable (hop : m.op = .wrI) (hbe : m.be = BitVec.allOnes 64)
  (hl : l = (m.addr.toNat - d.get F.FOLD.FWIN f * 2 ^ 16) / 64)
include hop hbe hl

/-- R341: a full-line write to a fold that is not open, and does not wait to rearm, is a rank violation. -/
theorem Dev.foldTake_notOpen (h : d.get F.FOLD.STATE f ≠ 1) (h2 : d.get F.FOLD.STATE f ≠ 2) :
    d.foldTake f m unc = some (d.foldViol f m .blendRankViol F.BLD_TILE_ERR.RANK_VIOL l) := by
  simp only [Dev.foldTake, ← hl]
  simp [hop, hbe, h, h2]

variable {rk : Nat} (open_ : d.get F.FOLD.STATE f = 1) (bound : d.rankOf f m = some rk)
  (fresh : (d.foldRt f).written.get false (l * 64 + rk) = false)
include open_ bound fresh

/-- R342: a contribution whose rank is next is answered and combined. -/
theorem Dev.foldTake_next (h : rk = (d.foldRt f).cnt.get 0 l) :
    d.foldTake f m unc =
      some ((((d.foldWritten f rk l).count (cTile (f / 64) 17)).answer (f / 64) m (.cmp .i)).foldCombine f rk l m.line m.poison unc) := by
  simp only [Dev.foldTake, ← hl]
  simp [hop, hbe, open_, bound, fresh, ← h]

/-- R346: a contribution whose rank is not next is answered where it can be staged, and held where it cannot. -/
theorem Dev.foldTake_early (h : rk ≠ (d.foldRt f).cnt.get 0 l) :
    d.foldTake f m unc = (d.foldStage f rk l m.line m.poison).map fun x =>
      ((x.foldWritten f rk l).count (cTile (f / 64) 17)).answer (f / 64) m (.cmp .i) := by
  simp only [Dev.foldTake, ← hl]
  simp [hop, hbe, open_, bound, fresh, h]

end

/-! ### One edge of the engine -/

/-- The device once the one request at the input of its engines has left it. -/
def Dev.emptied (d : Dev) : Dev := { d with bld := { d.bld with inq := [] } }

/-- A staged line that is next goes before the engine's input (R342). -/
theorem Dev.foldEdge_staged {d : Dev} {t : Nat} (unc : Bool) (h : (d.stagedNext t).isSome = true) : d.foldEdge t unc = d :=
  if_pos h

/-- An engine with nothing at its input takes nothing. -/
theorem Dev.foldEdge_idle {d : Dev} {t : Nat} (unc : Bool) (h : d.bld.inq = []) : d.foldEdge t unc = d := by
  simp [Dev.foldEdge, h]

section
variable {d : Dev} {t f : Nat} {g : Staged} (unc : Bool) (none_ : d.stagedNext t = none) (one : d.bld.inq = [(f, g)])
  (tile : f / 64 = t) (free : (d.foldRt f).held = [])
include none_ one tile free

/-- The one request at the engine's input, for whose source nothing is held, is taken, or held where it finds no space. -/
theorem Dev.foldEdge_one :
    d.foldEdge t unc =
      let hold := d.emptied.setFoldRt f { d.foldRt f with held := [g] }
      (d.emptied.foldTake f g.m unc).elim (if d.get F.FOLD.STATE f = 1 then hold.count (cTile t 25) else hold) (·.ends g) := by
  have left : { d with bld := { d.bld with inq := [] } } = d.emptied := rfl
  have rt : d.emptied.foldRt f = d.foldRt f := rfl
  simp only [Dev.foldEdge, none_, one, tile, free, left, rt, Option.isSome_none, List.find?_cons, List.erase_cons_head,
    beq_self_eq_true, List.any_nil, Bool.and_false, List.nil_append]
  cases d.emptied.foldTake f g.m unc <;> rfl

theorem Dev.foldEdge_takes {x : Dev} (h : d.emptied.foldTake f g.m unc = some x) :
    d.foldEdge t unc = x.ends g := by
  rw [Dev.foldEdge_one unc none_ one tile free, h]
  rfl

theorem Dev.foldEdge_holds (open_ : d.get F.FOLD.STATE f = 1)
    (h : d.emptied.foldTake f g.m unc = none) :
    d.foldEdge t unc = (d.emptied.setFoldRt f { d.foldRt f with held := [g] }).count
      (cTile t 25) := by
  rw [Dev.foldEdge_one unc none_ one tile free, h]
  exact if_pos open_

end

/-! ### The commands of the engine on a live die -/

section
variable {s : State} (hd : s.dev.die = true)
include hd

theorem exec_foldRequest {t : Tile} (unc : Bool) (h : s.dev.tileFenced t.val = false) :
    exec (.foldRequest t unc) s = .next (s.after (s.dev.foldEdge t.val unc)) := by
  refine (State.upd_onDie _ hd).trans ?_
  simp [h]

theorem exec_foldRequest_fenced {t : Tile} (unc : Bool) (h : s.dev.tileFenced t.val = true) :
    exec (.foldRequest t unc) s = .next (s.after s.dev) := by
  refine (State.upd_onDie _ hd).trans ?_
  simp [h]

/-- An engine that is fenced, has a staged line to combine first, or has nothing at its input takes nothing. -/
theorem exec_foldRequest_nothing {t : Tile} (unc : Bool)
    (h : s.dev.tileFenced t.val = true ∨ (s.dev.stagedNext t.val).isSome = true ∨ s.dev.bld.inq = []) :
    exec (.foldRequest t unc) s = .next (s.after s.dev) := by
  cases fenced : s.dev.tileFenced t.val with
  | true => exact exec_foldRequest_fenced hd unc fenced
  | false =>
    rw [exec_foldRequest hd unc fenced]
    rcases h with h | h | h
    · simp [fenced] at h
    · rw [Dev.foldEdge_staged unc h]
    · rw [Dev.foldEdge_idle unc h]

section
variable {t : Tile} {f : Nat} {g : Staged} (unc : Bool) (fence : s.dev.tileFenced t.val = false)
  (none_ : s.dev.stagedNext t.val = none) (one : s.dev.bld.inq = [(f, g)]) (tile : f / 64 = t.val)
  (free : (s.dev.foldRt f).held = [])
include fence none_ one tile free

theorem exec_foldRequest_takes {x : Dev} (h : s.dev.emptied.foldTake f g.m unc = some x) :
    exec (.foldRequest t unc) s = .next (s.after (x.ends g)) := by
  rw [exec_foldRequest hd unc fence, Dev.foldEdge_takes unc none_ one tile free h]

theorem exec_foldRequest_holds (open_ : s.dev.get F.FOLD.STATE f = 1) (h : s.dev.emptied.foldTake f g.m unc = none) :
    exec (.foldRequest t unc) s =
      .next (s.after ((s.dev.emptied.setFoldRt f { s.dev.foldRt f with held := [g] }).count (cTile t.val 25))) := by
  rw [exec_foldRequest hd unc fence, Dev.foldEdge_holds unc none_ one tile free open_ h]

end

/-- R342: a staged line that is next leaves its place and is combined. -/
theorem exec_blendStagedDrain {t : Tile} (unc : Bool) {f rk l : Nat} (h : s.dev.tileFenced t.val = false)
    (next : s.dev.stagedNext t.val = some (f, rk, l)) :
    exec (.blendStagedDrain t unc) s =
      let b := ((s.dev.foldRt f).staged.get none (l * 64 + rk)).getD (0, false)
      .next (s.after (((s.dev.foldUnstage f rk l).count (cTile t.val 19)).foldCombine f rk l b.1 b.2 unc)) := by
  refine (State.upd_onDie _ hd).trans ?_
  simp [h, Dev.foldDrain, next]

theorem exec_blendStagedDrain_nothing {t : Tile} (unc : Bool) (h : s.dev.tileFenced t.val = true ∨ s.dev.stagedNext t.val = none) :
    exec (.blendStagedDrain t unc) s = .next (s.after s.dev) := by
  refine (State.upd_onDie _ hd).trans ?_
  rcases h with h | h <;> simp [h, Dev.foldDrain]

/-- R349: a fold whose results have all been written is DONE. -/
theorem exec_foldResultWriteComplete {f : FoldId} (st : s.dev.get F.FOLD.STATE f.val = 2) (h : (s.dev.foldRt f.val).writing = []) :
    exec (.foldResultWriteComplete f) s =
      .next (s.after (((s.dev.put F.FOLD.STATE f.val 3).count (cTile (f.val / 64) 21)).notice f.val 1)) := by
  refine (State.upd_onDie _ hd).trans ?_
  simp [st, h]

theorem exec_foldResultWriteComplete_nothing {f : FoldId} (h : s.dev.get F.FOLD.STATE f.val ≠ 2 ∨ (s.dev.foldRt f.val).writing ≠ []) :
    exec (.foldResultWriteComplete f) s = .next (s.after s.dev) := by
  refine (State.upd_onDie _ hd).trans ?_
  rcases h with h | h <;> simp [h]

/-- R351: a DONE fold with AUTO_REARM that no tile fence has met reopens. -/
theorem exec_foldRearm {f : FoldId} (st : s.dev.get F.FOLD.STATE f.val = 3) (auto : s.dev.bit F.FOLD.AUTO_REARM f.val = true)
    (stays : (s.dev.foldRt f.val).stays = false) (fence : s.dev.tileFenced (f.val / 64) = false) :
    exec (.foldRearm f) s = .next (s.after (s.dev.rearm f.val)) := by
  refine (State.upd_onDie _ hd).trans ?_
  simp [st, auto, stays, fence]

theorem exec_foldRearm_nothing {f : FoldId} (h : s.dev.get F.FOLD.STATE f.val ≠ 3 ∨ s.dev.bit F.FOLD.AUTO_REARM f.val = false ∨
    (s.dev.foldRt f.val).stays = true ∨ s.dev.tileFenced (f.val / 64) = true) :
    exec (.foldRearm f) s = .next (s.after s.dev) := by
  refine (State.upd_onDie _ hd).trans ?_
  rcases h with h | h | h | h <;> simp [h]

/-- R352: the time-out abandons an open fold that has a contribution. -/
theorem exec_foldTimeout {f : FoldId} (st : s.dev.get F.FOLD.STATE f.val = 1) (limit : s.dev.get F.FOLD.TIMEOUT f.val ≠ 0)
    (some_ : (s.dev.foldRt f.val).written ≠ []) :
    exec (.foldTimeout f) s = .next (s.after (s.dev.foldAbandon f.val 1)) := by
  refine (State.upd_onDie _ hd).trans ?_
  simp [st, limit, some_]

theorem exec_foldTimeout_nothing {f : FoldId} (h : s.dev.get F.FOLD.STATE f.val ≠ 1 ∨ s.dev.get F.FOLD.TIMEOUT f.val = 0 ∨
    (s.dev.foldRt f.val).written = []) : exec (.foldTimeout f) s = .next (s.after s.dev) := by
  refine (State.upd_onDie _ hd).trans ?_
  rcases h with h | h | h <;> simp [h]

end

/-! ### The entry after a rearm (R351) -/

/-- A rearm writes STATE and EPOCH, and clears what the epoch has counted. -/
theorem Dev.get_rearm (d : Dev) (f : Nat) (g : Fld) (i : Nat) :
    (d.rearm f).get g i = (((d.put F.FOLD.STATE f 1).put F.FOLD.EPOCH f (d.get F.FOLD.EPOCH f + 1)).clearFlds
      [F.FOLD.LINES_DONE, F.FOLD.POISONED, F.FOLD.RANKS_IN] f).get g i := rfl

theorem Dev.rearm_entry (d : Dev) {f : Nat} (hf : f < 65536) :
    (d.rearm f).get F.FOLD.STATE f = 1 ∧
      (d.rearm f).get F.FOLD.EPOCH f = (d.get F.FOLD.EPOCH f + 1) % 2 ^ F.FOLD.EPOCH.w ∧
      (d.rearm f).get F.FOLD.LINES_DONE f = 0 := by
  simp only [Dev.get_rearm]
  refine ⟨?_, ?_, ?_⟩
  · rw [Dev.get_clearFlds_field _ (by decide) hf hf, Dev.get_put_field _ _ (by decide) hf hf, Dev.get_put_same]
    rfl
  · rw [Dev.get_clearFlds_field _ (by decide) hf hf, Dev.get_put_same]
  · exact Dev.get_clearFlds_mem _ (by simp) f

/-! ### The statement of the engine -/

/-- Settles O41: what the engine takes by the five rules of `Dev.foldTake`, the other commands each by its own rule. -/
theorem foldEngine : Obligations.FoldEngine := by
  unfold Obligations.FoldEngine
  rintro s t fi f rk l g unc x hd rfl
  have hf : fi.val < 65536 := Nat.lt_trans fi.isLt (by decide)
  refine ⟨exec_foldRequest_nothing hd unc, fun fence none_ one tile free hl => ?_, fun more => ?_,
    exec_blendStagedDrain_nothing hd unc, exec_blendStagedDrain hd unc, exec_foldResultWriteComplete hd,
    exec_foldResultWriteComplete_nothing hd, fun st auto stays fence => ⟨exec_foldRearm hd st auto stays fence, s.dev.rearm_entry hf⟩,
    exec_foldRearm_nothing hd, exec_foldTimeout hd, exec_foldTimeout_nothing hd⟩
  · have takes {y : Dev} (h : s.dev.emptied.foldTake fi.val g.m unc = some y) :
        exec (.foldRequest t unc) s = .next (s.after (y.ends g)) :=
      exec_foldRequest_takes hd unc fence none_ one tile free h
    have holds (st : s.dev.get F.FOLD.STATE fi.val = 1) (h : s.dev.emptied.foldTake fi.val g.m unc = none) :=
      exec_foldRequest_holds hd unc fence none_ one tile free st h
    refine ⟨fun hop hbe st bound fresh => ⟨fun next => ?_, fun early room => ?_, fun early full => ?_⟩, fun h => ?_, fun hop hbe st => ?_⟩
    · rw [← tile]
      exact takes (Dev.foldTake_next (d := s.dev.emptied) unc hop hbe hl st bound fresh next)
    · rw [← tile]
      exact takes ((Dev.foldTake_early (d := s.dev.emptied) unc hop hbe hl st bound fresh early).trans (congrArg _ room))
    · exact holds st ((Dev.foldTake_early (d := s.dev.emptied) unc hop hbe hl st bound fresh early).trans (congrArg _ full))
    · exact takes (Dev.foldTake_type (d := s.dev.emptied) unc h hl)
    · exact takes (Dev.foldTake_notOpen (d := s.dev.emptied) unc hop hbe hl (show s.dev.get F.FOLD.STATE fi.val ≠ 1 by omega)
        (show s.dev.get F.FOLD.STATE fi.val ≠ 2 by omega))
  · simp only [s.dev.foldRt_foldCombine l g.m.line g.m.poison unc hf more, Tab.get_put_same, and_self]

/-! ### Group 0xC500 (R335 to R337, R345, R346, R361, R362) -/

/-- A selector below 512 names its fold. -/
theorem toNat_foldSel {f : Nat} (hf : f < 512) : (BitVec.ofNat 16 f).toNat = f := by
  rw [BitVec.toNat_ofNat]
  exact Nat.mod_eq_of_lt (by omega)

/-- A freed fold is free. -/
theorem Dev.state_foldFree (d : Dev) {f : Nat} (hf : f < 512) : (d.foldFree f).get F.FOLD.STATE f = 0 := by
  refine (Dev.get_clearEach_field _ (place := (f * 64 + ·)) (by decide) (fun k hk => ?_) (by omega)).trans ?_
  · have := List.mem_range.mp hk
    omega
  · exact Dev.get_clearFlds_mem _ (by simp) f

/-- R367: the tenant of some rank would hold more ranks of open folds than its quota. -/
def Dev.foldShort (d : Dev) (rks : List Nat) : Bool :=
  rks.any fun w => w / 2 ^ 22 = 1 && decide (d.get F.INS.Q_FOLDS (w / 2 ^ 12 % 1024) <
    d.foldsUsed (w / 2 ^ 12 % 1024) + rks.countP fun v => v / 2 ^ 22 == 1 && v / 2 ^ 12 % 1024 == w / 2 ^ 12 % 1024)

theorem Dev.foldShort_iff (d : Dev) (rks : List Nat) : d.foldShort rks = true ↔
    ∃ w ∈ rks, w / 2 ^ 22 = 1 ∧ d.get F.INS.Q_FOLDS (w / 2 ^ 12 % 1024) <
      d.foldsUsed (w / 2 ^ 12 % 1024) + rks.countP fun v => v / 2 ^ 22 == 1 && v / 2 ^ 12 % 1024 == w / 2 ^ 12 % 1024 := by
  simp only [Dev.foldShort, List.any_eq_true, Bool.and_eq_true, decide_eq_true_eq]

/-- FOLD_OPEN finds a pool exhausted where the cells or a quota do not suffice. -/
theorem foldOpen_exhausted_iff (d : Dev) (room : Bool) (rks : List Nat) : (!room || d.foldShort rks) = true ↔
    room = false ∨ ∃ w ∈ rks, w / 2 ^ 22 = 1 ∧ d.get F.INS.Q_FOLDS (w / 2 ^ 12 % 1024) <
      d.foldsUsed (w / 2 ^ 12 % 1024) + rks.countP fun v => v / 2 ^ 22 == 1 && v / 2 ^ 12 % 1024 == w / 2 ^ 12 % 1024 := by
  rw [Bool.or_eq_true, Bool.not_eq_true', Dev.foldShort_iff]

section
variable {s : State} {r : FoernReq} {f : Nat} (hf : f < 512)
include hf

/-- R361: FOLD_STATUS answers the words of the entry. -/
theorem exec_foldStatus
    (acc : s.dev.accepts r { opcode := 0xC502, may := fun p _ sel => s.dev.foldSees p sel.toNat, modes := foldModes } = true)
    (sel : (hdrOf 0xC502 r.raw).sel = BitVec.ofNat 16 f) (none_ : r.raw.drop 8 = []) :
    let d := s.dev.taken r.via
    exec (.foldStatus r) s = .next (s.okay r 0xC502 d (bytes 4 (d.word .FOLD0 f) ++ bytes 4 (d.word .FOLD8 f) ++
        bytes 4 (d.word .FOLD9 f) ++ bytes 4 (d.word .FOLD10 f) ++ bytes 4 (d.word .FOLD11 f) ++ bytes 4 (d.foldCells f) ++
        bytes 4 (d.word .FOLD13 f))) := by
  refine (State.upd_onDie _ (Dev.die_of_accepts acc)).trans ?_
  rw [Dev.foern_accepts _ acc]
  simp only [sel, toNat_foldSel hf, none_, List.length_nil, Nat.not_le.mpr hf]
  rfl

end

/-- Settles O42: each check of FOLD_OPEN, each state of a fold that FOLD_CLOSE finds, and FOLD_STATUS. -/
theorem foldCommands : Obligations.FoldCommands := by
  unfold Obligations.FoldCommands
  intro s r f a hf ha
  have inRange : ¬ 512 ≤ f := Nat.not_le.mpr hf
  refine ⟨fun acc sel => ⟨fun bad => ?_, fun good st => ?_, fun good st short => ?_, fun good st room quota => ?_⟩,
    fun acc sel hp => ?_, fun acc sel hp => exec_foldStatus hf acc sel hp⟩
  · refine State.foern_declined _ acc ?_
    simp only [sel, toNat_foldSel hf, bad, Bool.or_true, if_true]
  · refine State.foern_declined _ acc ?_
    simp only [sel, toNat_foldSel hf, good, inRange, decide_false, Bool.or_false, Bool.false_eq_true, if_false]
    exact if_pos st
  · refine State.foern_declined _ acc ?_
    simp only [sel, toNat_foldSel hf, good, inRange, decide_false, Bool.or_false, Bool.false_eq_true, if_false, st, ne_eq, not_true]
    exact if_pos ((foldOpen_exhausted_iff _ _ _).mpr short)
  · refine State.foern_okay _ acc ?_
    simp only [sel, toNat_foldSel hf, good, inRange, decide_false, Bool.or_false, Bool.false_eq_true, if_false, st, ne_eq, not_true]
    refine if_neg fun h => ?_
    rcases (foldOpen_exhausted_iff _ _ _).mp h with none_ | short
    · exact Bool.noConfusion (none_.symm.trans room)
    · exact quota short
  · have abort : le (bytes 4 a) 0 4 = a := (le_bytes_all 4 a).trans (Nat.mod_eq_of_lt (by omega))
    have flag : ¬ 1 < a := by omega
    refine ⟨fun st => State.foern_declined _ acc ?_, fun st one => State.foern_declined _ acc ?_, fun st one => State.foern_okay _ acc ?_,
      fun st => State.foern_declined _ acc ?_, fun st => ⟨State.foern_okay _ acc ?_, Dev.state_foldFree _ hf⟩⟩
    all_goals simp only [sel, toNat_foldSel hf, hp, bytes_length, abort, inRange, flag, decide_false, ne_eq, not_true, Bool.or_false,
      Bool.false_eq_true, if_false]
    · rw [st]; rfl
    · rw [st, one]; rfl
    · rw [st, one]; rfl
    · rw [st]; rfl
    · generalize (s.dev.taken r.via).get F.FOLD.STATE f = n at st
      match n, st with
      | n + 3, _ => rfl

end Sys2Proof.Machine
end
